-- ==== Sys2Proof/Word.lean ====
section
/-! DEFINITION. The plain words of the part: bytes, pixel words, text codes, and the fixed-length table
that every bank of like things in the state is held in. -/

namespace Sys2Proof

/-- One byte of a record or of burst data (spec 00, Conventions). -/
abbrev Byte := BitVec 8

/-- A pixel: a 32-bit opaque colour word, never interpreted (spec 00, Sizes). -/
abbrev Pixel := BitVec 32

/-- A 32-bit count that wraps: counters, uptime, frame, capture, order and showing numbers. -/
abbrev Count := BitVec 32

/-- A text code, which is also a glyph number (R87). -/
abbrev Code := Fin 128

/-- A bank of exactly `n` like things. The length is part of the data, so that an index of type
`Fin n` always names an entry. -/
structure Tab (α : Type) (n : Nat) where
  list : List α
  size : list.length = n
deriving DecidableEq, Repr

namespace Tab

/-- Entry `i`. -/
def get {α : Type} {n : Nat} (t : Tab α n) (i : Fin n) : α :=
  t.list[i.val]'(t.size.symm ▸ i.isLt)

/-- The table with entry `i` replaced. -/
def set {α : Type} {n : Nat} (t : Tab α n) (i : Fin n) (x : α) : Tab α n :=
  ⟨t.list.set i.val x, (List.length_set ..).trans t.size⟩

/-- The table whose entries are all `x`. -/
def fill {α : Type} (n : Nat) (x : α) : Tab α n :=
  ⟨List.replicate n x, List.length_replicate⟩

/-- Every entry changed by `f`. -/
def map {α β : Type} {n : Nat} (f : α → β) (t : Tab α n) : Tab β n :=
  ⟨t.list.map f, (List.length_map ..).trans t.size⟩

/-- Entry `i` changed by `f`. -/
def modify {α : Type} {n : Nat} (t : Tab α n) (i : Fin n) (f : α → α) : Tab α n :=
  t.set i (f (t.get i))

end Tab

end Sys2Proof
end

