-- ==== Sys2Proof/Config.lean ====
section
/-! DEFINITION. What the part fixes: queue capacities, limits and address-space bounds, each with its
rule, and the one value the manual leaves open. -/

namespace Sys2Proof.Config

/-- One past the top of the 36-bit address space, 10_0000_0000h (R47). -/
def addressSpace : Nat := 0x1000000000
/-- The forward queue holds up to 16 requests (R10). -/
def forwardCapacity : Nat := 16
/-- The response order list holds up to 32 entries (R11). -/
def responseCapacity : Nat := 32
/-- The mirror queue holds up to 32 copies (R14). -/
def mirrorCapacity : Nat := 32
/-- From this many queued copies the mirror queue wins MP over the forward queue (R17). -/
def mirrorPressure : Nat := 24
/-- The report write queue holds up to 2 report writes (R16). -/
def reportWriteCapacity : Nat := 2
/-- A report write that has waited through this many grants wins MP (R17). -/
def reportPatience : Nat := 64
/-- The report queue holds up to 8 reports (R27). -/
def reportQueueCapacity : Nat := 8
/-- The ring has room while fewer than 63 reports are unacknowledged (R28). -/
def ringCapacity : Nat := 63
/-- The largest game clock value in ms, the limit in UP mode (R105). -/
def gameClockTop : Nat := 5999000
/-- The largest possession clock value in ms (R105). -/
def possessionTop : Nat := 99000
/-- The reference rate after RESET_N, in Hz (R103). -/
def resetRate : Nat := 10000000
/-- The lowest and highest reference rates (R103). -/
def rateLow : Nat := 1000000
def rateHigh : Nat := 50000000
/-- What the accumulator adds on each REFCLK cycle (R103). -/
def accumulatorStep : Nat := 1000

/-- A pixel of a merged response for which the response that arrived brought no memory pixel. The
manual gives no value: a response of another length than the read it is matched with arises only as
Caution 1.8 describes. Free value; the argument is the model's own `State.free` counter
(assumption log 1). -/
opaque missingPixel : Nat → Pixel

end Sys2Proof.Config
end

