-- ==== Sys2Proof/Syntax.lean ====
section
/-! DEFINITION. The commands of the part: one constructor of `Instr` for each row of
spec/opcode_table.json, with the row's operands as the bus or the pins give them. Operands of host
commands are the raw fields of the command record (R43, R44), so that every encoding the host can
write is a term and the command's own refusals are part of its meaning. -/

namespace Sys2Proof

/-- The direction of a change of a discrete line. -/
inductive Edge where
  | rising
  | falling
deriving DecidableEq, Repr

/-- The direction of a burst (R3). -/
inductive Dir where
  | read
  | write
deriving DecidableEq, Repr

/-- One request on RP or MP (R3). `data` and `enables` are empty for a READ. -/
structure Burst where
  addr : BitVec 36
  dir : Dir
  beats : Nat
  tag : BitVec 4
  data : List Byte
  enables : List Bool
deriving DecidableEq, Repr

/-- The two horns (R116). -/
inductive HornId where
  | game
  | possession
deriving DecidableEq, Repr

/-- The two official timing console lines (R107). -/
inductive ConsoleLine where
  | gcStart
  | gcStop
deriving DecidableEq, Repr

/-- The fields of a command record that every command has beside its code: the flag QUIET and the
16-bit tag (R23). Other flag positions are ignored. -/
structure Header where
  quiet : Bool
  tag : BitVec 16
deriving DecidableEq, Repr

/-- The commands, events and bus operations of spec/opcode_table.json, in the table's order. -/
inductive Instr where
  | resetAssert
  | resetRelease (caSel : BitVec 4)
  | requestWithhold (b : Burst)
  | burstAccept (b : Burst)
  | forwardGrant
  | mirrorGrant
  | reportWriteGrant
  | mpResponse (pixels : List Pixel)
  | responseReturn
  | reportMove
  | commandUnknown (h : Header) (code : Byte)
  | nop (h : Header)
  | reportAck (h : Header) (index : Byte)
  | select (h : Header) (table : Byte) (index : BitVec 16) (view zone : Byte)
  | examine (h : Header)
  | deposit (h : Header) (operands : List Byte)
  | snapshot (h : Header) (group : Byte) (first count : BitVec 16)
  | counterMode (h : Header) (overflow clear : Byte)
  | counterClear (h : Header)
  | softReset (h : Header)
  | tableLockChange (level : Bool)
  | apply (h : Header)
  | alertOn (h : Header)
  | alertOff (h : Header)
  | alertInChange (level : Bool)
  | probe (h : Header) (address : BitVec 40)
  | zonePulse (zone : Fin 4) (edge : Edge)
  | zoneLoss (zone : Fin 4)
  | msPulse
  | gameClockExpire
  | possExpire
  | hornExpire (which : HornId)
  | messageExpire (place : Fin 64)
  | holdTimerExpire
  | lineStart (edge : Edge)
  | lineStop (line : ConsoleLine) (edge : Edge)
  | pcReset (edge : Edge)
  | clockConfig (h : Header) (refRate : BitVec 32) (mode startSense stopSense : Byte)
      (threshold duration : BitVec 32)
  | clockStart (h : Header)
  | clockStop (h : Header)
  | clockSet (h : Header) (value : BitVec 32)
  | clockAdjust (h : Header) (delta : BitVec 32)
  | clockMode (h : Header) (mode : Byte)
  | breakOn (h : Header)
  | breakOff (h : Header)
  | possConfig (h : Header) (preset threshold : BitVec 32) (stopGame sense : Byte)
      (duration : BitVec 32)
  | possEnable (h : Header) (enabled : Byte)
  | possReset (h : Header)
  | possSet (h : Header) (value : BitVec 32)
  | horn (h : Header) (which action : Byte)
  | scoreSet (h : Header) (side : Byte) (value : BitVec 16)
  | scoreAdd (h : Header) (side : Byte) (delta : BitVec 32)
  | fieldSet (h : Header) (field : Byte) (value : BitVec 16)
  | fieldAdd (h : Header) (field : Byte) (delta : BitVec 32)
  | recordFramePulse (edge : Edge)
  | recordArm (h : Header)
  | recordStop (h : Header)
  | clipIn (h : Header) (clipTag preRoll : BitVec 16)
  | clipOut (h : Header)
  | clipFree (h : Header) (clip : Byte)
  | playerConfig (h : Header) (paceZone endMode partialSkip alertPolicy : Byte)
  | cueClip (h : Header) (clip : Byte)
  | cueRange (h : Header) (first length : BitVec 16)
  | cueClock (h : Header) (value : BitVec 32) (length : BitVec 16)
  | play (h : Header)
  | pause (h : Header)
  | step (h : Header)
  | rate (h : Header) (newRate : BitVec 16)
  | stop (h : Header)
  | panelStart (h : Header) (panel : Byte)
  | panelStop (h : Header) (panel : Byte)
  | panelHold (h : Header) (panel : Byte)
  | panelForce (h : Header) (panel entry : Byte) (frames : BitVec 16)
  | queueConfig (h : Header) (paceZone : Byte)
      (width speed gap scale high low holdTime margin : BitVec 16) (finalNotice : Byte)
  | msgOpen (h : Header) (id : BitVec 16) (cls : Byte) (length repeats lifetime : BitVec 16)
      (colour sponsor : Byte)
  | msgText (h : Header) (id offset : BitVec 16) (count : Byte) (codes : List Byte)
  | msgPost (h : Header) (id : BitVec 16)
  | msgWithdraw (h : Header) (id : BitVec 16)
deriving DecidableEq, Repr

end Sys2Proof
end

