-- ==== Sys2Proof/WellFormed.lean ====
section
/-! DEFINITION. Which terms of `Instr` the bus and the pins can give: bursts and responses of the
lengths R3 allows, and operand lists of the lengths the command record has (R43). Everything else a
host can write is well formed, and the command itself refuses it. -/

namespace Sys2Proof

/-- A burst of R3: an address that is a multiple of 8, 1, 2, 4 or 8 beats, and for a WRITE 8 bytes and
8 byte enables a beat; a READ carries neither. -/
def Burst.wellFormed (b : Burst) : Bool :=
  b.addr.toNat % 8 == 0 &&
  (b.beats == 1 || b.beats == 2 || b.beats == 4 || b.beats == 8) &&
  match b.dir with
  | .read => b.data.isEmpty && b.enables.isEmpty
  | .write => b.data.length == 8 * b.beats && b.enables.length == 8 * b.beats

/-- A read response of R3 has 1, 2, 4 or 8 beats of two pixels. -/
def responseWellFormed (pixels : List Pixel) : Bool :=
  pixels.length == 2 || pixels.length == 4 || pixels.length == 8 || pixels.length == 16

/-- The codes of the command code list of R43. -/
def commandCodeDefined (code : Byte) : Bool :=
  let c := code.toNat
  (0x01 ≤ c && c ≤ 0x09) || (0x10 ≤ c && c ≤ 0x13) || (0x20 ≤ c && c ≤ 0x2C) ||
  (0x30 ≤ c && c ≤ 0x33) || (0x40 ≤ c && c ≤ 0x44) || (0x50 ≤ c && c ≤ 0x58) ||
  (0x60 ≤ c && c ≤ 0x63) || (0x70 ≤ c && c ≤ 0x74)

/-- The operand bytes of a command record (R23: 28 bytes). -/
def operandBytes : Nat := 28

/-- What is left of them for the codes of a MSG_TEXT after id, offset and count (R187). -/
def textBytes : Nat := 23

/-- The commands that can arrive. -/
def Instr.wellFormed : Instr → Bool
  | .requestWithhold b => b.wellFormed
  | .burstAccept b => b.wellFormed
  | .mpResponse pixels => responseWellFormed pixels
  | .commandUnknown _ code => !commandCodeDefined code
  | .deposit _ operands => operands.length == operandBytes
  | .msgText _ _ _ _ codes => codes.length == textBytes
  | _ => true

end Sys2Proof
end

