-- ==== Sys2Proof/Decode.lean ====
section
/-! DEFINITION. The command record (R43, R44): byte order, the reading of a 32-byte record into the
command it carries, and its writing. The rows of spec/opcode_table.json give no bits, so that
`decodeTableWord` spells no command. -/

namespace Sys2Proof

/-! ## Byte order: every multi-byte field is little-endian (R43) -/

/-- The value of bytes whose first is the least significant. -/
def leNat : List Byte → Nat
  | [] => 0
  | b :: rest => b.toNat + 256 * leNat rest

/-- The `w` bytes of `v`, least significant first. -/
def leBytes : Nat → Nat → List Byte
  | 0, _ => []
  | w + 1, v => BitVec.ofNat 8 v :: leBytes w (v / 256)

/-- The `w`-byte field that starts at byte `off`. -/
def fieldAt (w : Nat) (bytes : List Byte) (off : Nat) : Nat := leNat ((bytes.drop off).take w)

/-- The same field as a word of `8 * w` bits. -/
def bitsAt (w : Nat) (bytes : List Byte) (off : Nat) : BitVec (8 * w) :=
  BitVec.ofNat (8 * w) (fieldAt w bytes off)

/-- The `w` bytes of a word of `8 * w` bits. -/
def bytesOf (w : Nat) (v : BitVec (8 * w)) : List Byte := leBytes w v.toNat

/-! ## The command record -/

/-- Flags (bit 0 QUIET, the others ignored) and tag of a record (R43). -/
def recordHeader (r : List Byte) : Header :=
  { quiet := (bitsAt 1 r 1).getLsbD 0, tag := bitsAt 2 r 2 }

/-- The command a 32-byte record carries (R23): code, flags, tag and the fields its owning chapter
lists, packed with no gaps from byte 4 (R44). A code not in the list, 00h among them, is
COMMAND_UNKNOWN. R123 gives the field number of FIELD_SET and FIELD_ADD no width and the classes of R44 do not name
it: it is read as 1 byte, and the value or the delta from operand byte 1 (DEDUCED; assumption log 40). -/
def decodeRecord (r : List Byte) : Instr :=
  let h := recordHeader r
  let o := r.drop 4
  match fieldAt 1 r 0 with
  | 0x01 => .nop h
  | 0x02 => .reportAck h (bitsAt 1 o 0)
  | 0x03 => .select h (bitsAt 1 o 0) (bitsAt 2 o 1) (bitsAt 1 o 3) (bitsAt 1 o 4)
  | 0x04 => .examine h
  | 0x05 => .deposit h o
  | 0x06 => .snapshot h (bitsAt 1 o 0) (bitsAt 2 o 1) (bitsAt 2 o 3)
  | 0x07 => .counterMode h (bitsAt 1 o 0) (bitsAt 1 o 1)
  | 0x08 => .counterClear h
  | 0x09 => .softReset h
  | 0x10 => .apply h
  | 0x11 => .alertOn h
  | 0x12 => .alertOff h
  | 0x13 => .probe h (bitsAt 5 o 0)
  | 0x20 => .clockConfig h (bitsAt 4 o 0) (bitsAt 1 o 4) (bitsAt 1 o 5)
      (bitsAt 1 o 6) (bitsAt 4 o 7) (bitsAt 4 o 11)
  | 0x21 => .clockStart h
  | 0x22 => .clockStop h
  | 0x23 => .clockSet h (bitsAt 4 o 0)
  | 0x24 => .clockAdjust h (bitsAt 4 o 0)
  | 0x25 => .clockMode h (bitsAt 1 o 0)
  | 0x26 => .breakOn h
  | 0x27 => .breakOff h
  | 0x28 => .possConfig h (bitsAt 4 o 0) (bitsAt 4 o 4)
      (bitsAt 1 o 8) (bitsAt 1 o 9) (bitsAt 4 o 10)
  | 0x29 => .possEnable h (bitsAt 1 o 0)
  | 0x2A => .possReset h
  | 0x2B => .possSet h (bitsAt 4 o 0)
  | 0x2C => .horn h (bitsAt 1 o 0) (bitsAt 1 o 1)
  | 0x30 => .scoreSet h (bitsAt 1 o 0) (bitsAt 2 o 1)
  | 0x31 => .scoreAdd h (bitsAt 1 o 0) (bitsAt 4 o 1)
  | 0x32 => .fieldSet h (bitsAt 1 o 0) (bitsAt 2 o 1)
  | 0x33 => .fieldAdd h (bitsAt 1 o 0) (bitsAt 4 o 1)
  | 0x40 => .recordArm h
  | 0x41 => .recordStop h
  | 0x42 => .clipIn h (bitsAt 2 o 0) (bitsAt 2 o 2)
  | 0x43 => .clipOut h
  | 0x44 => .clipFree h (bitsAt 1 o 0)
  | 0x50 => .playerConfig h (bitsAt 1 o 0) (bitsAt 1 o 1) (bitsAt 1 o 2) (bitsAt 1 o 3)
  | 0x51 => .cueClip h (bitsAt 1 o 0)
  | 0x52 => .cueRange h (bitsAt 2 o 0) (bitsAt 2 o 2)
  | 0x53 => .cueClock h (bitsAt 4 o 0) (bitsAt 2 o 4)
  | 0x54 => .play h
  | 0x55 => .pause h
  | 0x56 => .step h
  | 0x57 => .rate h (bitsAt 2 o 0)
  | 0x58 => .stop h
  | 0x60 => .panelStart h (bitsAt 1 o 0)
  | 0x61 => .panelStop h (bitsAt 1 o 0)
  | 0x62 => .panelHold h (bitsAt 1 o 0)
  | 0x63 => .panelForce h (bitsAt 1 o 0) (bitsAt 1 o 1) (bitsAt 2 o 2)
  | 0x70 => .queueConfig h (bitsAt 1 o 0) (bitsAt 2 o 1) (bitsAt 2 o 3) (bitsAt 2 o 5) (bitsAt 2 o 7)
      (bitsAt 2 o 9) (bitsAt 2 o 11) (bitsAt 2 o 13) (bitsAt 2 o 15) (bitsAt 1 o 17)
  | 0x71 => .msgOpen h (bitsAt 2 o 0) (bitsAt 1 o 2) (bitsAt 2 o 3)
      (bitsAt 2 o 5) (bitsAt 2 o 7) (bitsAt 1 o 9) (bitsAt 1 o 10)
  | 0x72 => .msgText h (bitsAt 2 o 0) (bitsAt 2 o 2) (bitsAt 1 o 4) (o.drop 5)
  | 0x73 => .msgPost h (bitsAt 2 o 0)
  | 0x74 => .msgWithdraw h (bitsAt 2 o 0)
  | _ => .commandUnknown h (bitsAt 1 r 0)

/-- A record: code, flags, tag and operands, filled up with zeros to 32 bytes (R43). -/
def recordOf (code : Nat) (h : Header) (operands : List Byte) : List Byte :=
  leBytes 1 code ++ leBytes 1 (if h.quiet then 1 else 0) ++ bytesOf 2 h.tag ++ operands ++
    List.replicate (operandBytes - operands.length) 0

/-- The record of a host command, the field number of FIELD_SET and FIELD_ADD as 1 byte (assumption log 40); the events
and the bus operations have none. -/
def encodeRecord : Instr → Option (List Byte)
  | .commandUnknown h code => some (recordOf code.toNat h [])
  | .nop h => some (recordOf 0x01 h [])
  | .reportAck h index => some (recordOf 0x02 h (bytesOf 1 index))
  | .select h table index view zone =>
    some (recordOf 0x03 h
      (bytesOf 1 table ++ bytesOf 2 index ++ bytesOf 1 view ++ bytesOf 1 zone))
  | .examine h => some (recordOf 0x04 h [])
  | .deposit h operands => some (recordOf 0x05 h operands)
  | .snapshot h group first count =>
    some (recordOf 0x06 h
      (bytesOf 1 group ++ bytesOf 2 first ++ bytesOf 2 count))
  | .counterMode h overflow clear =>
    some (recordOf 0x07 h
      (bytesOf 1 overflow ++ bytesOf 1 clear))
  | .counterClear h => some (recordOf 0x08 h [])
  | .softReset h => some (recordOf 0x09 h [])
  | .apply h => some (recordOf 0x10 h [])
  | .alertOn h => some (recordOf 0x11 h [])
  | .alertOff h => some (recordOf 0x12 h [])
  | .probe h address => some (recordOf 0x13 h (bytesOf 5 address))
  | .clockConfig h f mode startSense stopSense threshold duration =>
    some (recordOf 0x20 h
      (bytesOf 4 f ++ bytesOf 1 mode ++ bytesOf 1 startSense ++
        bytesOf 1 stopSense ++ bytesOf 4 threshold ++ bytesOf 4 duration))
  | .clockStart h => some (recordOf 0x21 h [])
  | .clockStop h => some (recordOf 0x22 h [])
  | .clockSet h value => some (recordOf 0x23 h (bytesOf 4 value))
  | .clockAdjust h delta => some (recordOf 0x24 h (bytesOf 4 delta))
  | .clockMode h mode => some (recordOf 0x25 h (bytesOf 1 mode))
  | .breakOn h => some (recordOf 0x26 h [])
  | .breakOff h => some (recordOf 0x27 h [])
  | .possConfig h preset threshold stopGame sense duration =>
    some (recordOf 0x28 h
      (bytesOf 4 preset ++ bytesOf 4 threshold ++
        bytesOf 1 stopGame ++ bytesOf 1 sense ++ bytesOf 4 duration))
  | .possEnable h enabled => some (recordOf 0x29 h (bytesOf 1 enabled))
  | .possReset h => some (recordOf 0x2A h [])
  | .possSet h value => some (recordOf 0x2B h (bytesOf 4 value))
  | .horn h which action => some (recordOf 0x2C h (bytesOf 1 which ++ bytesOf 1 action))
  | .scoreSet h side value => some (recordOf 0x30 h (bytesOf 1 side ++ bytesOf 2 value))
  | .scoreAdd h side delta => some (recordOf 0x31 h (bytesOf 1 side ++ bytesOf 4 delta))
  | .fieldSet h field value => some (recordOf 0x32 h (bytesOf 1 field ++ bytesOf 2 value))
  | .fieldAdd h field delta => some (recordOf 0x33 h (bytesOf 1 field ++ bytesOf 4 delta))
  | .recordArm h => some (recordOf 0x40 h [])
  | .recordStop h => some (recordOf 0x41 h [])
  | .clipIn h clipTag preRoll => some (recordOf 0x42 h (bytesOf 2 clipTag ++ bytesOf 2 preRoll))
  | .clipOut h => some (recordOf 0x43 h [])
  | .clipFree h clip => some (recordOf 0x44 h (bytesOf 1 clip))
  | .playerConfig h paceZone endMode partialSkip alertPolicy =>
    some (recordOf 0x50 h
      (bytesOf 1 paceZone ++ bytesOf 1 endMode ++
        bytesOf 1 partialSkip ++ bytesOf 1 alertPolicy))
  | .cueClip h clip => some (recordOf 0x51 h (bytesOf 1 clip))
  | .cueRange h first length => some (recordOf 0x52 h (bytesOf 2 first ++ bytesOf 2 length))
  | .cueClock h value length => some (recordOf 0x53 h (bytesOf 4 value ++ bytesOf 2 length))
  | .play h => some (recordOf 0x54 h [])
  | .pause h => some (recordOf 0x55 h [])
  | .step h => some (recordOf 0x56 h [])
  | .rate h newRate => some (recordOf 0x57 h (bytesOf 2 newRate))
  | .stop h => some (recordOf 0x58 h [])
  | .panelStart h panel => some (recordOf 0x60 h (bytesOf 1 panel))
  | .panelStop h panel => some (recordOf 0x61 h (bytesOf 1 panel))
  | .panelHold h panel => some (recordOf 0x62 h (bytesOf 1 panel))
  | .panelForce h panel entry frames =>
    some (recordOf 0x63 h
      (bytesOf 1 panel ++ bytesOf 1 entry ++ bytesOf 2 frames))
  | .queueConfig h paceZone width speed gap scale high low holdTime margin finalNotice =>
    some (recordOf 0x70 h
      (bytesOf 1 paceZone ++ bytesOf 2 width ++ bytesOf 2 speed ++ bytesOf 2 gap ++ bytesOf 2 scale ++
        bytesOf 2 high ++ bytesOf 2 low ++ bytesOf 2 holdTime ++ bytesOf 2 margin ++ bytesOf 1 finalNotice))
  | .msgOpen h id cls length repeats lifetime colour sponsor =>
    some (recordOf 0x71 h
      (bytesOf 2 id ++ bytesOf 1 cls ++ bytesOf 2 length ++
        bytesOf 2 repeats ++ bytesOf 2 lifetime ++ bytesOf 1 colour ++ bytesOf 1 sponsor))
  | .msgText h id offset count codes =>
    some (recordOf 0x72 h (bytesOf 2 id ++ bytesOf 2 offset ++ bytesOf 1 count ++ codes))
  | .msgPost h id => some (recordOf 0x73 h (bytesOf 2 id))
  | .msgWithdraw h id => some (recordOf 0x74 h (bytesOf 2 id))
  | .resetAssert => none
  | .resetRelease _ => none
  | .requestWithhold _ => none
  | .burstAccept _ => none
  | .forwardGrant => none
  | .mirrorGrant => none
  | .reportWriteGrant => none
  | .mpResponse _ => none
  | .responseReturn => none
  | .reportMove => none
  | .tableLockChange _ => none
  | .alertInChange _ => none
  | .zonePulse _ _ => none
  | .zoneLoss _ => none
  | .msPulse => none
  | .gameClockExpire => none
  | .possExpire => none
  | .hornExpire _ => none
  | .messageExpire _ => none
  | .holdTimerExpire => none
  | .lineStart _ => none
  | .lineStop _ _ => none
  | .pcReset _ => none
  | .recordFramePulse _ => none

/-- The command that a word spells by the table's bits: no row of the table gives any. -/
def decodeTableWord (_nbits _w : Nat) : Option Instr := none

end Sys2Proof
end

