-- ==== Sys2Proof/Machine/State.lean ====
section
/-! DEFINITION. The state of the part, block by block, as plain data, and its value right after reset.
Each structure cites the rules that name its fields; INVENTORY.md lists them all with their reset
values. -/

namespace Sys2Proof.Machine

/-! ## Named values -/

/-- Which counter group a counter belongs to, with its index (R37). -/
inductive CounterId where
  | zone (i : Fin 16)
  | exposed (i : Fin 128)
  | occluded (i : Fin 8)
  | path (i : Fin 4)
deriving DecidableEq, Repr

/-- The blocks that post reports, by unit number 0 to 9 (R43). -/
inductive UnitId where
  | busPath
  | commandUnit
  | zoneTiming
  | compositor
  | glyphRenderer
  | timing
  | capture
  | player
  | sponsor
  | message
deriving DecidableEq, Repr

/-- The report kinds (R43). EXPIRED is shared by the timing unit and the message unit. -/
inductive ReportKind where
  | done
  | refused
  | entry
  | counters
  | counterHalf
  | probe
  | frame
  | syncError
  | lost
  | regained
  | alertChange
  | stopped
  | expired
  | possExpired
  | mark
  | slotPartial
  | clipLimit
  | pausedByAlert
  | entryFulfilled
  | retired
  | withdrawn
  | queueHold
deriving DecidableEq, Repr

/-- The refusal codes (R2, R43). -/
inductive RefusalCode where
  | unknown
  | range
  | state
  | full
  | duplicate
  | absent
  | locked
deriving DecidableEq, Repr

/-- Pulse modes of a zone (R45). -/
inductive PulseMode where
  | restart
  | ignoreEarly
deriving DecidableEq, Repr

/-- Report levels of a zone (R45). -/
inductive ReportLevel where
  | none
  | errors
  | everyFrame
deriving DecidableEq, Repr

/-- Zone states (R45). -/
inductive ZoneState where
  | idle
  | waiting
  | scanning
  | lost
deriving DecidableEq, Repr

/-- Window kinds (R62). -/
inductive WindowKind where
  | replay
  | sponsor
  | crawl
  | score
  | clock
  | alert
deriving DecidableEq, Repr

/-- Render modes of a glyph window (R62). -/
inductive Render where
  | keyed
  | opaqueCells
deriving DecidableEq, Repr

/-- Sources of a score item (R94). -/
inductive ScoreSource where
  | home
  | guest
  | field (i : Fin 8)
deriving DecidableEq, Repr

/-- Game clock direction (R105). -/
inductive ClockMode where
  | down
  | up
deriving DecidableEq, Repr

/-- Game clock states (R105). -/
inductive ClockState where
  | stopped
  | running
  | expired
deriving DecidableEq, Repr

/-- Console input modes (R106). -/
inductive InputMode where
  | edgePair
  | level
deriving DecidableEq, Repr

/-- Mark actions (R119). -/
inductive MarkAction where
  | report
  | reportHorn
  | moment
deriving DecidableEq, Repr

/-- Recorder states (R127). -/
inductive RecorderState where
  | off
  | armed
  | recording
deriving DecidableEq, Repr

/-- Mirror modes (R15, R127). -/
inductive MirrorMode where
  | stall
  | drop
deriving DecidableEq, Repr

/-- Slot states (R132). -/
inductive SlotState where
  | empty
  | writing
  | settling
  | complete
  | partialState
deriving DecidableEq, Repr

/-- Slot verdicts (R132). -/
inductive Verdict where
  | none
  | complete
  | partialVerdict
deriving DecidableEq, Repr

/-- Clip states (R139). -/
inductive ClipState where
  | free
  | opened
  | closing
  | closed
deriving DecidableEq, Repr

/-- Player transport states (R146). -/
inductive PlayerState where
  | idle
  | cued
  | playing
  | paused
  | ended
deriving DecidableEq, Repr

/-- Why a player is PAUSED (R146). -/
inductive PauseCause where
  | none
  | command
  | alert
deriving DecidableEq, Repr

/-- Player end modes (R146). -/
inductive EndMode where
  | hold
  | loop
deriving DecidableEq, Repr

/-- Player alert policies (R146). -/
inductive AlertPolicy where
  | pause
  | finish
  | free
deriving DecidableEq, Repr

/-- Sponsor entry classes (R163). -/
inductive EntryClass where
  | any
  | live
  | duringBreak
deriving DecidableEq, Repr

/-- Panel states (R165). -/
inductive PanelState where
  | stopped
  | rotating
  | held
  | moment
deriving DecidableEq, Repr

/-- Message classes, highest first (R184, R185). -/
inductive MsgClass where
  | announce
  | featured
  | fan
deriving DecidableEq, Repr

/-- Message states (R184). An empty store place reads FREE (4) and holds no message. -/
inductive MsgState where
  | assembling
  | queued
  | lead
  | follow
deriving DecidableEq, Repr

/-! ## Pins -/

/-- The levels of the discrete inputs as last seen (spec 00, Lines). CA_SEL is sampled as an operand of
RESET_RELEASE. The outputs HORN_G, HORN_P, ATTN and QHOLD are computed from the state (Flags.lean). -/
structure Pins where
  /-- RESET_N is asserted (low). -/
  resetAsserted : Bool
  zfp : Tab Bool 4
  rfp : Bool
  gcStart : Bool
  gcStop : Bool
  pcReset : Bool
  alertIn : Bool
  tableLock : Bool
deriving DecidableEq, Repr

/-! ## Bus path (chapter 1) -/

/-- A merge plan: for each pixel of the burst a decided colour, or none for memory data (R8). -/
abbrev MergePlan := List (Option Pixel)

/-- Kinds of response entry (R11). -/
inductive ResponseKind where
  | memory
  | merge (plan : MergePlan)
  | synth
deriving DecidableEq, Repr

/-- An entry of the response order list (R11). `data` holds two pixels a beat once COMPLETE. -/
structure ResponseEntry where
  tag : BitVec 4
  beats : Nat
  kind : ResponseKind
  data : List Pixel
  complete : Bool
deriving DecidableEq, Repr

/-- A mirror copy: a write burst into a slot, and the slot it belongs to (R14). -/
structure MirrorCopy where
  burst : Burst
  slot : Fin 1024
deriving DecidableEq, Repr

/-- A report write: ring entry and the 32 bytes of the record (R16). -/
structure ReportWrite where
  entry : BitVec 6
  data : List Byte
deriving DecidableEq, Repr

/-- The request RP presently withholds, and whether STALLS has counted it (R4, R15). -/
structure Withheld where
  burst : Burst
  counted : Bool
deriving DecidableEq, Repr

/-- A response as it leaves RP (R13). -/
structure Response where
  tag : BitVec 4
  data : List Pixel
deriving DecidableEq, Repr

/-- The bus path (R4, R10, R11, R14, R16, R17). `mpOut` and `rpOut` are the model's own view of the
ports: the request MP accepted last, and the response that left RP last. -/
structure BusPath where
  forward : List Burst
  responses : List ResponseEntry
  mirrors : List MirrorCopy
  reportWrites : List ReportWrite
  waitCount : Nat
  withheld : Option Withheld
  mpOut : Option Burst
  rpOut : Option Response
deriving DecidableEq, Repr

/-! ## Command unit (chapter 2) -/

/-- A report as it is generated (R27, R43). LOST and PHASE are set when it is moved. -/
structure Report where
  kind : ReportKind
  code : Nat
  lastOfTable : Bool
  more : Bool
  unit : UnitId
  tag : BitVec 16
  subject : Nat
  uptime : Count
  payload : List Byte
deriving DecidableEq, Repr

/-- The table pointer (R32): a table and an index within it, so that it is never invalid. The view and
the zone matter for WINDOW alone. -/
inductive Pointer where
  | zone (i : Fin 4)
  | stagedWindow (i : Fin 16)
  | activeWindow (z : Fin 4) (i : Fin 16)
  | colour (i : Fin 16)
  | glyph (i : Fin 3072)
  | layout (i : Fin 48)
  | alertText (i : Fin 8)
  | sponsor (i : Fin 128)
  | panel (i : Fin 8)
  | panelList (i : Fin 256)
  | record
  | mark (i : Fin 4)
  | slot (i : Fin 1024)
  | clip (i : Fin 32)
  | message (i : Fin 64)
  | clock
deriving DecidableEq, Repr

/-- The command unit (R21, R26, R27, R28, R32, R38). -/
structure CommandUnit where
  caBase : Nat
  /-- N, the ring entry the next moved report goes to. -/
  nextEntry : BitVec 6
  /-- P, the entry after the last report that has reached memory. -/
  producer : BitVec 6
  /-- C, the oldest entry the host has not acknowledged. -/
  consumer : BitVec 6
  /-- N is on an odd-numbered lap: all of the lap count that has a use (assumption log 21). -/
  oddLap : Bool
  queue : List Report
  lost : Bool
  pointer : Pointer
  saturate : Bool
  clearOnSnapshot : Bool
deriving DecidableEq, Repr

/-- A counter and its half-full flag (R37). -/
structure Counter where
  value : Count
  half : Bool
deriving DecidableEq, Repr

/-- The four counter groups (R37). -/
structure Counters where
  zone : Tab Counter 16
  exposed : Tab Counter 128
  occluded : Tab Counter 8
  path : Tab Counter 4
deriving DecidableEq, Repr

/-! ## Zone timing unit (chapter 3) -/

/-- A zone record and its state (R45). The enabled field is the state not being IDLE. `coverage` holds
each read line of the open frame once; `lossTimer` is none while it is stopped. -/
structure Zone where
  state : ZoneState
  base : Nat
  pitch : Nat
  lines : Nat
  width : Nat
  sense : Edge
  mode : PulseMode
  lossTimeout : Nat
  level : ReportLevel
  frameNumber : Count
  coverage : List Nat
  lossTimer : Option Nat
deriving DecidableEq, Repr

/-! ## Compositor (chapter 4) -/

/-- A window record, staged or active (R62). -/
structure Window where
  enabled : Bool
  kind : WindowKind
  zone : Fin 4
  top : Nat
  height : Nat
  left : Nat
  width : Nat
  binding : Byte
  render : Render
  scale : Nat
  foreground : Fin 16
  background : Fin 16
  fill : Fin 16
  cropTop : Nat
  cropLeft : Nat
deriving DecidableEq, Repr

/-- What a frame's clear and served record holds of one SPONSOR or CRAWL window (R80, R81). -/
structure FrameMark where
  window : Fin 16
  clear : Bool
  lines : List Nat
deriving DecidableEq, Repr

/-- The compositor (R62, R66, R67, R68, R69, R71, R80). The alert in force is computed. -/
structure Compositor where
  staged : Tab Window 16
  /-- The copies each zone took last, with the height and width they were deposited with, from which every frame start
  clips afresh (R67, R68; assumption log 16). -/
  taken : Tab (Tab (Option Window) 16) 4
  /-- The active sets: the copies taken, as last clipped (R67, R68). -/
  active : Tab (Tab (Option Window) 16) 4
  applyPending : Tab Bool 4
  alertLatch : Tab Bool 4
  frameRecord : Tab (Option (List FrameMark)) 4
  alertOn : Bool
deriving DecidableEq, Repr

/-! ## Glyph renderer (chapter 5) -/

/-- An item of a score layout (R94). -/
structure LayoutItem where
  enabled : Bool
  source : ScoreSource
  column : Nat
  row : Nat
  digits : Nat
  suppress : Bool
  colour : Option (Fin 16)
deriving DecidableEq, Repr

/-- One message of the crawl as a zone latched it (R98). -/
structure CrawlContent where
  text : Tab Code 160
  length : Nat
  travel : Nat
  colour : Option (Fin 16)
deriving DecidableEq, Repr

/-- A zone's content latch (R91). -/
structure ContentLatch where
  gameText : List Code
  possText : List Code
  home : Nat
  guest : Nat
  fields : Tab Nat 8
  layouts : Tab LayoutItem 48
  alertText : Tab Code 160
  lead : Option CrawlContent
  follow : Option CrawlContent
deriving DecidableEq, Repr

/-- The glyph renderer (R87, R88, R91, R94, R96). An empty latch is none. -/
structure GlyphRenderer where
  store : Tab (BitVec 16) 3072
  colours : Tab Pixel 16
  layouts : Tab LayoutItem 48
  alertText : Tab Code 160
  latches : Tab (Option ContentLatch) 4
deriving DecidableEq, Repr

/-! ## Timing unit (chapter 6) -/

/-- A horn: its duration and the time it still sounds, 0 when silent (R116). -/
structure Horn where
  duration : Nat
  remaining : Nat
deriving DecidableEq, Repr

/-- A clock mark (R119). `panel` and `entry` are held unchecked unless the action is MOMENT. -/
structure Mark where
  enabled : Bool
  value : Nat
  action : MarkAction
  panel : Nat
  entry : Nat
  frames : Nat
  fired : Bool
deriving DecidableEq, Repr

/-- The timing unit (R103 to R123). A console sense is none for OFF. -/
structure TimingUnit where
  refRate : Nat
  accumulator : Nat
  uptime : Count
  value : Nat
  mode : ClockMode
  state : ClockState
  captured : Nat
  inputMode : InputMode
  startSense : Option Edge
  stopSense : Option Edge
  threshold : Nat
  breakFlag : Bool
  possEnabled : Bool
  possValue : Nat
  possPreset : Nat
  possThreshold : Nat
  stopGame : Bool
  pcSense : Option Edge
  hornG : Horn
  hornP : Horn
  marks : Tab Mark 4
  home : Nat
  guest : Nat
  fields : Tab Nat 8
deriving DecidableEq, Repr

/-! ## Replay capture (chapter 7) -/

/-- The record source record (R127), its recorder state apart. -/
structure RecordSource where
  base : Nat
  pitch : Nat
  lines : Nat
  width : Nat
  sense : Edge
  ringBase : Nat
  slotCount : Nat
  stride : Nat
  mirrorMode : MirrorMode
deriving DecidableEq, Repr

/-- A slot record (R132). `lines` holds each written line once; lines written is its length. -/
structure Slot where
  state : SlotState
  captureNumber : Count
  previous : Option (Fin 1024)
  next : Option (Fin 1024)
  clipHolds : Nat
  playerHold : Bool
  clock : Nat
  verdict : Verdict
  outstanding : Nat
  lines : List Nat
  dropped : Bool
deriving DecidableEq, Repr

/-- A clip record (R139). -/
structure Clip where
  state : ClipState
  tag : BitVec 16
  first : Option (Fin 1024)
  length : Nat
  clock : Nat
deriving DecidableEq, Repr

/-- Replay capture (R127 to R139). `oldest` and `newest` are the ends of the capture chain; the newest
slot is the WRITING one while RECORDING. -/
structure Capture where
  source : RecordSource
  recorder : RecorderState
  slots : Tab Slot 1024
  clips : Tab Clip 32
  oldest : Option (Fin 1024)
  newest : Option (Fin 1024)
  captureNumber : Count
  lastOpened : Option (Fin 1024)
deriving DecidableEq, Repr

/-! ## Replay player (chapter 8) -/

/-- The player record and the latched slot of each zone (R146). -/
structure Player where
  state : PlayerState
  cause : PauseCause
  first : Option (Fin 1024)
  length : Nat
  position : Nat
  shownPosition : Nat
  rate : Nat
  paceZone : Fin 4
  endMode : EndMode
  partialSkip : Bool
  policy : AlertPolicy
  stepPending : Bool
  selection : Option (Fin 1024)
  latched : Tab (Option (Fin 1024)) 4
deriving DecidableEq, Repr

/-! ## Sponsor unit (chapter 9) -/

/-- An image in frame memory (R75): base, pitch, lines, width in granules. -/
structure Image where
  base : Nat
  pitch : Nat
  lines : Nat
  width : Nat
deriving DecidableEq, Repr

/-- A sponsor entry (R163). -/
structure SponsorEntry where
  enabled : Bool
  image : Image
  dwell : Nat
  target : Nat
  cls : EntryClass
  fulfilled : Bool
deriving DecidableEq, Repr

/-- A panel record and its showing number (R165). -/
structure Panel where
  defaultImage : Image
  overrun : Bool
  listLength : Nat
  state : PanelState
  position : Fin 32
  shown : Option (Fin 128)
  count : Nat
  savedState : PanelState
  savedEntry : Option (Fin 128)
  savedProgress : Nat
  showing : Count
deriving DecidableEq, Repr

/-- What a zone has latched of a panel for its frame (R169). -/
structure PanelLatch where
  entry : Option (Fin 128)
  image : Image
  showing : Count
deriving DecidableEq, Repr

/-- The sponsor unit (R163 to R169). Its EXPOSED and OCCLUDED counters are in `Counters`. -/
structure Sponsor where
  entries : Tab SponsorEntry 128
  panels : Tab Panel 8
  lists : Tab (Fin 128) 256
  latches : Tab (Tab PanelLatch 8) 4
deriving DecidableEq, Repr

/-! ## Message unit (chapter 10) -/

/-- The queue configuration (R183). -/
structure QueueConfig where
  paceZone : Fin 4
  width : Nat
  speed : Nat
  gap : Nat
  scale : Nat
  high : Nat
  low : Nat
  holdTime : Nat
  margin : Nat
  finalNotice : Bool
deriving DecidableEq, Repr

/-- A message record (R184). -/
structure Message where
  id : BitVec 16
  cls : MsgClass
  state : MsgState
  length : Nat
  text : Tab Code 160
  repeats : Nat
  lifetime : Nat
  expiry : Count
  colour : Option (Fin 16)
  sponsor : Option (Fin 128)
  order : Count
  travel : Nat
  expiring : Bool
  withdrawing : Bool
deriving DecidableEq, Repr

/-- What the crawl record keeps of one message on screen (R195). -/
structure CrawlItem where
  sponsor : Option (Fin 128)
  travel : Nat
  width : Nat
deriving DecidableEq, Repr

/-- The crawl record of the pace zone's open frame (R195): it belongs to that zone and that frame, which
its frame number tells from every other frame of the zone. -/
structure CrawlRecord where
  zone : Fin 4
  frame : Count
  alert : Bool
  crawlWidth : Nat
  items : List CrawlItem
deriving DecidableEq, Repr

/-- The message unit (R183 to R197). Queues hold store places, oldest first. `hold` is none in
RELEASED and the hold timer in HOLDING. -/
structure MessageUnit where
  config : QueueConfig
  store : Tab (Option Message) 64
  announce : List (Fin 64)
  featured : List (Fin 64)
  fan : List (Fin 64)
  lead : Option (Fin 64)
  follow : Option (Fin 64)
  orderCounter : Count
  record : Option CrawlRecord
  hold : Option Nat
deriving DecidableEq, Repr

/-! ## The whole -/

/-- The part. `pending` is the queue of commands waiting, first in, first out. `free` is the model's own
count of free values drawn (Config.missingPixel). -/
structure State where
  pending : List Instr
  pins : Pins
  bus : BusPath
  cmd : CommandUnit
  counters : Counters
  zones : Tab Zone 4
  comp : Compositor
  glyph : GlyphRenderer
  timing : TimingUnit
  capture : Capture
  player : Player
  sponsor : Sponsor
  message : MessageUnit
  free : Nat
deriving DecidableEq, Repr

/-- Why a step stops with a fault. Safe: the model stops on an input that is no input of the part. -/
inductive Fault where
  /-- Raised by `step` (through the meanings of REQUEST_WITHHOLD, BURST_ACCEPT, MP_RESPONSE, DEPOSIT and
  MSG_TEXT) on a term that is not well formed, which no bus and no command record can carry (R3, R23).
  Safe. -/
  | illFormed
deriving DecidableEq, Repr

/-- Why a step is refused. -/
inductive Refusal where
  /-- Raised by an arm of `exec` whose row has no meaning in the model. No arm raises it now. Safe. -/
  | notModelled (mnemonic : String)
deriving DecidableEq, Repr

/-! ## Reset values -/

/-- Every discrete input low and RESET_N as given (assumption log 7). -/
def Pins.initial (asserted : Bool) : Pins :=
  { resetAsserted := asserted, zfp := Tab.fill 4 false, rfp := false, gcStart := false,
    gcStop := false, pcReset := false, alertIn := false, tableLock := false }

/-- R19: empty queues, an empty list, wait count 0. -/
def BusPath.initial : BusPath :=
  { forward := [], responses := [], mirrors := [], reportWrites := [], waitCount := 0,
    withheld := none, mpOut := none, rpOut := none }

/-- R31, R32, R38: indices 0, lap 0, queue empty, LOST clear, pointer at ZONE 0, SATURATE, clear off. -/
def CommandUnit.initial (caBase : Nat) : CommandUnit :=
  { caBase := caBase, nextEntry := 0, producer := 0, consumer := 0, oddLap := false, queue := [],
    lost := false, pointer := .zone 0, saturate := true, clearOnSnapshot := false }

/-- R37: value 0, half-full flag clear. -/
def Counter.zero : Counter := { value := 0, half := false }

/-- R37: every counter of the four groups zero. -/
def Counters.initial : Counters :=
  { zone := Tab.fill 16 Counter.zero, exposed := Tab.fill 128 Counter.zero,
    occluded := Tab.fill 8 Counter.zero, path := Tab.fill 4 Counter.zero }

/-- R60. -/
def Zone.initial : Zone :=
  { state := .idle, base := 0, pitch := 0, lines := 0, width := 0, sense := .rising,
    mode := .restart, lossTimeout := 0, level := .none, frameNumber := 0, coverage := [],
    lossTimer := none }

/-- R85: every field 0. -/
def Window.initial : Window :=
  { enabled := false, kind := .replay, zone := 0, top := 0, height := 0, left := 0, width := 0,
    binding := 0, render := .keyed, scale := 0, foreground := 0, background := 0, fill := 0,
    cropTop := 0, cropLeft := 0 }

/-- R85. -/
def Compositor.initial : Compositor :=
  { staged := Tab.fill 16 Window.initial, taken := Tab.fill 4 (Tab.fill 16 none),
    active := Tab.fill 4 (Tab.fill 16 none), applyPending := Tab.fill 4 false, alertLatch := Tab.fill 4 false,
    frameRecord := Tab.fill 4 none, alertOn := false }

/-- R100. -/
def LayoutItem.initial : LayoutItem :=
  { enabled := false, source := .home, column := 0, row := 0, digits := 0, suppress := false,
    colour := some 0 }

/-- R100. -/
def GlyphRenderer.initial : GlyphRenderer :=
  { store := Tab.fill 3072 0, colours := Tab.fill 16 0, layouts := Tab.fill 48 LayoutItem.initial,
    alertText := Tab.fill 160 0, latches := Tab.fill 4 none }

/-- R125. -/
def Mark.initial : Mark :=
  { enabled := false, value := 0, action := .report, panel := 0, entry := 0, frames := 0,
    fired := false }

/-- R125. -/
def TimingUnit.initial : TimingUnit :=
  { refRate := Config.resetRate, accumulator := 0, uptime := 0, value := 0, mode := .down,
    state := .stopped, captured := 0, inputMode := .edgePair, startSense := some .rising,
    stopSense := some .rising, threshold := 60000, breakFlag := false, possEnabled := false,
    possValue := 0, possPreset := 24000, possThreshold := 5000, stopGame := false,
    pcSense := some .rising, hornG := { duration := 1000, remaining := 0 },
    hornP := { duration := 1000, remaining := 0 }, marks := Tab.fill 4 Mark.initial, home := 0,
    guest := 0, fields := Tab.fill 8 0 }

/-- R144. -/
def RecordSource.initial : RecordSource :=
  { base := 0, pitch := 0, lines := 0, width := 0, sense := .rising, ringBase := 0,
    slotCount := 0, stride := 0, mirrorMode := .stall }

/-- R144. -/
def Slot.initial : Slot :=
  { state := .empty, captureNumber := 0, previous := none, next := none, clipHolds := 0,
    playerHold := false, clock := 0, verdict := .none, outstanding := 0, lines := [],
    dropped := false }

/-- R144. -/
def Clip.initial : Clip := { state := .free, tag := 0, first := none, length := 0, clock := 0 }

/-- R144. -/
def Capture.initial : Capture :=
  { source := RecordSource.initial, recorder := .off, slots := Tab.fill 1024 Slot.initial,
    clips := Tab.fill 32 Clip.initial, oldest := none, newest := none, captureNumber := 0,
    lastOpened := none }

/-- R161. -/
def Player.initial : Player :=
  { state := .idle, cause := .none, first := none, length := 0, position := 0,
    shownPosition := 0, rate := 16, paceZone := 0, endMode := .hold, partialSkip := false,
    policy := .pause, stepPending := false, selection := none, latched := Tab.fill 4 none }

/-- R181: base 0, pitch 0, lines 0, width 0. -/
def Image.initial : Image := { base := 0, pitch := 0, lines := 0, width := 0 }

/-- R181. -/
def SponsorEntry.initial : SponsorEntry :=
  { enabled := false, image := Image.initial, dwell := 0, target := 0, cls := .any,
    fulfilled := false }

/-- R181. -/
def Panel.initial : Panel :=
  { defaultImage := Image.initial, overrun := false, listLength := 0, state := .stopped,
    position := 0, shown := none, count := 0, savedState := .stopped, savedEntry := none,
    savedProgress := 0, showing := 0 }

/-- R181: entry absent, the default image, showing number 0. -/
def PanelLatch.initial : PanelLatch := { entry := none, image := Image.initial, showing := 0 }

/-- R181. -/
def Sponsor.initial : Sponsor :=
  { entries := Tab.fill 128 SponsorEntry.initial, panels := Tab.fill 8 Panel.initial,
    lists := Tab.fill 256 0, latches := Tab.fill 4 (Tab.fill 8 PanelLatch.initial) }

/-- R183: the RESET_N values of the queue configuration. -/
def QueueConfig.initial : QueueConfig :=
  { paceZone := 1, width := 3840, speed := 4, gap := 192, scale := 1, high := 48, low := 32,
    holdTime := 10, margin := 1, finalNotice := true }

/-- R199. -/
def MessageUnit.initial : MessageUnit :=
  { config := QueueConfig.initial, store := Tab.fill 64 none, announce := [], featured := [],
    fan := [], lead := none, follow := none, orderCounter := 0, record := none, hold := none }

/-- R21: the control area base for the strap value `n`. -/
def controlAreaBase (n : BitVec 4) : Nat := n.toNat * 0x100000000 + 0xFFFFF000

/-- Every block in its reset state, with the pins, the control area base, the waiting commands and the
count of free values as given. -/
def State.initial (pins : Pins) (caBase : Nat) (pending : List Instr) (free : Nat) : State :=
  { pending := pending, pins := pins, bus := BusPath.initial, cmd := CommandUnit.initial caBase,
    counters := Counters.initial, zones := Tab.fill 4 Zone.initial, comp := Compositor.initial,
    glyph := GlyphRenderer.initial, timing := TimingUnit.initial, capture := Capture.initial,
    player := Player.initial, sponsor := Sponsor.initial, message := MessageUnit.initial,
    free := free }

/-- The part right after RESET_N has been released, with CA_SEL 0 and every discrete input low
(assumption log 7). -/
def State.reset : State := State.initial (Pins.initial false) (controlAreaBase 0) [] 0

end Sys2Proof.Machine
end

