-- ==== Sys2Proof/Machine/Operands.lean ====
section
/-! DEFINITION. Operand forms: the numbers of the named values, the fields a DEPOSIT reads from its
operands, and the packed form of every table entry, all under R44. A reading that answers none holds
a named value outside its list, which R23 refuses UNKNOWN. -/

namespace Sys2Proof.Machine

/-! ## Numbers of the named values -/

/-- Unit numbers (R43). -/
def UnitId.number : UnitId → Nat
  | .busPath => 0
  | .commandUnit => 1
  | .zoneTiming => 2
  | .compositor => 3
  | .glyphRenderer => 4
  | .timing => 5
  | .capture => 6
  | .player => 7
  | .sponsor => 8
  | .message => 9

/-- Report kinds (R43). -/
def ReportKind.number : ReportKind → Nat
  | .done => 0x01
  | .refused => 0x02
  | .entry => 0x03
  | .counters => 0x04
  | .counterHalf => 0x05
  | .probe => 0x06
  | .frame => 0x10
  | .syncError => 0x11
  | .lost => 0x12
  | .regained => 0x13
  | .alertChange => 0x18
  | .stopped => 0x20
  | .expired => 0x21
  | .possExpired => 0x22
  | .mark => 0x23
  | .slotPartial => 0x30
  | .clipLimit => 0x31
  | .pausedByAlert => 0x38
  | .entryFulfilled => 0x40
  | .retired => 0x48
  | .withdrawn => 0x49
  | .queueHold => 0x4A

/-- Refusal codes (R43). -/
def RefusalCode.number : RefusalCode → Nat
  | .unknown => 1
  | .range => 2
  | .state => 3
  | .full => 4
  | .duplicate => 5
  | .absent => 6
  | .locked => 7

/-- Yes/no fields: no 0, yes 1 (R44). -/
def yesNo? : Nat → Option Bool
  | 0 => some false
  | 1 => some true
  | _ => none

def yesNo (b : Bool) : Nat := if b then 1 else 0

/-- Two-valued senses: RISING 0, FALLING 1 (R45, R127). -/
def edge? : Nat → Option Edge
  | 0 => some .rising
  | 1 => some .falling
  | _ => none

def edgeNumber : Edge → Nat
  | .rising => 0
  | .falling => 1

/-- Three-valued senses: RISING 0, FALLING 1, OFF 2 (R106, R117). The outer none is UNKNOWN, the inner
none is OFF. -/
def lineSense? : Nat → Option (Option Edge)
  | 0 => some (some .rising)
  | 1 => some (some .falling)
  | 2 => some none
  | _ => none

/-- RESTART 0, IGNORE_EARLY 1 (R45). -/
def pulseMode? : Nat → Option PulseMode
  | 0 => some .restart
  | 1 => some .ignoreEarly
  | _ => none

def PulseMode.number : PulseMode → Nat
  | .restart => 0
  | .ignoreEarly => 1

/-- NONE 0, ERRORS 1, EVERY_FRAME 2 (R45). -/
def reportLevel? : Nat → Option ReportLevel
  | 0 => some .none
  | 1 => some .errors
  | 2 => some .everyFrame
  | _ => none

def ReportLevel.number : ReportLevel → Nat
  | .none => 0
  | .errors => 1
  | .everyFrame => 2

/-- IDLE 0, WAITING 1, SCANNING 2, LOST 3 (R45). -/
def ZoneState.number : ZoneState → Nat
  | .idle => 0
  | .waiting => 1
  | .scanning => 2
  | .lost => 3

/-- REPLAY 0, SPONSOR 1, CRAWL 2, SCORE 3, CLOCK 4, ALERT 5 (R62). -/
def windowKind? : Nat → Option WindowKind
  | 0 => some .replay
  | 1 => some .sponsor
  | 2 => some .crawl
  | 3 => some .score
  | 4 => some .clock
  | 5 => some .alert
  | _ => none

def WindowKind.number : WindowKind → Nat
  | .replay => 0
  | .sponsor => 1
  | .crawl => 2
  | .score => 3
  | .clock => 4
  | .alert => 5

/-- KEYED 0, OPAQUE 1 (R62). -/
def render? : Nat → Option Render
  | 0 => some .keyed
  | 1 => some .opaqueCells
  | _ => none

def Render.number : Render → Nat
  | .keyed => 0
  | .opaqueCells => 1

/-- HOME 0, GUEST 1, FIELD0 to FIELD7 2 to 9 (R94). -/
def scoreSource? (n : Nat) : Option ScoreSource :=
  match n with
  | 0 => some .home
  | 1 => some .guest
  | k + 2 => if h : k < 8 then some (.field ⟨k, h⟩) else none

def ScoreSource.number : ScoreSource → Nat
  | .home => 0
  | .guest => 1
  | .field i => i.val + 2

/-- DOWN 0, UP 1 (R105). -/
def clockMode? : Nat → Option ClockMode
  | 0 => some .down
  | 1 => some .up
  | _ => none

def ClockMode.number : ClockMode → Nat
  | .down => 0
  | .up => 1

/-- STOPPED 0, RUNNING 1, EXPIRED 2 (R105). -/
def ClockState.number : ClockState → Nat
  | .stopped => 0
  | .running => 1
  | .expired => 2

/-- EDGE_PAIR 0, LEVEL 1 (R106). -/
def inputMode? : Nat → Option InputMode
  | 0 => some .edgePair
  | 1 => some .level
  | _ => none

def InputMode.number : InputMode → Nat
  | .edgePair => 0
  | .level => 1

/-- REPORT 0, REPORT_HORN 1, MOMENT 2 (R119). -/
def markAction? : Nat → Option MarkAction
  | 0 => some .report
  | 1 => some .reportHorn
  | 2 => some .moment
  | _ => none

def MarkAction.number : MarkAction → Nat
  | .report => 0
  | .reportHorn => 1
  | .moment => 2

/-- OFF 0, ARMED 1, RECORDING 2 (R127). -/
def RecorderState.number : RecorderState → Nat
  | .off => 0
  | .armed => 1
  | .recording => 2

/-- STALL 0, DROP 1 (R127). -/
def mirrorMode? : Nat → Option MirrorMode
  | 0 => some .stall
  | 1 => some .drop
  | _ => none

def MirrorMode.number : MirrorMode → Nat
  | .stall => 0
  | .drop => 1

/-- EMPTY 0, WRITING 1, SETTLING 2, COMPLETE 3, PARTIAL 4 (R132). -/
def SlotState.number : SlotState → Nat
  | .empty => 0
  | .writing => 1
  | .settling => 2
  | .complete => 3
  | .partialState => 4

/-- NONE 0, COMPLETE 1, PARTIAL 2 (R132). -/
def Verdict.number : Verdict → Nat
  | .none => 0
  | .complete => 1
  | .partialVerdict => 2

/-- FREE 0, OPEN 1, CLOSING 2, CLOSED 3 (R139). -/
def ClipState.number : ClipState → Nat
  | .free => 0
  | .opened => 1
  | .closing => 2
  | .closed => 3

/-- IDLE 0, CUED 1, PLAYING 2, PAUSED 3, ENDED 4 (R146). -/
def PlayerState.number : PlayerState → Nat
  | .idle => 0
  | .cued => 1
  | .playing => 2
  | .paused => 3
  | .ended => 4

/-- NONE 0, COMMAND 1, ALERT 2 (R146). -/
def PauseCause.number : PauseCause → Nat
  | .none => 0
  | .command => 1
  | .alert => 2

/-- HOLD 0, LOOP 1 (R147). -/
def endMode? : Nat → Option EndMode
  | 0 => some .hold
  | 1 => some .loop
  | _ => none

def EndMode.number : EndMode → Nat
  | .hold => 0
  | .loop => 1

/-- PAUSE 0, FINISH 1, FREE 2 (R147). -/
def alertPolicy? : Nat → Option AlertPolicy
  | 0 => some .pause
  | 1 => some .finish
  | 2 => some .free
  | _ => none

def AlertPolicy.number : AlertPolicy → Nat
  | .pause => 0
  | .finish => 1
  | .free => 2

/-- ANY 0, LIVE 1, BREAK 2 (R163). -/
def entryClass? : Nat → Option EntryClass
  | 0 => some .any
  | 1 => some .live
  | 2 => some .duringBreak
  | _ => none

def EntryClass.number : EntryClass → Nat
  | .any => 0
  | .live => 1
  | .duringBreak => 2

/-- STOPPED 0, ROTATING 1, HELD 2, MOMENT 3 (R165). -/
def PanelState.number : PanelState → Nat
  | .stopped => 0
  | .rotating => 1
  | .held => 2
  | .moment => 3

/-- ANNOUNCE 0, FEATURED 1, FAN 2 (R184). -/
def msgClass? : Nat → Option MsgClass
  | 0 => some .announce
  | 1 => some .featured
  | 2 => some .fan
  | _ => none

def MsgClass.number : MsgClass → Nat
  | .announce => 0
  | .featured => 1
  | .fan => 2

/-- ASSEMBLING 0, QUEUED 1, LEAD 2, FOLLOW 3 (R184). -/
def MsgState.number : MsgState → Nat
  | .assembling => 0
  | .queued => 1
  | .lead => 2
  | .follow => 3

/-- A number as an index below `n`, none when it is too large. -/
def index? (n v : Nat) : Option (Fin n) := if h : v < n then some ⟨v, h⟩ else none

/-- An optional field of `w` bytes: absent is all ones (R44). -/
def optionalBytes (w : Nat) : Option Nat → List Byte
  | some v => leBytes w v
  | none => leBytes w (256 ^ w - 1)

/-- An optional index field of `w` bytes. -/
def optionalIndex {n : Nat} (w : Nat) (o : Option (Fin n)) : List Byte :=
  optionalBytes w (o.map Fin.val)

/-- An address operand must leave the upper 4 bits of its fifth byte 0 (R44). -/
def addressFits (a : Nat) : Bool := a < Config.addressSpace

/-- Pitch under R46: 0 becomes 64, otherwise rounded up to a multiple of 64, at most 65,536. -/
def adjustPitch (p : Nat) : Nat :=
  if p = 0 then 64 else min 65536 ((p + 63) / 64 * 64)

/-- A base rounded down to a multiple of 64 (R46). -/
def adjustBase (b : Nat) : Nat := b / 64 * 64

/-- A value brought into `lo` to `hi`. -/
def clamp (lo hi v : Nat) : Nat := max lo (min hi v)

/-! ## What a DEPOSIT reads -/

/-- The writable fields of a ZONE deposit (R45). -/
structure ZoneDeposit where
  enabled : Bool
  base : Nat
  pitch : Nat
  lines : Nat
  width : Nat
  sense : Edge
  mode : PulseMode
  lossTimeout : Nat
  level : ReportLevel
deriving DecidableEq, Repr

def readZone (o : List Byte) : Option ZoneDeposit :=
  match yesNo? (fieldAt 1 o 0), edge? (fieldAt 1 o 14), pulseMode? (fieldAt 1 o 15),
      reportLevel? (fieldAt 1 o 20) with
  | some enabled, some sense, some mode, some level =>
    some { enabled, base := fieldAt 5 o 1, pitch := fieldAt 4 o 6, lines := fieldAt 2 o 10,
           width := fieldAt 2 o 12, sense, mode, lossTimeout := fieldAt 4 o 16, level }
  | _, _, _, _ => none

/-- The adjustments of R46. -/
def ZoneDeposit.adjust (d : ZoneDeposit) : ZoneDeposit :=
  let pitch := adjustPitch d.pitch
  { d with base := adjustBase d.base, pitch := pitch, lines := min 4096 d.lines,
           width := min (pitch / 64) d.width, lossTimeout := clamp 10 1000 d.lossTimeout }

/-- The fields of a WINDOW deposit (R62), before the range checks of R63. -/
structure WindowDeposit where
  enabled : Bool
  kind : WindowKind
  zone : Nat
  top : Nat
  height : Nat
  left : Nat
  width : Nat
  binding : Byte
  render : Render
  scale : Nat
  foreground : Nat
  background : Nat
  fill : Nat
  cropTop : Nat
  cropLeft : Nat
deriving DecidableEq, Repr

/-- The binding of a CLOCK window is a named value (R63). -/
def readWindow (o : List Byte) : Option WindowDeposit :=
  match yesNo? (fieldAt 1 o 0), windowKind? (fieldAt 1 o 1), render? (fieldAt 1 o 12) with
  | some enabled, some kind, some render =>
    if kind = .clock ∧ fieldAt 1 o 11 > 1 then none
    else
      some { enabled, kind, zone := fieldAt 1 o 2, top := fieldAt 2 o 3, height := fieldAt 2 o 5,
             left := fieldAt 2 o 7, width := fieldAt 2 o 9, binding := bitsAt 1 o 11, render,
             scale := fieldAt 2 o 13, foreground := fieldAt 1 o 15, background := fieldAt 1 o 16,
             fill := fieldAt 1 o 17, cropTop := fieldAt 2 o 18, cropLeft := fieldAt 2 o 20 }
  | _, _, _ => none

/-- The fields of a LAYOUT deposit (R94). The colour is the raw byte, FFh when absent. -/
structure LayoutDeposit where
  enabled : Bool
  source : ScoreSource
  column : Nat
  row : Nat
  digits : Nat
  suppress : Bool
  colour : Nat
deriving DecidableEq, Repr

def readLayout (o : List Byte) : Option LayoutDeposit :=
  match yesNo? (fieldAt 1 o 0), scoreSource? (fieldAt 1 o 1), yesNo? (fieldAt 1 o 5) with
  | some enabled, some source, some suppress =>
    some { enabled, source, column := fieldAt 1 o 2, row := fieldAt 1 o 3,
           digits := fieldAt 1 o 4, suppress, colour := fieldAt 1 o 6 }
  | _, _, _ => none

/-- An image as four fields at `off`, 13 bytes (R163, R165). -/
def readImage (o : List Byte) (off : Nat) : Image :=
  { base := fieldAt 5 o off, pitch := fieldAt 4 o (off + 5), lines := fieldAt 2 o (off + 9),
    width := fieldAt 2 o (off + 11) }

/-- The adjustments of R163, which R165 shares. -/
def Image.adjust (i : Image) : Image :=
  let pitch := adjustPitch i.pitch
  { base := adjustBase i.base, pitch := pitch, lines := min 4096 i.lines,
    width := min (pitch / 64) i.width }

/-- The writable fields of a SPONSOR deposit (R163). -/
structure SponsorDeposit where
  enabled : Bool
  image : Image
  dwell : Nat
  target : Nat
  cls : EntryClass
deriving DecidableEq, Repr

def readSponsor (o : List Byte) : Option SponsorDeposit :=
  match yesNo? (fieldAt 1 o 0), entryClass? (fieldAt 1 o 20) with
  | some enabled, some cls =>
    some { enabled, image := readImage o 1, dwell := fieldAt 2 o 14, target := fieldAt 4 o 16, cls }
  | _, _ => none

/-- The writable fields of a PANEL deposit (R165). -/
structure PanelDeposit where
  image : Image
  overrun : Bool
  listLength : Nat
deriving DecidableEq, Repr

def readPanel (o : List Byte) : Option PanelDeposit :=
  match yesNo? (fieldAt 1 o 13) with
  | some overrun => some { image := readImage o 0, overrun, listLength := fieldAt 1 o 14 }
  | none => none

/-- The writable fields of a MARK deposit (R119). -/
structure MarkDeposit where
  enabled : Bool
  value : Nat
  action : MarkAction
  panel : Nat
  entry : Nat
  frames : Nat
deriving DecidableEq, Repr

def readMark (o : List Byte) : Option MarkDeposit :=
  match yesNo? (fieldAt 1 o 0), markAction? (fieldAt 1 o 5) with
  | some enabled, some action =>
    some { enabled, value := fieldAt 4 o 1, action, panel := fieldAt 1 o 6, entry := fieldAt 1 o 7,
           frames := fieldAt 2 o 8 }
  | _, _ => none

/-- The writable fields of a RECORD deposit (R127). -/
def readRecord (o : List Byte) : Option RecordSource :=
  match edge? (fieldAt 1 o 13), mirrorMode? (fieldAt 1 o 25) with
  | some sense, some mirrorMode =>
    some { base := fieldAt 5 o 0, pitch := fieldAt 4 o 5, lines := fieldAt 2 o 9,
           width := fieldAt 2 o 11, sense, ringBase := fieldAt 5 o 14, slotCount := fieldAt 2 o 19,
           stride := fieldAt 4 o 21, mirrorMode }
  | _, _ => none

/-- The adjustments of R128. -/
def RecordSource.adjust (r : RecordSource) : RecordSource :=
  let pitch := adjustPitch r.pitch
  { r with base := adjustBase r.base, pitch := pitch, lines := min 4096 r.lines,
           width := min (pitch / 64) r.width, ringBase := adjustBase r.ringBase,
           slotCount := clamp 2 1024 r.slotCount,
           stride := if r.stride = 0 then 64 else min 0xFFFFFFC0 ((r.stride + 63) / 64 * 64) }

/-- The first `n` operand bytes as text codes, none when one is above 127 (R44). -/
def readCodes : List Byte → Option (List Code)
  | [] => some []
  | b :: rest =>
    match index? 128 b.toNat, readCodes rest with
    | some c, some cs => some (c :: cs)
    | _, _ => none

/-! ## Packed entries -/

/-- R45, 28 bytes. -/
def packZone (z : Zone) : List Byte :=
  leBytes 1 (yesNo (z.state ≠ .idle)) ++ leBytes 5 z.base ++ leBytes 4 z.pitch ++
  leBytes 2 z.lines ++ leBytes 2 z.width ++ leBytes 1 (edgeNumber z.sense) ++
  leBytes 1 z.mode.number ++ leBytes 4 z.lossTimeout ++ leBytes 1 z.level.number ++
  leBytes 1 z.state.number ++ bytesOf 4 z.frameNumber ++ leBytes 2 z.coverage.length

/-- R62, 22 bytes. -/
def packWindow (w : Window) : List Byte :=
  leBytes 1 (yesNo w.enabled) ++ leBytes 1 w.kind.number ++ leBytes 1 w.zone.val ++
  leBytes 2 w.top ++ leBytes 2 w.height ++ leBytes 2 w.left ++ leBytes 2 w.width ++
  bytesOf 1 w.binding ++ leBytes 1 w.render.number ++ leBytes 2 w.scale ++
  leBytes 1 w.foreground.val ++ leBytes 1 w.background.val ++ leBytes 1 w.fill.val ++
  leBytes 2 w.cropTop ++ leBytes 2 w.cropLeft

/-- R94, 7 bytes. -/
def packLayout (i : LayoutItem) : List Byte :=
  leBytes 1 (yesNo i.enabled) ++ leBytes 1 i.source.number ++ leBytes 1 i.column ++
  leBytes 1 i.row ++ leBytes 1 i.digits ++ leBytes 1 (yesNo i.suppress) ++
  optionalIndex 1 i.colour

/-- The four fields of an image, 13 bytes. -/
def packImage (i : Image) : List Byte :=
  leBytes 5 i.base ++ leBytes 4 i.pitch ++ leBytes 2 i.lines ++ leBytes 2 i.width

/-- R163, 22 bytes. -/
def packSponsor (e : SponsorEntry) : List Byte :=
  leBytes 1 (yesNo e.enabled) ++ packImage e.image ++ leBytes 2 e.dwell ++ leBytes 4 e.target ++
  leBytes 1 e.cls.number ++ leBytes 1 (yesNo e.fulfilled)

/-- R165, 24 bytes. -/
def packPanel (p : Panel) : List Byte :=
  packImage p.defaultImage ++ leBytes 1 (yesNo p.overrun) ++ leBytes 1 p.listLength ++
  leBytes 1 p.state.number ++ leBytes 1 p.position.val ++ optionalIndex 1 p.shown ++
  leBytes 2 p.count ++ leBytes 1 p.savedState.number ++ optionalIndex 1 p.savedEntry ++
  leBytes 2 p.savedProgress

/-- R119, 11 bytes. -/
def packMark (m : Mark) : List Byte :=
  leBytes 1 (yesNo m.enabled) ++ leBytes 4 m.value ++ leBytes 1 m.action.number ++
  leBytes 1 m.panel ++ leBytes 1 m.entry ++ leBytes 2 m.frames ++ leBytes 1 (yesNo m.fired)

/-- R127, 27 bytes. -/
def packRecord (r : RecordSource) (state : RecorderState) : List Byte :=
  leBytes 5 r.base ++ leBytes 4 r.pitch ++ leBytes 2 r.lines ++ leBytes 2 r.width ++
  leBytes 1 (edgeNumber r.sense) ++ leBytes 5 r.ringBase ++ leBytes 2 r.slotCount ++
  leBytes 4 r.stride ++ leBytes 1 r.mirrorMode.number ++ leBytes 1 state.number

/-- R132, 21 bytes. -/
def packSlot (t : Slot) : List Byte :=
  leBytes 1 t.state.number ++ bytesOf 4 t.captureNumber ++ optionalIndex 2 t.previous ++
  optionalIndex 2 t.next ++ leBytes 1 t.clipHolds ++ leBytes 1 (yesNo t.playerHold) ++
  leBytes 4 t.clock ++ leBytes 1 t.verdict.number ++ leBytes 2 t.outstanding ++
  leBytes 2 t.lines.length ++ leBytes 1 (yesNo t.dropped)

/-- R139, 11 bytes. -/
def packClip (c : Clip) : List Byte :=
  leBytes 1 c.state.number ++ bytesOf 2 c.tag ++ optionalIndex 2 c.first ++ leBytes 2 c.length ++
  leBytes 4 c.clock

/-- R184, 24 bytes. An empty place reads state 4, FREE, and every other field 0. -/
def packMessage : Option Message → List Byte
  | none => leBytes 3 0 ++ leBytes 1 4 ++ leBytes 20 0
  | some m =>
    bytesOf 2 m.id ++ leBytes 1 m.cls.number ++ leBytes 1 m.state.number ++ leBytes 2 m.length ++
    leBytes 2 m.repeats ++ leBytes 2 m.lifetime ++ bytesOf 4 m.expiry ++ optionalIndex 1 m.colour ++
    optionalIndex 1 m.sponsor ++ bytesOf 4 m.order ++ leBytes 2 m.travel ++
    leBytes 1 (yesNo m.expiring) ++ leBytes 1 (yesNo m.withdrawing)

/-- R105, 39 bytes. -/
def packClock (t : TimingUnit) : List Byte :=
  leBytes 1 t.state.number ++ leBytes 1 t.mode.number ++ leBytes 1 t.inputMode.number ++
  leBytes 1 (yesNo t.breakFlag) ++ leBytes 4 t.value ++ leBytes 4 t.captured ++
  leBytes 1 (yesNo t.possEnabled) ++ leBytes 4 t.possValue ++
  leBytes 1 (yesNo (t.hornG.remaining ≠ 0)) ++ leBytes 1 (yesNo (t.hornP.remaining ≠ 0)) ++
  leBytes 2 t.home ++ leBytes 2 t.guest ++ t.fields.list.flatMap (leBytes 2)

/-- The player status, 15 bytes (R146). -/
def packPlayer (p : Player) : List Byte :=
  leBytes 1 p.state.number ++ leBytes 1 p.cause.number ++ optionalIndex 2 p.first ++
  leBytes 2 p.length ++ leBytes 2 p.position ++ leBytes 2 p.rate ++ optionalIndex 2 p.selection ++
  leBytes 1 p.paceZone.val ++ leBytes 1 p.endMode.number ++ leBytes 1 (yesNo p.partialSkip)

/-- The panel status of a panel command's DONE, 5 bytes (section 9.5). -/
def packPanelStatus (p : Panel) : List Byte :=
  leBytes 1 p.state.number ++ leBytes 1 p.position.val ++ optionalIndex 1 p.shown ++
  leBytes 2 p.count

end Sys2Proof.Machine
end

