-- ==== Sys2Proof/Machine/Flags.lean ====
section
/-! DEFINITION. Flags and lines computed from the state: the output lines, the alert in force, the
half-full rule of the counters, and who wins the memory port. -/

namespace Sys2Proof.Machine

/-- ATTN is asserted while P differs from C (R29). -/
def State.attn (s : State) : Bool := s.cmd.producer != s.cmd.consumer

/-- QHOLD is asserted exactly while the hold state is HOLDING (R196). -/
def State.qhold (s : State) : Bool := s.message.hold.isSome

/-- A horn's output is asserted while its remaining time is above 0 (R116). -/
def Horn.sounding (h : Horn) : Bool := h.remaining != 0

/-- HORN_G (R116). -/
def State.hornGLine (s : State) : Bool := s.timing.hornG.sounding

/-- HORN_P (R116). -/
def State.hornPLine (s : State) : Bool := s.timing.hornP.sounding

/-- The alert in force: ALERT_IN is high or the ALERT_ON flag is set (R69). -/
def State.alertInForce (s : State) : Bool := s.pins.alertIn || s.comp.alertOn

/-- A zone is enabled in WAITING, SCANNING and LOST (R5). -/
def Zone.enabled (z : Zone) : Bool := z.state != .idle

/-- What one increment does to a counter: the value wraps or saturates, and the half-full flag is set
at the first crossing from below 2^31 to 2^31 or above (R18, R37). -/
def Counter.bump (saturate : Bool) (c : Counter) : Counter :=
  let value := if saturate && c.value == BitVec.allOnes 32 then c.value else c.value + 1
  { value := value, half := c.half || (!c.value.msb && value.msb) }

/-- Whether that increment posts COUNTER_HALF: it set the flag. -/
def Counter.crosses (saturate : Bool) (c : Counter) : Bool :=
  !c.half && (c.bump saturate).half

/-- The three candidates of the memory port arbiter (R17). -/
inductive Candidate where
  | forward
  | mirror
  | reportWrite
deriving DecidableEq, Repr

/-- The arbiter's choice, by the first line of the table of R17 that applies. -/
def BusPath.winner (b : BusPath) : Option Candidate :=
  if !b.reportWrites.isEmpty && b.waitCount ≥ Config.reportPatience then some .reportWrite
  else if b.mirrors.length ≥ Config.mirrorPressure then some .mirror
  else if !b.forward.isEmpty then some .forward
  else if !b.mirrors.isEmpty then some .mirror
  else if !b.reportWrites.isEmpty then some .reportWrite
  else none

end Sys2Proof.Machine
end

