-- ==== Sys2Proof/Machine/Ops.lean ====
section
/-! DEFINITION. The operations every block shares: updates of one block of the state, the report path
(R26 to R29), acknowledgements (R24, R25), counter increments (R37), and the horns (R116). -/

namespace Sys2Proof.Machine

/-! ## One block replaced -/

def State.withPending (s : State) (x : List Instr) : State := { s with pending := x }
def State.withPins (s : State) (x : Pins) : State := { s with pins := x }
def State.withBus (s : State) (x : BusPath) : State := { s with bus := x }
def State.withCmd (s : State) (x : CommandUnit) : State := { s with cmd := x }
def State.withCounters (s : State) (x : Counters) : State := { s with counters := x }
def State.withZones (s : State) (x : Tab Zone 4) : State := { s with zones := x }
def State.withComp (s : State) (x : Compositor) : State := { s with comp := x }
def State.withGlyph (s : State) (x : GlyphRenderer) : State := { s with glyph := x }
def State.withTiming (s : State) (x : TimingUnit) : State := { s with timing := x }
def State.withCapture (s : State) (x : Capture) : State := { s with capture := x }
def State.withPlayer (s : State) (x : Player) : State := { s with player := x }
def State.withSponsor (s : State) (x : Sponsor) : State := { s with sponsor := x }
def State.withMessage (s : State) (x : MessageUnit) : State := { s with message := x }
def State.withFree (s : State) (x : Nat) : State := { s with free := x }

/-- Zone `z`. -/
def State.zone (s : State) (z : Fin 4) : Zone := s.zones.get z

/-- Zone `z` replaced. -/
def State.setZone (s : State) (z : Fin 4) (x : Zone) : State := s.withZones (s.zones.set z x)

/-! ## The report path -/

/-- The flags byte of a report record: LOST, END, MORE, PHASE in bits 0 to 3 (R43). -/
def Report.flags (r : Report) (lost phase : Bool) : Nat :=
  yesNo lost + 2 * yesNo r.lastOfTable + 4 * yesNo r.more + 8 * yesNo phase

/-- The 32-byte report record (R43). A payload byte beyond the last packed field is 0 in every report (DESIGN
CHOICE: the manual gives 0 for the second ENTRY of a pair and for the unused places of COUNTERS alone;
assumption log 39). -/
def Report.bytes (r : Report) (lost phase : Bool) : List Byte :=
  leBytes 1 r.kind.number ++ leBytes 1 r.code ++ leBytes 1 (r.flags lost phase) ++
  leBytes 1 r.unit.number ++ bytesOf 2 r.tag ++ leBytes 2 r.subject ++ bytesOf 4 r.uptime ++
  r.payload ++ List.replicate (20 - r.payload.length) 0

/-- The unacknowledged reports: the entries from C up to but not including N (R26). -/
def CommandUnit.unacknowledged (c : CommandUnit) : Nat := (c.nextEntry - c.consumer).toNat

/-- A report can be moved: one waits, the ring has room, and the report write queue has room (R28). -/
def State.canMove (s : State) : Bool :=
  !s.cmd.queue.isEmpty && s.cmd.unacknowledged < Config.ringCapacity &&
  s.bus.reportWrites.length < Config.reportWriteCapacity

/-- One move of R28: the head report takes ring entry N, LOST and PHASE, and enters the report write
queue; N advances. PHASE is set on even-numbered laps. -/
def moveReport (s : State) : State :=
  match s.cmd.queue with
  | [] => s
  | r :: rest =>
    let write : ReportWrite :=
      { entry := s.cmd.nextEntry, data := r.bytes s.cmd.lost (!s.cmd.oddLap) }
    (s.withBus { s.bus with reportWrites := s.bus.reportWrites ++ [write] }).withCmd
      { s.cmd with
        queue := rest
        lost := false
        nextEntry := s.cmd.nextEntry + 1
        oddLap := if s.cmd.nextEntry = 63 then !s.cmd.oddLap else s.cmd.oddLap }

/-- Up to `n` moves, as long as the conditions of R28 hold. -/
def moveUpTo : Nat → State → State
  | 0, s => s
  | n + 1, s => if s.canMove then moveUpTo n (moveReport s) else s

/-- R28: it goes on moving reports until one of the conditions fails or the queue is empty. -/
def moveReports (s : State) : State := moveUpTo s.cmd.queue.length s

/-- A report joins the tail of the report queue, or is discarded with LOST set when the queue holds 8
(R27). Joining an empty queue gives it its chance to move (R28). -/
def enqueue (r : Report) (s : State) : State :=
  if s.cmd.queue.length < Config.reportQueueCapacity then
    let joined := s.withCmd { s.cmd with queue := s.cmd.queue ++ [r] }
    if s.cmd.queue.isEmpty then moveReports joined else joined
  else s.withCmd { s.cmd with lost := true }

/-- Two reports that join as a pair or not at all (R27). -/
def enqueuePair (r₁ r₂ : Report) (s : State) : State :=
  if s.cmd.queue.length + 2 ≤ Config.reportQueueCapacity then enqueue r₂ (enqueue r₁ s)
  else s.withCmd { s.cmd with lost := true }

/-- A report is generated with the uptime count at that instant (R27). -/
def post (unit : UnitId) (tag : BitVec 16) (kind : ReportKind) (code subject : Nat)
    (payload : List Byte) (s : State) : State :=
  enqueue { kind := kind, code := code, lastOfTable := false, more := false, unit := unit,
            tag := tag, subject := subject, uptime := s.timing.uptime, payload := payload } s

/-! ## Acknowledgement -/

/-- What taking a command comes to (R24): a refusal, which changes nothing; an effect acknowledged by
DONE, with the code CLAMPED, a payload and END as the owning chapter gives; or the effect of a
data-bearing command, whose reports are already posted. -/
inductive Reply where
  | refuse (code : RefusalCode)
  | done (s : State) (clamped : Bool) (payload : List Byte) (lastOfTable : Bool)
  | data (s : State)

/-- A DONE with code OK and no payload. -/
def Reply.ok (s : State) : Reply := .done s false [] false

/-- A DONE with code OK or CLAMPED and no payload. -/
def Reply.ack (s : State) (clamped : Bool) : Reply := .done s clamped [] false

/-- The acknowledgement of a command, the last report it generates (R24, R25). QUIET suppresses DONE and
nothing else. -/
def acknowledge (code : Nat) (unit : UnitId) (h : Header) (s : State) : Reply → State
  | .refuse c => post unit h.tag .refused c.number code [] s
  | .done t clamped payload lastOfTable =>
    if h.quiet then t
    else
      enqueue { kind := .done, code := yesNo clamped, lastOfTable := lastOfTable, more := false,
                unit := unit, tag := h.tag, subject := code, uptime := t.timing.uptime,
                payload := payload } t
  | .data t => t

/-- What the owner of a table answers to a DEPOSIT (R34): a refusal, which writes nothing, or the state
written and whether a field was clamped. -/
inductive Deposit where
  | refuse (code : RefusalCode)
  | accept (s : State) (clamped : Bool)

/-- A host command can be taken only while RESET_N is released, since no burst is accepted while it is
asserted (R19, R22; assumption log 18). -/
def whileRunning (effect : State → State) (s : State) : State :=
  if s.pins.resetAsserted then s else effect s

/-! ## Counters -/

/-- Group id of R37. -/
def CounterId.group : CounterId → Nat
  | .zone _ => 1
  | .exposed _ => 2
  | .occluded _ => 3
  | .path _ => 4

/-- Index in the group (R37). -/
def CounterId.index : CounterId → Nat
  | .zone i => i.val
  | .exposed i => i.val
  | .occluded i => i.val
  | .path i => i.val

/-- The block that owns a counter (R18, R59, R180). -/
def CounterId.owner : CounterId → UnitId
  | .zone _ => .zoneTiming
  | .exposed _ => .sponsor
  | .occluded _ => .sponsor
  | .path _ => .busPath

def Counters.get (c : Counters) : CounterId → Counter
  | .zone i => c.zone.get i
  | .exposed i => c.exposed.get i
  | .occluded i => c.occluded.get i
  | .path i => c.path.get i

def Counters.set (c : Counters) (id : CounterId) (x : Counter) : Counters :=
  match id with
  | .zone i => { c with zone := c.zone.set i x }
  | .exposed i => { c with exposed := c.exposed.set i x }
  | .occluded i => { c with occluded := c.occluded.set i x }
  | .path i => { c with path := c.path.set i x }

/-- One increment under the counter mode, with COUNTER_HALF, tag 0, when the half-full flag is set
(R37). -/
def count (id : CounterId) (s : State) : State :=
  let c := s.counters.get id
  let t := s.withCounters (s.counters.set id (c.bump s.cmd.saturate))
  if c.crosses s.cmd.saturate then post id.owner 0 .counterHalf id.group id.index [] t else t

/-- The path counters (R37): STRAY 0, PARTIAL_CMD 1, MIRROR_DROP 2, STALLS 3. -/
def countStray : State → State := count (.path 0)
def countPartialCmd : State → State := count (.path 1)
def countMirrorDrop : State → State := count (.path 2)
def countStall : State → State := count (.path 3)

/-- The counter of zone `z` and kind `k`: FRAMES 0, SHORT 1, SYNC_ERR 2, LOST 3 (R59). -/
def zoneCounter (z k : Fin 4) : CounterId := .zone ⟨4 * z.val + k.val, by omega⟩

/-! ## Horns -/

/-- A trigger sets the remaining time to the duration, sounding or not (R116). -/
def Horn.trigger (h : Horn) : Horn := { h with remaining := h.duration }

/-- SILENCE (R116). -/
def Horn.silence (h : Horn) : Horn := { h with remaining := 0 }

/-- Step 2 of R104: a sounding horn loses 1 ms. -/
def Horn.tick (h : Horn) : Horn := { h with remaining := h.remaining - 1 }

end Sys2Proof.Machine
end

