-- ==== Sys2Proof/Machine/Timing.lean ====
section
/-! DEFINITION. The timing unit (chapter 6): game clock, possession clock, console lines, horns, score and
display text, with the commands CLOCK_CONFIG to HORN and SCORE_SET to FIELD_ADD and the events LINE_START,
LINE_STOP and PC_RESET. What a millisecond pulse does to it is here too; the whole pulse is in
Machine/Pulse.lean. -/

namespace Sys2Proof.Machine

open Host (Outcome)

/-! ## The game clock -/

/-- The limit of the clock: 0 in DOWN mode, 5,999,000 in UP mode (R105). -/
def clockLimit : ClockMode → Nat
  | .down => 0
  | .up => Config.gameClockTop

/-- A STOPPED clock is startable when its value is above 0 in DOWN mode, below 5,999,000 in UP mode
(R105). -/
def startable (mode : ClockMode) (value : Nat) : Bool :=
  match mode with
  | .down => 0 < value
  | .up => value < Config.gameClockTop

/-- The value one pulse later: 1 ms toward the limit (R111). -/
def movedValue (mode : ClockMode) (value : Nat) : Nat :=
  match mode with
  | .down => value - 1
  | .up => if value < Config.gameClockTop then value + 1 else value

/-- R109: a STOPPED, startable clock runs and the break flag is cleared. -/
def TimingUnit.start (t : TimingUnit) : TimingUnit := { t with state := .running, breakFlag := false }

/-- R109: whether a start takes the clock to RUNNING. -/
def TimingUnit.canStart (t : TimingUnit) : Bool := t.state == .stopped && startable t.mode t.value

/-- R110, R118: the clock stops and the captured value is set. -/
def TimingUnit.halt (t : TimingUnit) : TimingUnit := { t with state := .stopped, captured := t.value }

/-- The STOPPED report (R124): captured value and cause (LINE 0, COMMAND 1, POSSESSION 2). -/
def postStopped (tag : BitVec 16) (cause : Nat) (s : State) : State :=
  post .timing tag .stopped 0 0 (leBytes 4 s.timing.captured ++ leBytes 1 cause) s

/-- The game clock's EXPIRED report (R124): mode and value at expiry. -/
def postClockExpired (tag : BitVec 16) (s : State) : State :=
  post .timing tag .expired 0 0 (leBytes 1 s.timing.mode.number ++ leBytes 4 s.timing.value) s

/-- A horn triggered (R116). -/
def triggerHorn (which : HornId) (s : State) : State :=
  match which with
  | .game => s.withTiming { s.timing with hornG := s.timing.hornG.trigger }
  | .possession => s.withTiming { s.timing with hornP := s.timing.hornP.trigger }

/-- The clock at its limit goes to EXPIRED, HORN_G is triggered and EXPIRED is posted (R111, R112). -/
def expireClock (tag : BitVec 16) (s : State) : State :=
  postClockExpired tag
    (triggerHorn .game (s.withTiming { s.timing with state := .expired }))

/-- A CLOCK_SET of a value within the range, by state (R112). -/
def setClock (tag : BitVec 16) (value : Nat) (s : State) : State :=
  let t := s.withTiming { s.timing with value := value }
  match s.timing.state with
  | .stopped => t
  | .running => if value = clockLimit s.timing.mode then expireClock tag t else t
  | .expired =>
    if value = clockLimit s.timing.mode then t
    else t.withTiming { t.timing with state := .stopped }

/-- The DONE payload of CLOCK_SET and CLOCK_ADJUST: resulting value and state (R112). -/
def clockPayload (t : TimingUnit) : List Byte := leBytes 4 t.value ++ leBytes 1 t.state.number

/-- A line start (R109): ignored unless the clock is STOPPED and startable. -/
def lineStart (s : State) : State :=
  if s.timing.canStart then s.withTiming s.timing.start else s

/-- A line stop (R110): ignored unless the clock is RUNNING. -/
def lineStop (s : State) : State :=
  if s.timing.state = .running then postStopped 0 0 (s.withTiming s.timing.halt) else s

/-- What an edge of GC_START is under the input mode and its sense (R107, R108): a line start, a line
stop, or nothing. -/
def gcStartEdge (edge : Edge) (s : State) : State :=
  match s.timing.startSense with
  | none => s
  | some sense =>
    if edge = sense then lineStart s
    else
      match s.timing.inputMode with
      | .edgePair => s
      | .level => lineStop s

/-- What an edge of GC_STOP is (R107); in LEVEL mode it is ignored (R108). -/
def gcStopEdge (edge : Edge) (s : State) : State :=
  if s.timing.inputMode = .edgePair ∧ s.timing.stopSense = some edge then lineStop s else s

/-- The level a line stands at after an edge. -/
def levelAfter : Edge → Bool
  | .rising => true
  | .falling => false

/-- An edge on a console line: the pin takes its new level, and the edge counts unless RESET_N is
asserted (R107). -/
def consoleEdge (line : ConsoleLine) (edge : Edge) (s : State) : State :=
  match line with
  | .gcStart =>
    whileRunning (gcStartEdge edge) (s.withPins { s.pins with gcStart := levelAfter edge })
  | .gcStop =>
    whileRunning (gcStopEdge edge) (s.withPins { s.pins with gcStop := levelAfter edge })

/-! ## The timing unit's part of a millisecond pulse (R104, steps 1 to 4) -/

/-- Step 1: the uptime count advances and wraps. -/
def pulseUptime (s : State) : State := s.withTiming { s.timing with uptime := s.timing.uptime + 1 }

/-- Step 2: both horns count down. -/
def pulseHorns (s : State) : State :=
  s.withTiming { s.timing with hornG := s.timing.hornG.tick, hornP := s.timing.hornP.tick }

/-- Step 3: a RUNNING game clock moves, and expires at its limit (R111). -/
def pulseGame (s : State) : State :=
  if s.timing.state = .running then
    let value := movedValue s.timing.mode s.timing.value
    let t := s.withTiming { s.timing with value := value }
    if value = clockLimit s.timing.mode then expireClock 0 t else t
  else s

/-- POSS_EXPIRED: game clock value and state as the pulse's game clock step left them (R124). -/
def postPossExpired (s : State) : State :=
  post .timing 0 .possExpired 0 0 (clockPayload s.timing) s

/-- With STOP_GAME set, a game clock still RUNNING is stopped with cause POSSESSION (R118). -/
def stopGameByPossession (s : State) : State :=
  if s.timing.stopGame ∧ s.timing.state = .running then
    postStopped 0 2 (s.withTiming s.timing.halt)
  else s

/-- Step 4: the possession clock counts if the game clock was RUNNING before step 3 (R118). -/
def pulsePossession (wasRunning : Bool) (s : State) : State :=
  if wasRunning ∧ s.timing.possEnabled ∧ 0 < s.timing.possValue then
    let t := s.withTiming { s.timing with possValue := s.timing.possValue - 1 }
    if s.timing.possValue = 1 then
      stopGameByPossession (postPossExpired (triggerHorn .possession t))
    else t
  else s

/-- Whether the move from `before` to `after` carried the clock across a mark (R120). -/
def crosses (mode : ClockMode) (before after mark : Nat) : Bool :=
  match mode with
  | .down => mark < before && after ≤ mark
  | .up => before < mark && mark ≤ after

/-! ## Display text -/

/-- The code of a decimal digit, 48 to 57 (R121). -/
def digitCode (d : Nat) : Code := ⟨48 + d % 10, by omega⟩

/-- Space 32, point 46, colon 58 (R44). -/
def spaceCode : Code := 32
def pointCode : Code := 46
def colonCode : Code := 58

/-- A leading digit, a space when it is 0. -/
def leadingDigit (d : Nat) : Code := if d = 0 then spaceCode else digitCode d

/-- The game clock text of value `v` with tenths threshold `threshold` (R121). -/
def gameText (mode : ClockMode) (threshold v : Nat) : List Code :=
  if 0 < threshold ∧ v < threshold then
    let t := v / 100
    let sec := t / 10
    [spaceCode, leadingDigit (sec / 10), digitCode (sec % 10), pointCode, digitCode (t % 10)]
  else
    let whole := match mode with
      | .down => (v + 999) / 1000
      | .up => v / 1000
    let minutes := whole / 60
    let sec := whole % 60
    [leadingDigit (minutes / 10), digitCode (minutes % 10), colonCode, digitCode (sec / 10),
      digitCode (sec % 10)]

/-- Four space codes. -/
def blankPossession : List Code := [spaceCode, spaceCode, spaceCode, spaceCode]

/-- The possession text of value `p` (R122), the game clock being at `v`. -/
def possText (enabled : Bool) (mode : ClockMode) (threshold v p : Nat) : List Code :=
  if !enabled then blankPossession
  else if mode = .down ∧ v < p then blankPossession
  else if threshold ≤ p then
    let sec := (p + 999) / 1000
    [spaceCode, spaceCode, leadingDigit (sec / 10), digitCode (sec % 10)]
  else
    let t := p / 100
    [leadingDigit (t / 10 / 10), digitCode (t / 10 % 10), pointCode, digitCode (t % 10)]

/-- The texts of the clocks as they stand. -/
def TimingUnit.gameText (t : TimingUnit) : List Code := Machine.gameText t.mode t.threshold t.value

def TimingUnit.possText (t : TimingUnit) : List Code :=
  Machine.possText t.possEnabled t.mode t.possThreshold t.value t.possValue

/-! ## Events -/

/-- LINE_START: an edge of GC_START (R107 to R109). -/
def execLineStart (edge : Edge) (s : State) : Outcome State Fault Refusal :=
  .next (consoleEdge .gcStart edge s)

/-- LINE_STOP: an edge of GC_STOP, or of GC_START in LEVEL mode (R107, R108, R110). -/
def execLineStop (line : ConsoleLine) (edge : Edge) (s : State) : Outcome State Fault Refusal :=
  .next (consoleEdge line edge s)

/-- The preset loaded into the possession value (R117). -/
def loadPreset (s : State) : State :=
  s.withTiming { s.timing with possValue := s.timing.possPreset }

/-- An edge of PC_RESET in the direction of its sense loads the preset (R117). -/
def pcResetEdge (edge : Edge) (s : State) : State :=
  if s.timing.pcSense = some edge then loadPreset s else s

/-- PC_RESET (R117). -/
def execPcReset (edge : Edge) (s : State) : Outcome State Fault Refusal :=
  .next (whileRunning (pcResetEdge edge)
    (s.withPins { s.pins with pcReset := levelAfter edge }))

/-! ## Clock commands -/

/-- CLOCK_CONFIG (R106): three named values, three clamped numbers; a new F restarts the accumulator
(R103). -/
def takeClockConfig (h : Header) (refRate : BitVec 32) (mode startSense stopSense : Byte)
    (threshold duration : BitVec 32) (s : State) : State :=
  acknowledge 0x20 .timing h s <|
    match inputMode? mode.toNat, lineSense? startSense.toNat, lineSense? stopSense.toNat with
    | some inputMode, some start, some stop =>
      let f := clamp Config.rateLow Config.rateHigh refRate.toNat
      let t := min 100000 threshold.toNat
      let d := clamp 100 5000 duration.toNat
      let timing := { s.timing with
        refRate := f
        accumulator := if f = s.timing.refRate then s.timing.accumulator else 0
        inputMode := inputMode, startSense := start, stopSense := stop, threshold := t
        hornG := { s.timing.hornG with duration := d } }
      .ack (s.withTiming timing)
        (f != refRate.toNat || t != threshold.toNat || d != duration.toNat)
    | _, _, _ => .refuse .unknown

def execClockConfig (h : Header) (refRate : BitVec 32) (mode startSense stopSense : Byte)
    (threshold duration : BitVec 32) (s : State) : Outcome State Fault Refusal :=
  .next (whileRunning (takeClockConfig h refRate mode startSense stopSense threshold duration) s)

/-- CLOCK_START (R109). -/
def takeClockStart (h : Header) (s : State) : State :=
  acknowledge 0x21 .timing h s <|
    if s.timing.canStart then .ok (s.withTiming s.timing.start) else .refuse .state

def execClockStart (h : Header) (s : State) : Outcome State Fault Refusal :=
  .next (whileRunning (takeClockStart h) s)

/-- CLOCK_STOP (R110): STOPPED with cause COMMAND and the command's tag, then DONE. -/
def takeClockStop (h : Header) (s : State) : State :=
  acknowledge 0x22 .timing h s <|
    if s.timing.state = .running then .ok (postStopped h.tag 1 (s.withTiming s.timing.halt))
    else .refuse .state

def execClockStop (h : Header) (s : State) : Outcome State Fault Refusal :=
  .next (whileRunning (takeClockStop h) s)

/-- CLOCK_SET (R112). -/
def takeClockSet (h : Header) (value : BitVec 32) (s : State) : State :=
  acknowledge 0x23 .timing h s <|
    let v := min Config.gameClockTop value.toNat
    let t := setClock h.tag v s
    .done t (v != value.toNat) (clockPayload t.timing) false

def execClockSet (h : Header) (value : BitVec 32) (s : State) : Outcome State Fault Refusal :=
  .next (whileRunning (takeClockSet h value) s)

/-- A sum with a signed delta brought into 0 to `top`, and whether it had to be (R113, R123). -/
def addClamped (top value : Nat) (delta : BitVec 32) : Nat × Bool :=
  let sum := (value : Int) + delta.toInt
  if sum < 0 then (0, true) else if (top : Int) < sum then (top, true) else (sum.toNat, false)

/-- CLOCK_ADJUST (R113). -/
def takeClockAdjust (h : Header) (delta : BitVec 32) (s : State) : State :=
  acknowledge 0x24 .timing h s <|
    let r := addClamped Config.gameClockTop s.timing.value delta
    let t := setClock h.tag r.1 s
    .done t r.2 (clockPayload t.timing) false

def execClockAdjust (h : Header) (delta : BitVec 32) (s : State) : Outcome State Fault Refusal :=
  .next (whileRunning (takeClockAdjust h delta) s)

/-- CLOCK_MODE (R114). -/
def takeClockMode (h : Header) (mode : Byte) (s : State) : State :=
  acknowledge 0x25 .timing h s <|
    match clockMode? mode.toNat with
    | none => .refuse .unknown
    | some m =>
      if s.timing.state = .stopped then .ok (s.withTiming { s.timing with mode := m })
      else .refuse .state

def execClockMode (h : Header) (mode : Byte) (s : State) : Outcome State Fault Refusal :=
  .next (whileRunning (takeClockMode h mode) s)

/-- BREAK_ON (R115). -/
def takeBreakOn (h : Header) (s : State) : State :=
  acknowledge 0x26 .timing h s <|
    if s.timing.state = .running then .refuse .state
    else .ok (s.withTiming { s.timing with breakFlag := true })

def execBreakOn (h : Header) (s : State) : Outcome State Fault Refusal :=
  .next (whileRunning (takeBreakOn h) s)

/-- BREAK_OFF (R115). -/
def takeBreakOff (h : Header) (s : State) : State :=
  acknowledge 0x27 .timing h s <| .ok (s.withTiming { s.timing with breakFlag := false })

def execBreakOff (h : Header) (s : State) : Outcome State Fault Refusal :=
  .next (whileRunning (takeBreakOff h) s)

/-! ## Possession commands -/

/-- POSS_CONFIG (R117). A new preset does not change the value. -/
def takePossConfig (h : Header) (preset threshold : BitVec 32) (stopGame sense : Byte)
    (duration : BitVec 32) (s : State) : State :=
  acknowledge 0x28 .timing h s <|
    match yesNo? stopGame.toNat, lineSense? sense.toNat with
    | some stop, some pcSense =>
      let p := clamp 1000 99000 preset.toNat
      let t := min 99000 threshold.toNat
      let d := clamp 100 5000 duration.toNat
      let timing := { s.timing with
        possPreset := p, possThreshold := t, stopGame := stop, pcSense := pcSense
        hornP := { s.timing.hornP with duration := d } }
      .ack (s.withTiming timing)
        (p != preset.toNat || t != threshold.toNat || d != duration.toNat)
    | _, _ => .refuse .unknown

def execPossConfig (h : Header) (preset threshold : BitVec 32) (stopGame sense : Byte)
    (duration : BitVec 32) (s : State) : Outcome State Fault Refusal :=
  .next (whileRunning (takePossConfig h preset threshold stopGame sense duration) s)

/-- POSS_ENABLE (R117). -/
def takePossEnable (h : Header) (enabled : Byte) (s : State) : State :=
  acknowledge 0x29 .timing h s <|
    match yesNo? enabled.toNat with
    | none => .refuse .unknown
    | some e => .ok (s.withTiming { s.timing with possEnabled := e })

def execPossEnable (h : Header) (enabled : Byte) (s : State) : Outcome State Fault Refusal :=
  .next (whileRunning (takePossEnable h enabled) s)

/-- POSS_RESET (R117). -/
def takePossReset (h : Header) (s : State) : State :=
  acknowledge 0x2A .timing h s <| .ok (loadPreset s)

def execPossReset (h : Header) (s : State) : Outcome State Fault Refusal :=
  .next (whileRunning (takePossReset h) s)

/-- POSS_SET (R117). -/
def takePossSet (h : Header) (value : BitVec 32) (s : State) : State :=
  acknowledge 0x2B .timing h s <|
    let v := min Config.possessionTop value.toNat
    .ack (s.withTiming { s.timing with possValue := v }) (v != value.toNat)

def execPossSet (h : Header) (value : BitVec 32) (s : State) : Outcome State Fault Refusal :=
  .next (whileRunning (takePossSet h value) s)

/-- HORN operands: GAME 0, POSSESSION 1 (R116). -/
def hornId? : Nat → Option HornId
  | 0 => some .game
  | 1 => some .possession
  | _ => none

/-- A horn silenced at once (R116). -/
def silenceHorn (which : HornId) (s : State) : State :=
  match which with
  | .game => s.withTiming { s.timing with hornG := s.timing.hornG.silence }
  | .possession => s.withTiming { s.timing with hornP := s.timing.hornP.silence }

/-- HORN (R116): action SOUND 0, SILENCE 1. -/
def takeHorn (h : Header) (which action : Byte) (s : State) : State :=
  acknowledge 0x2C .timing h s <|
    match hornId? which.toNat, yesNo? action.toNat with
    | some id, some silence => .ok (if silence then silenceHorn id s else triggerHorn id s)
    | _, _ => .refuse .unknown

def execHorn (h : Header) (which action : Byte) (s : State) : Outcome State Fault Refusal :=
  .next (whileRunning (takeHorn h which action) s)

/-! ## Score commands (R123) -/

/-- The home (side 0) or guest (side 1) score. -/
def TimingUnit.score (t : TimingUnit) (guest : Bool) : Nat := if guest then t.guest else t.home

def TimingUnit.setScore (t : TimingUnit) (guest : Bool) (v : Nat) : TimingUnit :=
  if guest then { t with guest := v } else { t with home := v }

/-- A score or field written; the DONE carries the resulting value, 2 bytes. -/
def scoreReply (s : State) (timing : TimingUnit) (clamped : Bool) (value : Nat) : Reply :=
  .done (s.withTiming timing) clamped (leBytes 2 value) false

/-- SCORE_SET (R123). -/
def takeScoreSet (h : Header) (side : Byte) (value : BitVec 16) (s : State) : State :=
  acknowledge 0x30 .timing h s <|
    match yesNo? side.toNat with
    | none => .refuse .unknown
    | some guest =>
      let v := min 999 value.toNat
      scoreReply s (s.timing.setScore guest v) (v != value.toNat) v

def execScoreSet (h : Header) (side : Byte) (value : BitVec 16) (s : State) :
    Outcome State Fault Refusal :=
  .next (whileRunning (takeScoreSet h side value) s)

/-- SCORE_ADD (R123). -/
def takeScoreAdd (h : Header) (side : Byte) (delta : BitVec 32) (s : State) : State :=
  acknowledge 0x31 .timing h s <|
    match yesNo? side.toNat with
    | none => .refuse .unknown
    | some guest =>
      let r := addClamped 999 (s.timing.score guest) delta
      scoreReply s (s.timing.setScore guest r.1) r.2 r.1

def execScoreAdd (h : Header) (side : Byte) (delta : BitVec 32) (s : State) :
    Outcome State Fault Refusal :=
  .next (whileRunning (takeScoreAdd h side delta) s)

/-- FIELD_SET (R123). -/
def takeFieldSet (h : Header) (field : Byte) (value : BitVec 16) (s : State) : State :=
  acknowledge 0x32 .timing h s <|
    match index? 8 field.toNat with
    | none => .refuse .range
    | some i =>
      let v := min 99 value.toNat
      scoreReply s { s.timing with fields := s.timing.fields.set i v } (v != value.toNat) v

def execFieldSet (h : Header) (field : Byte) (value : BitVec 16) (s : State) :
    Outcome State Fault Refusal :=
  .next (whileRunning (takeFieldSet h field value) s)

/-- FIELD_ADD (R123). -/
def takeFieldAdd (h : Header) (field : Byte) (delta : BitVec 32) (s : State) : State :=
  acknowledge 0x33 .timing h s <|
    match index? 8 field.toNat with
    | none => .refuse .range
    | some i =>
      let r := addClamped 99 (s.timing.fields.get i) delta
      scoreReply s { s.timing with fields := s.timing.fields.set i r.1 } r.2 r.1

def execFieldAdd (h : Header) (field : Byte) (delta : BitVec 32) (s : State) :
    Outcome State Fault Refusal :=
  .next (whileRunning (takeFieldAdd h field delta) s)

end Sys2Proof.Machine
end

