-- ==== Sys2Proof/Machine/Glyph.lean ====
section
/-! DEFINITION. The glyph renderer (chapter 5): whether a pixel of a glyph window is set and with which
colour index, the content latch of a zone, and the deposits into GLYPH, COLOUR, LAYOUT and ALERT_TEXT.
The renderer has no commands of its own. -/

namespace Sys2Proof.Machine

/-! ## Shapes -/

/-- The GLYPH table index of a row: glyph × 24 + row (R87). -/
def glyphRow (c : Code) (row : Nat) : Fin 3072 := ⟨c.val * 24 + row % 24, by omega⟩

/-- Bit column 0 is the most significant bit of the row value (R87). -/
def GlyphRenderer.bit (g : GlyphRenderer) (c : Code) (row column : Nat) : Bool :=
  (g.store.get (glyphRow c row)).getMsbD column

/-! ## What the cells hold -/

/-- The latched value of a score source (R95). -/
def ContentLatch.sourceValue (l : ContentLatch) : ScoreSource → Nat
  | .home => l.home
  | .guest => l.guest
  | .field i => l.fields.get i

/-- Digit `i` of `n`, from the left, of a score item showing `value` (R95): nines when it does not fit, and
a space for a leading zero under suppression, the last digit excepted. -/
def scoreDigit (value n : Nat) (suppress : Bool) (i : Nat) : Code :=
  let shown := min value (10 ^ n - 1)
  let head := shown / 10 ^ (n - 1 - i)
  if suppress ∧ head = 0 ∧ i + 1 < n then spaceCode else digitCode (head % 10)

/-- Item `k` of the layout a SCORE window is bound to. -/
def ContentLatch.item (l : ContentLatch) (binding : Byte) (k : Fin 12) : LayoutItem :=
  l.layouts.get ⟨(binding.toNat % 4) * 12 + k.val, by omega⟩

/-- Whether an item occupies a cell (R95). -/
def LayoutItem.occupies (i : LayoutItem) (column row : Nat) : Bool :=
  i.enabled && i.row == row && i.column ≤ column && column < i.column + i.digits

/-- The code and colour index of a cell of a CLOCK, SCORE or ALERT window, none where the text source
places no code (R90, R93, R95, R97). The lower-numbered of two overlapping items has the cell. -/
def ContentLatch.cell (l : ContentLatch) (w : Window) (column row : Nat) :
    Option (Code × Fin 16) :=
  match w.kind with
  | .clock =>
    let text := if w.binding = 0 then l.gameText else l.possText
    if row = 0 then text[column]?.map fun c => (c, w.foreground) else none
  | .score =>
    ((List.finRange 12).find? fun k => (l.item w.binding k).occupies column row).map fun k =>
      let i := l.item w.binding k
      (scoreDigit (l.sourceValue i.source) i.digits i.suppress (column - i.column),
        i.colour.getD w.foreground)
  | .alert =>
    if h : row < 4 ∧ column < 40 then
      some (l.alertText.get ⟨row * 40 + column, by omega⟩, w.foreground)
    else none
  | .crawl | .sponsor | .replay => none

/-- Whether column `x`, row `y` of a CRAWL window is set by one message of the strip (R99). -/
def GlyphRenderer.crawlSet (g : GlyphRenderer) (w : Window) (x y : Nat) (m : CrawlContent) : Bool :=
  let strip := 16 * w.width
  let cell := 16 * w.scale
  let u := x + m.travel - strip
  if strip ≤ x + m.travel ∧ u < cell * m.length ∧ y < 24 * w.scale then
    if h : u / cell < 160 then
      g.bit (m.text.get ⟨u / cell, h⟩) (y % (24 * w.scale) / w.scale) (u % cell / w.scale)
    else false
  else false

/-- The colour index of a pixel of a CRAWL window: the LEAD's where the LEAD sets it, otherwise the
FOLLOW's (R90, R99). -/
def GlyphRenderer.crawlPixel (g : GlyphRenderer) (l : ContentLatch) (w : Window) (x y : Nat) :
    Option (Fin 16) :=
  match l.lead.filter (g.crawlSet w x y), l.follow.filter (g.crawlSet w x y) with
  | some m, _ => some (m.colour.getD w.foreground)
  | none, some m => some (m.colour.getD w.foreground)
  | none, none => none

/-- Whether pixel (x, y) of a glyph window is set, and the colour index it then takes (R89, R90). An empty
latch sets no pixel (R92). -/
def GlyphRenderer.pixel (g : GlyphRenderer) (z : Fin 4) (w : Window) (x y : Nat) :
    Option (Fin 16) :=
  match g.latches.get z with
  | none => none
  | some l =>
    if w.kind = .crawl then g.crawlPixel l w x y
    else
      let cellWidth := 16 * w.scale
      let cellHeight := 24 * w.scale
      match l.cell w (x / cellWidth) (y / cellHeight) with
      | none => none
      | some (c, colour) =>
        if g.bit c (y % cellHeight / w.scale) (x % cellWidth / w.scale) then some colour else none

/-! ## The content latch -/

/-- The crawl content of a message on screen (R98). -/
def Message.content (m : Message) : CrawlContent :=
  { text := m.text, length := m.length, travel := m.travel, colour := m.colour }

/-- The message a place of the crawl holds. -/
def MessageUnit.onScreen (u : MessageUnit) (p : Option (Fin 64)) : Option Message :=
  match p with
  | none => none
  | some i => u.store.get i

/-- Everything the latch takes at a frame start (R91, R98), as it stands at that instant. -/
def State.content (s : State) : ContentLatch :=
  { gameText := s.timing.gameText, possText := s.timing.possText, home := s.timing.home,
    guest := s.timing.guest, fields := s.timing.fields, layouts := s.glyph.layouts,
    alertText := s.glyph.alertText,
    lead := (s.message.onScreen s.message.lead).map Message.content,
    follow := (s.message.onScreen s.message.follow).map Message.content }

/-- The renderer's reaction to a frame start of zone `z`. -/
def latchContent (z : Fin 4) (s : State) : State :=
  s.withGlyph { s.glyph with latches := s.glyph.latches.set z (some s.content) }

/-! ## Deposits -/

/-- R87: any row value. -/
def depositGlyph (i : Fin 3072) (o : List Byte) (s : State) : Deposit :=
  .accept (s.withGlyph { s.glyph with store := s.glyph.store.set i (bitsAt 2 o 0) }) false

/-- R88: any pixel value. -/
def depositColour (i : Fin 16) (o : List Byte) (s : State) : Deposit :=
  .accept (s.withGlyph { s.glyph with colours := s.glyph.colours.set i (bitsAt 4 o 0) }) false

/-- R94: a colour index of 16 to 254 is refused RANGE; digits are clamped into 1 to 3. -/
def depositLayout (i : Fin 48) (o : List Byte) (s : State) : Deposit :=
  match readLayout o with
  | none => .refuse .unknown
  | some d =>
    if 16 ≤ d.colour ∧ d.colour ≤ 254 then .refuse .range
    else
      let digits := clamp 1 3 d.digits
      let item : LayoutItem :=
        { enabled := d.enabled, source := d.source, column := d.column, row := d.row,
          digits := digits, suppress := d.suppress, colour := index? 16 d.colour }
      .accept (s.withGlyph { s.glyph with layouts := s.glyph.layouts.set i item })
        (digits != d.digits)

/-- The alert text with codes written from position `p` on. -/
def writeCodes {n : Nat} (text : Tab Code n) (p : Nat) : List Code → Tab Code n
  | [] => text
  | c :: cs => writeCodes (if h : p < n then text.set ⟨p, h⟩ c else text) (p + 1) cs

/-- R96: 20 codes of half a line; a code above 127 is refused RANGE. -/
def depositAlertText (i : Fin 8) (o : List Byte) (s : State) : Deposit :=
  match readCodes (o.take 20) with
  | none => .refuse .range
  | some codes =>
    .accept (s.withGlyph
      { s.glyph with alertText := writeCodes s.glyph.alertText (20 * i.val) codes }) false

/-- The 20 codes of entry `i` of ALERT_TEXT (R96). -/
def packAlertText (g : GlyphRenderer) (i : Fin 8) : List Byte :=
  ((g.alertText.list.drop (20 * i.val)).take 20).map fun c => BitVec.ofNat 8 c.val

end Sys2Proof.Machine
end

