-- ==== Sys2Proof/Machine/Compositor.lean ====
section
/-! DEFINITION. The compositor (chapter 4): rank, covering windows, the source of a read, its pixels and its
outcome; active sets, clipping, alert latch, clear and served marks; WINDOW deposits; and the commands
APPLY, ALERT_ON, ALERT_OFF and PROBE with the event ALERT_IN_CHANGE. -/

namespace Sys2Proof.Machine

open Host (Outcome)

/-! ## Regions -/

/-- The address lies in the 4 KiB control area (R5, R21). -/
def State.inControlArea (s : State) (a : Nat) : Bool := s.cmd.caBase ≤ a && a < s.cmd.caBase + 4096

/-- The address lies in a zone's frame region: lines × pitch bytes from its frame base (R5). -/
def Zone.inRegion (z : Zone) (a : Nat) : Bool := z.base ≤ a && a < z.base + z.lines * z.pitch

/-- The lowest-numbered enabled zone whose region contains the address (R5). -/
def State.zoneAt (s : State) (a : Nat) : Option (Fin 4) :=
  (List.finRange 4).find? fun z => (s.zone z).enabled && (s.zone z).inRegion a

/-! ## Rank (R65) -/

def WindowKind.rank : WindowKind → Nat
  | .alert => 6
  | .clock => 5
  | .score => 4
  | .crawl => 3
  | .sponsor => 2
  | .replay => 1

/-- Window `i` of kind `k` ranks above window `j` of kind `l`. -/
def ranksAbove (k : WindowKind) (i : Fin 16) (l : WindowKind) (j : Fin 16) : Bool :=
  l.rank < k.rank || (k == l && i < j)

/-- An active copy that lies outside its zone: clipping leaves it height 0 and width 0 (R68). -/
def Window.inert (w : Window) : Bool := w.height == 0 || w.width == 0

/-- A window number with its active copy. -/
abbrev Placed := Fin 16 × Window

/-- The windows of a zone's active set of one kind, lowest number first, which is rank order (R65). -/
def State.activeOfKind (s : State) (z : Fin 4) (k : WindowKind) : List Placed :=
  (List.finRange 16).filterMap fun i =>
    match (s.comp.active.get z).get i with
    | some w => if w.kind = k then some (i, w) else none
    | none => none

/-! ## Stages 1 and 2 -/

/-- Where a read falls in its zone (R72). -/
structure ReadPlace where
  line : Nat
  granule : Nat
  beat : Nat
deriving DecidableEq, Repr

/-- Stage 1 (R72). -/
def Zone.place (z : Zone) (a : Nat) : ReadPlace :=
  let off := a - z.base
  let column := off % z.pitch
  { line := off / z.pitch, granule := column / 64, beat := column % 64 / 8 }

/-- The read lies in the pitch padding (R72). -/
def Zone.padding (z : Zone) (p : ReadPlace) : Bool := z.width ≤ p.granule

/-- The clipped rectangle of an active copy contains the line and the granule. -/
def Window.contains (w : Window) (line granule : Nat) : Bool :=
  w.top ≤ line && line < w.top + w.height && w.left ≤ granule && granule < w.left + w.width

/-- A window of the active set covers the read (R73). -/
def Window.covers (w : Window) (alertLatch : Bool) (p : ReadPlace) : Bool :=
  w.enabled && !w.inert && w.contains p.line p.granule && (w.kind != .alert || alertLatch)

/-- The covering windows of the given kinds, in that order (R73). -/
def State.covering (s : State) (z : Fin 4) (p : ReadPlace) (kinds : List WindowKind) :
    List Placed :=
  kinds.flatMap fun k =>
    (s.activeOfKind z k).filter fun w => w.2.covers (s.comp.alertLatch.get z) p

/-- The glyph list (R73). -/
def State.glyphList (s : State) (z : Fin 4) (p : ReadPlace) : List Placed :=
  s.covering z p [.alert, .clock, .score, .crawl]

/-- The source list (R73). -/
def State.sourceList (s : State) (z : Fin 4) (p : ReadPlace) : List Placed :=
  s.covering z p [.sponsor, .replay]

/-! ## The walk (R74) -/

/-- ALERT windows are always OPAQUE (R63). -/
def Window.isOpaque (w : Window) : Bool := w.kind == .alert || w.render == .opaqueCells

/-- Pixel `k` of beat `beat` in window coordinates (R77). -/
def Window.column (w : Window) (p : ReadPlace) (beat k : Nat) : Nat :=
  (p.granule - w.left) * 16 + beat * 2 + k

/-- The walk of one pixel down the glyph list: the colour that decides it, or none when it reaches the
source. After the clear pixel of a KEYED CLOCK window only CLOCK windows are consulted (R74). -/
def State.walk (s : State) (z : Fin 4) (p : ReadPlace) (beat k : Nat) (clockOnly : Bool) :
    List Placed → Option Pixel
  | [] => none
  | (_, w) :: rest =>
    if clockOnly ∧ w.kind ≠ .clock then s.walk z p beat k clockOnly rest
    else
      match s.glyph.pixel z w (w.column p beat k) (p.line - w.top) with
      | some colour => some (s.glyph.colours.get colour)
      | none =>
        if w.isOpaque then some (s.glyph.colours.get w.background)
        else s.walk z p beat k (clockOnly || w.kind == .clock) rest

/-- What the glyph windows decide of each pixel of a read of `n` beats, in order (R74, R77). -/
def State.decided (s : State) (z : Fin 4) (p : ReadPlace) (n : Nat) : MergePlan :=
  (List.range n).flatMap fun j =>
    [s.walk z p (p.beat + j) 0 false (s.glyphList z p),
     s.walk z p (p.beat + j) 1 false (s.glyphList z p)]

/-! ## The source (R75, R76) -/

/-- The panel a SPONSOR window is bound to. -/
def Window.panel (w : Window) : Fin 8 := ⟨w.binding.toNat % 8, by omega⟩

/-- A slot as an image (R75, R127). -/
def State.slotImage (s : State) (k : Fin 1024) : Image :=
  { base := s.capture.source.ringBase + k.val * s.capture.source.stride,
    pitch := s.capture.source.pitch, lines := s.capture.source.lines,
    width := s.capture.source.width }

/-- The one source of a read (R75): the original address, or a window with its image. -/
def State.source (s : State) (z : Fin 4) (p : ReadPlace) : Option (Placed × Image) :=
  match (s.sourceList z p).find? (fun w => w.2.kind == .sponsor) with
  | some w => some (w, ((s.sponsor.latches.get z).get w.2.panel).image)
  | none =>
    match s.player.latched.get z, (s.sourceList z p).find? (fun w => w.2.kind == .replay) with
    | some k, some w => some (w, s.slotImage k)
    | _, _ => none

/-- The address a read of `n` beats takes in a window's image, none where it is fill (R76). -/
def translate (w : Window) (i : Image) (p : ReadPlace) (n : Nat) : Option Nat :=
  let sl := p.line - w.top + w.cropTop
  let sg := p.granule - w.left + w.cropLeft
  let a := i.base + sl * i.pitch + sg * 64 + p.beat * 8
  if i.lines ≤ sl ∨ i.width ≤ sg ∨ Config.addressSpace < a + 8 * n then none else some a

/-! ## The outcome (R78) -/

/-- What the compositor answers the bus path (R8). -/
inductive ReadOutcome where
  | passThrough
  | remap (addr : Nat) (plan : Option MergePlan)
  | synthesize (pixels : List Pixel)
deriving DecidableEq, Repr

/-- A memory read at `a` under what the glyph windows decided: everything decided needs no memory,
something decided gives a plan (R78). -/
def memoryOutcome (a : Nat) (plan : MergePlan) : ReadOutcome :=
  if plan.all Option.isSome then .synthesize (plan.map fun d => d.getD 0)
  else if plan.any Option.isSome then .remap a (some plan)
  else .remap a none

/-- The outcome of a read of `n` beats at address `a` of zone `z` (R72 to R78). -/
def State.compose (s : State) (z : Fin 4) (a n : Nat) : ReadOutcome :=
  let zone := s.zone z
  let p := zone.place a
  if zone.padding p then .passThrough
  else
    let plan := s.decided z p n
    match s.source z p with
    | none =>
      match memoryOutcome a plan with
      | .remap _ none => .passThrough
      | outcome => outcome
    | some (w, image) =>
      match translate w.2 image p n with
      | none => .synthesize (plan.map fun d => d.getD (s.glyph.colours.get w.2.fill))
      | some b => memoryOutcome b plan

/-! ## Served tracking (R81) -/

/-- A line joined to a set of lines, which holds each at most once. -/
def addLine (line : Nat) (lines : List Nat) : List Nat :=
  if lines.contains line then lines else lines ++ [line]

/-- The line joins the set of every marked window whose clipped rectangle holds the read. -/
def markServed (z : Fin 4) (p : ReadPlace) (s : State) : State :=
  match s.comp.frameRecord.get z with
  | none => s
  | some marks =>
    let touch (m : FrameMark) : FrameMark :=
      match (s.comp.active.get z).get m.window with
      | some w =>
        if w.contains p.line p.granule then { m with lines := addLine p.line m.lines } else m
      | none => m
    s.withComp
      { s.comp with frameRecord := s.comp.frameRecord.set z (some (marks.map touch)) }

/-! ## Frame start (R67) -/

/-- Step 1: with the apply-pending flag set the copies are taken anew from the staged table, and the flag
is cleared. -/
def takeWindows (z : Fin 4) (c : Compositor) : Compositor :=
  if c.applyPending.get z then
    { c with
      taken := c.taken.set z (c.staged.map fun w => if w.zone = z then some w else none)
      applyPending := c.applyPending.set z false }
  else c

/-- Step 2, one window as taken: bounded to the zone's lines and width as they stand; one outside them is
inert, with height and width 0 (R68). -/
def clipWindow (zone : Zone) (w : Window) : Window :=
  if zone.lines ≤ w.top ∨ zone.width ≤ w.left then { w with height := 0, width := 0 }
  else
    { w with height := min w.height (zone.lines - w.top)
             width := min w.width (zone.width - w.left) }

/-- Two clipped rectangles share a line and a granule column (R80). -/
def Window.intersects (a b : Window) : Bool :=
  a.top < b.top + b.height && b.top < a.top + a.height &&
  a.left < b.left + b.width && b.left < a.left + a.width

/-- A window counts against those it ranks above: enabled, non-inert, and an ALERT window only with
the latch (R80). -/
def Window.blocks (w : Window) (alertLatch : Bool) : Bool :=
  w.enabled && !w.inert && (w.kind != .alert || alertLatch)

/-- Window `i` is clear in the set: no window that counts and ranks above it intersects it (R80). -/
def isClear (active : Tab (Option Window) 16) (alertLatch : Bool) (i : Fin 16) (w : Window) : Bool :=
  (List.finRange 16).all fun j =>
    match active.get j with
    | none => true
    | some v => !(ranksAbove v.kind j w.kind i && v.blocks alertLatch && v.intersects w)

/-- Step 4: a mark for every enabled, non-inert SPONSOR and CRAWL window (R80, R81). -/
def frameMarks (active : Tab (Option Window) 16) (alertLatch : Bool) : List FrameMark :=
  (List.finRange 16).filterMap fun i =>
    match active.get i with
    | none => none
    | some w =>
      if w.enabled ∧ !w.inert ∧ (w.kind = .sponsor ∨ w.kind = .crawl) then
        some { window := i, clear := isClear active alertLatch i w, lines := [] }
      else none

/-- The compositor's reaction to a frame start of zone `z` (R67, steps 1 to 4). The copies are clipped afresh
from the rectangles they were taken with (R68; assumption log 16). -/
def composerFrameStart (z : Fin 4) (s : State) : State :=
  let c := takeWindows z s.comp
  let active := (c.taken.get z).map (Option.map (clipWindow (s.zone z)))
  let latch := s.alertInForce
  s.withComp
    { c with
      active := c.active.set z active
      alertLatch := c.alertLatch.set z latch
      frameRecord := c.frameRecord.set z (some (frameMarks active latch)) }

/-! ## Frame close (R82) -/

/-- The set of served lines holds every line of the clipped rectangle (R81). -/
def FrameMark.whollyServed (m : FrameMark) (w : Window) : Bool :=
  (List.range w.height).all fun k => m.lines.contains (w.top + k)

/-- What the close hands over of one SPONSOR or CRAWL window (R82): its number, its kind, its panel, which
counts for SPONSOR alone, and whether it was clear and wholly served. -/
structure CloseMark where
  window : Fin 16
  kind : WindowKind
  panel : Fin 8
  clear : Bool
  served : Bool
deriving DecidableEq, Repr

/-- The close record (R82): the zone number, the closing frame's alert latch and its windows. -/
structure CloseRecord where
  zone : Fin 4
  alert : Bool
  marks : List CloseMark
deriving DecidableEq, Repr

/-- The record of zone `z`'s closing frame. -/
def State.closeRecord (s : State) (z : Fin 4) : CloseRecord :=
  { zone := z
    alert := s.comp.alertLatch.get z
    marks := ((s.comp.frameRecord.get z).getD []).filterMap fun m =>
      ((s.comp.active.get z).get m.window).map fun w =>
        { window := m.window, kind := w.kind, panel := w.panel, clear := m.clear, served := m.whollyServed w } }

/-- The compositor discards the record (R82, R48). -/
def discardRecord (z : Fin 4) (s : State) : State :=
  s.withComp { s.comp with frameRecord := s.comp.frameRecord.set z none }

/-! ## WINDOW deposits (R63, R64) -/

/-- The adjustments of R63. -/
def WindowDeposit.adjust (d : WindowDeposit) : WindowDeposit :=
  { d with top := min 4095 d.top, height := clamp 1 4096 d.height, left := min 1023 d.left,
           width := clamp 1 1024 d.width, scale := clamp 1 8 d.scale,
           cropTop := min 4095 d.cropTop, cropLeft := min 1023 d.cropLeft }

/-- The reductions of R64 against the zone record as it stands. A rectangle that lies outside the zone
on either side is held as it is (assumption log 15). -/
def WindowDeposit.bound (zone : Zone) (d : WindowDeposit) : WindowDeposit :=
  if zone.lines ≠ 0 ∧ zone.width ≠ 0 ∧ d.top < zone.lines ∧ d.left < zone.width then
    { d with height := min d.height (zone.lines - d.top)
             width := min d.width (zone.width - d.left) }
  else d

/-- A DEPOSIT into staged window `i` (R63, R64). -/
def depositWindow (i : Fin 16) (o : List Byte) (s : State) : Deposit :=
  match readWindow o with
  | none => .refuse .unknown
  | some d =>
    match index? 4 d.zone, index? 16 d.foreground, index? 16 d.background, index? 16 d.fill with
    | some z, some foreground, some background, some fill =>
      if (d.kind = .sponsor ∧ 7 < d.binding.toNat) ∨ (d.kind = .score ∧ 3 < d.binding.toNat) then
        .refuse .range
      else
        let e := d.adjust.bound (s.zone z)
        let w : Window :=
          { enabled := e.enabled, kind := e.kind, zone := z, top := e.top, height := e.height,
            left := e.left, width := e.width, binding := e.binding,
            render := if e.kind = .alert then .opaqueCells else e.render, scale := e.scale,
            foreground := foreground, background := background, fill := fill,
            cropTop := e.cropTop, cropLeft := e.cropLeft }
        .accept (s.withComp { s.comp with staged := s.comp.staged.set i w }) (e != d)
    | _, _, _, _ => .refuse .range

/-- How window `i` of zone `z`'s active set is examined: disabled with every other field 0 when the set
does not hold it (R36). -/
def packActiveWindow (c : Compositor) (z : Fin 4) (i : Fin 16) : List Byte :=
  packWindow (((c.active.get z).get i).getD Window.initial)

/-! ## The alert state -/

/-- ALERT_CHANGE (R69): the new alert in force, the level of ALERT_IN and the flag. -/
def postAlertChange (tag : BitVec 16) (s : State) : State :=
  post .compositor tag .alertChange 0 0
    (leBytes 1 (yesNo s.alertInForce) ++ leBytes 1 (yesNo s.pins.alertIn) ++
      leBytes 1 (yesNo s.comp.alertOn)) s

/-- ALERT_CHANGE is posted when `after` has another alert in force than `before` (R69). -/
def reportAlertChange (tag : BitVec 16) (before after : State) : State :=
  if after.alertInForce = before.alertInForce then after else postAlertChange tag after

/-- A change of ALERT_IN (R69): ignored, the level apart, while RESET_N is asserted. -/
def execAlertInChange (level : Bool) (s : State) : Outcome State Fault Refusal :=
  let t := s.withPins { s.pins with alertIn := level }
  .next (if s.pins.resetAsserted then t else reportAlertChange 0 s t)

/-- The ALERT_ON flag set or cleared, with ALERT_CHANGE under the command's tag (R70). -/
def setAlertFlag (tag : BitVec 16) (on : Bool) (s : State) : State :=
  reportAlertChange tag s (s.withComp { s.comp with alertOn := on })

/-- ALERT_ON (R70). -/
def takeAlertOn (h : Header) (s : State) : State :=
  acknowledge 0x11 .compositor h s (.ok (setAlertFlag h.tag true s))

def execAlertOn (h : Header) (s : State) : Outcome State Fault Refusal :=
  .next (whileRunning (takeAlertOn h) s)

/-- ALERT_OFF (R70). -/
def takeAlertOff (h : Header) (s : State) : State :=
  acknowledge 0x12 .compositor h s (.ok (setAlertFlag h.tag false s))

def execAlertOff (h : Header) (s : State) : Outcome State Fault Refusal :=
  .next (whileRunning (takeAlertOff h) s)

/-! ## APPLY and PROBE -/

/-- APPLY sets the apply-pending flag of all four zones (R66). -/
def takeApply (h : Header) (s : State) : State :=
  acknowledge 0x10 .compositor h s
    (.ok (s.withComp { s.comp with applyPending := Tab.fill 4 true }))

def execApply (h : Header) (s : State) : Outcome State Fault Refusal :=
  .next (whileRunning (takeApply h) s)

/-- The fields of a PROBE report (R84). Absent numbers are all ones. -/
structure ProbeResult where
  zone : Option (Fin 4)
  place : Option ReadPlace
  outcome : Nat
  window : Option (Fin 16)
  address : Option Nat
  glyphs : List (Fin 16)
  alertLatch : Bool
deriving DecidableEq, Repr

/-- A PROBE answered OUTSIDE (R83, R84). -/
def ProbeResult.outside : ProbeResult :=
  { zone := none, place := none, outcome := 0, window := none, address := none, glyphs := [],
    alertLatch := false }

/-- Stages 1 to 3 for the beat at address `a`, a multiple of 8 (R83, R84): OUTSIDE 0, PADDING 1,
ORIGINAL 2, TRANSLATED 3, FILL 4. -/
def State.probe (s : State) (a : Nat) : ProbeResult :=
  if s.inControlArea a then .outside
  else
    match s.zoneAt a with
    | none => .outside
    | some z =>
      let zone := s.zone z
      let p := zone.place a
      let latch := s.comp.alertLatch.get z
      if zone.padding p then
        { zone := some z, place := some p, outcome := 1, window := none, address := some a,
          glyphs := [], alertLatch := latch }
      else
        let glyphs := (s.glyphList z p).map Prod.fst
        match s.source z p with
        | none =>
          { zone := some z, place := some p, outcome := 2, window := none, address := some a,
            glyphs := glyphs, alertLatch := latch }
        | some (w, image) =>
          match translate w.2 image p 1 with
          | some b =>
            { zone := some z, place := some p, outcome := 3, window := some w.1,
              address := some b, glyphs := glyphs, alertLatch := latch }
          | none =>
            { zone := some z, place := some p, outcome := 4, window := some w.1,
              address := none, glyphs := glyphs, alertLatch := latch }

/-- The PROBE payload, 17 bytes (R84): the first three windows of the glyph list, top first. -/
def ProbeResult.bytes (r : ProbeResult) : List Byte :=
  optionalIndex 1 r.zone ++ optionalBytes 2 (r.place.map (·.line)) ++
  optionalBytes 2 (r.place.map (·.granule)) ++ optionalBytes 1 (r.place.map (·.beat)) ++
  leBytes 1 r.outcome ++ optionalIndex 1 r.window ++ optionalBytes 5 r.address ++
  optionalIndex 1 r.glyphs[0]? ++ optionalIndex 1 r.glyphs[1]? ++ optionalIndex 1 r.glyphs[2]? ++
  leBytes 1 (yesNo r.alertLatch)

/-- PROBE (R83): an address with any of its upper 4 bits set is refused RANGE; the low 3 bits are
ignored. The report is the acknowledgement. -/
def takeProbe (h : Header) (address : BitVec 40) (s : State) : State :=
  acknowledge 0x13 .compositor h s <|
    if addressFits address.toNat then
      .data (post .compositor h.tag .probe 0 0 (s.probe (address.toNat / 8 * 8)).bytes s)
    else .refuse .range

def execProbe (h : Header) (address : BitVec 40) (s : State) : Outcome State Fault Refusal :=
  .next (whileRunning (takeProbe h address) s)

end Sys2Proof.Machine
end

