-- ==== Sys2Proof/Machine/SponsorUnit.lean ====
section
/-! DEFINITION. The sponsor unit (chapter 9): eligibility and the search, panel latches, moments, accounting
and decisions at a frame close, fulfilment and mentions; deposits into SPONSOR, PANEL and PANEL_LIST; and
the commands PANEL_START, PANEL_STOP, PANEL_HOLD and PANEL_FORCE. -/

namespace Sys2Proof.Machine

open Host (Outcome)

/-! ## Eligibility and the search -/

/-- The class allows the break flag (R167). -/
def EntryClass.allows (c : EntryClass) (breakFlag : Bool) : Bool :=
  match c with
  | .any => true
  | .live => !breakFlag
  | .duringBreak => breakFlag

/-- An entry is eligible on a panel (R167). -/
def SponsorEntry.eligible (e : SponsorEntry) (overrun breakFlag : Bool) : Bool :=
  e.enabled && e.cls.allows breakFlag && (!e.fulfilled || overrun)

def State.panel (s : State) (p : Fin 8) : Panel := s.sponsor.panels.get p

def State.setPanel (s : State) (p : Fin 8) (x : Panel) : State :=
  s.withSponsor { s.sponsor with panels := s.sponsor.panels.set p x }

def State.entry (s : State) (e : Fin 128) : SponsorEntry := s.sponsor.entries.get e

def State.setEntry (s : State) (e : Fin 128) (x : SponsorEntry) : State :=
  s.withSponsor { s.sponsor with entries := s.sponsor.entries.set e x }

/-- Entry `e` is eligible on panel `p` as things stand. -/
def State.eligible (s : State) (p : Fin 8) (e : Fin 128) : Bool :=
  (s.entry e).eligible (s.panel p).overrun s.timing.breakFlag

/-- The entry at position `k` of panel `p`'s list (R166). -/
def State.listed (s : State) (p : Fin 8) (k : Fin 32) : Fin 128 :=
  s.sponsor.lists.get ⟨p.val * 32 + k.val, by omega⟩

/-- The positions a search examines, in order, beginning with `first` (R168). -/
def searchOrder (length first : Nat) : List (Fin 32) :=
  (List.range length).map fun k => ⟨(first + k) % length % 32, Nat.mod_lt _ (by decide)⟩

/-- Where a start search begins: the position itself when it is below the list length, else 0 (R168). -/
def startFrom (p : Panel) : Nat := if p.position.val < p.listLength then p.position.val else 0

/-- Where an advance search begins: position + 1, wrapping, or 0 (R168). -/
def advanceFrom (p : Panel) : Nat :=
  if p.position.val < p.listLength then (p.position.val + 1) % p.listLength else 0

/-- A search from `first` (R168): a new turn at the first eligible position, or the default image. -/
def search (p : Fin 8) (first : Nat) (s : State) : State :=
  let panel := s.panel p
  match (searchOrder panel.listLength first).find? fun k => s.eligible p (s.listed p k) with
  | some k =>
    s.setPanel p
      { panel with position := k, shown := some (s.listed p k), count := 0,
                   showing := panel.showing + 1 }
  | none =>
    s.setPanel p
      { panel with shown := none, count := 0,
                   showing := if panel.shown.isSome then panel.showing + 1 else panel.showing }

/-- An advance search (R168). -/
def advanceSearch (p : Fin 8) (s : State) : State := search p (advanceFrom (s.panel p)) s

/-! ## What each zone shows (R169) -/

/-- The image a panel shows: its shown entry's, or its default image. -/
def State.panelImage (s : State) (p : Panel) : Image :=
  match p.shown with
  | some e => (s.entry e).image
  | none => p.defaultImage

/-- The sponsor unit's reaction to a frame start of zone `z`: every panel is latched. -/
def latchPanels (z : Fin 4) (s : State) : State :=
  let latched := s.sponsor.panels.map fun p =>
    ({ entry := p.shown, image := s.panelImage p, showing := p.showing } : PanelLatch)
  s.withSponsor { s.sponsor with latches := s.sponsor.latches.set z latched }

/-! ## Moments (R173) -/

/-- A moment on panel `p`: the forced entry for a number of exposed frames. A running moment keeps the
saved fields. -/
def startMoment (p : Fin 8) (e : Fin 128) (frames : Nat) (s : State) : State :=
  let panel := s.panel p
  let saved :=
    if panel.state = .moment then panel
    else
      { panel with savedState := panel.state, savedEntry := panel.shown,
                   savedProgress := panel.count }
  s.setPanel p
    { saved with state := .moment, shown := some e, count := frames, showing := panel.showing + 1 }

/-- The request of a mark with action MOMENT, whose panel and entry the deposit has checked (R120). -/
def requestMoment (m : Mark) (s : State) : State :=
  match index? 8 m.panel, index? 128 m.entry with
  | some p, some e => startMoment p e m.frames s
  | _, _ => s

/-- Step 5 of R104: mark `i` fires when it is enabled, has not fired and was crossed (R120); MARK is
posted with its value, action and the game clock value, and its action applies. -/
def fireMark (before : Nat) (i : Fin 4) (s : State) : State :=
  let m := s.timing.marks.get i
  if m.enabled ∧ !m.fired ∧ crosses s.timing.mode before s.timing.value m.value then
    let fired :=
      s.withTiming { s.timing with marks := s.timing.marks.set i { m with fired := true } }
    let posted := post .timing 0 .mark 0 i.val
      (leBytes 4 m.value ++ leBytes 1 m.action.number ++ leBytes 4 s.timing.value) fired
    match m.action with
    | .report => posted
    | .reportHorn => triggerHorn .game posted
    | .moment => requestMoment m posted
  else s

/-- The marks are examined in number order; none fires unless the clock was RUNNING (R120). -/
def fireMarks (wasRunning : Bool) (before : Nat) (s : State) : State :=
  if wasRunning then (List.finRange 4).foldl (fun t i => fireMark before i t) s else s

/-! ## Fulfilment (R177) -/

/-- ENTRY_FULFILLED (R179): EXPOSED value, target, cause and panel. -/
def postFulfilled (tag : BitVec 16) (e : Fin 128) (cause : Nat) (p : Option (Fin 8)) (s : State) :
    State :=
  post .sponsor tag .entryFulfilled 0 e.val
    (bytesOf 4 (s.counters.exposed.get e).value ++ leBytes 4 (s.entry e).target ++
      leBytes 1 cause ++ optionalIndex 1 p) s

/-- The EXPOSED counter of an entry has reached a target above 0 (R177). -/
def State.reached (s : State) (e : Fin 128) (target : Nat) : Bool :=
  0 < target && target ≤ (s.counters.exposed.get e).value.toNat

/-- The flag is latched and reported when the counter has reached the target and the flag is no. -/
def fulfil (e : Fin 128) (cause : Nat) (p : Option (Fin 8)) (s : State) : State :=
  if s.reached e (s.entry e).target ∧ !(s.entry e).fulfilled then
    postFulfilled 0 e cause p (s.setEntry e { s.entry e with fulfilled := true })
  else s

/-- One EXPOSED increment, with what it may fulfil. -/
def expose (e : Fin 128) (cause : Nat) (p : Option (Fin 8)) (s : State) : State :=
  fulfil e cause p (count (.exposed e) s)

/-! ## Accounting at a frame close -/

/-- The marks of the record that name panel `p`. -/
def CloseRecord.ofPanel (r : CloseRecord) (p : Fin 8) : List CloseMark :=
  r.marks.filter fun m => m.kind == .sponsor && m.panel == p

/-- R175: the count moves when the zone showed the panel's present turn. -/
def progress (showing : Count) (p : Fin 8) (s : State) : State :=
  let panel := s.panel p
  if showing = panel.showing then
    match panel.state with
    | .rotating => s.setPanel p { panel with count := min 65535 (panel.count + 1) }
    | .moment => s.setPanel p { panel with count := panel.count - 1 }
    | .held | .stopped => s
  else s

/-- The ROTATING rows of the decision table (R176). -/
def rotateDecision (p : Fin 8) (s : State) : State :=
  let panel := s.panel p
  match panel.shown with
  | none => advanceSearch p s
  | some e =>
    if !s.eligible p e ∨ (s.entry e).dwell ≤ panel.count then advanceSearch p s else s

/-- The end of a moment (R176): the saved fields return, and the showing number advances. -/
def endMoment (p : Fin 8) (s : State) : State :=
  let panel := s.panel p
  s.setPanel p
    { panel with
      state := panel.savedState, shown := panel.savedEntry, count := panel.savedProgress
      savedState := .stopped, savedEntry := none, savedProgress := 0
      showing := panel.showing + 1 }

/-- The one decision of a panel at a close (R176). -/
def decision (p : Fin 8) (s : State) : State :=
  match (s.panel p).state with
  | .stopped | .held => s
  | .rotating => rotateDecision p s
  | .moment =>
    if (s.panel p).count = 0 then
      let t := endMoment p s
      if (t.panel p).state = .rotating then rotateDecision p t else t
    else s

/-- Counting, progress and decision for one panel of the record (R174 to R176). An alert frame raises
OCCLUDED and does nothing else. -/
def settlePanel (z : Fin 4) (r : CloseRecord) (s : State) (p : Fin 8) : State :=
  let marks := r.ofPanel p
  if marks.isEmpty then s
  else if r.alert then count (.occluded p) s
  else if marks.any fun m => m.clear && m.served then
    let latch := (s.sponsor.latches.get z).get p
    let counted := match latch.entry with
      | some e => expose e 0 (some p) s
      | none => s
    decision p (progress latch.showing p counted)
  else decision p (count (.occluded p) s)

/-- The panels named in the record, in panel number order. -/
def settlePanels (z : Fin 4) (r : CloseRecord) (s : State) : State :=
  (List.finRange 8).foldl (settlePanel z r) s

/-- R178: the mentioned entries, in entry number order, each once. -/
def creditMentions (mentioned : List (Fin 128)) (s : State) : State :=
  (List.finRange 128).foldl
    (fun t e => if mentioned.contains e then expose e 1 none t else t) s

/-! ## Deposits -/

/-- A SPONSOR deposit (R163, R164): UNKNOWN before LOCKED (R24); a target that differs re-evaluates the
fulfilled flag. -/
def depositSponsor (i : Fin 128) (o : List Byte) (tag : BitVec 16) (s : State) : Deposit :=
  match readSponsor o with
  | none => .refuse .unknown
  | some d =>
    if s.pins.tableLock then .refuse .locked
    else if !addressFits d.image.base then .refuse .range
    else
      let image := d.image.adjust
      let dwell := max 1 d.dwell
      let held := s.entry i
      let fulfilled :=
        if d.target = held.target then held.fulfilled else s.reached i d.target
      let t := s.setEntry i
        { enabled := d.enabled, image := image, dwell := dwell, target := d.target,
          cls := d.cls, fulfilled := fulfilled }
      .accept (if fulfilled && !held.fulfilled then postFulfilled tag i 2 none t else t)
        (image != d.image || dwell != d.dwell)

/-- A PANEL deposit (R165): six fields; state, position, shown entry and count are kept. -/
def depositPanel (i : Fin 8) (o : List Byte) (s : State) : Deposit :=
  match readPanel o with
  | none => .refuse .unknown
  | some d =>
    if !addressFits d.image.base then .refuse .range
    else
      let image := d.image.adjust
      let length := min 32 d.listLength
      .accept (s.setPanel i
          { s.panel i with defaultImage := image, overrun := d.overrun, listLength := length })
        (image != d.image || length != d.listLength)

/-- A PANEL_LIST deposit (R166): an entry number above 127 is refused RANGE. -/
def depositPanelList (i : Fin 256) (o : List Byte) (s : State) : Deposit :=
  match index? 128 (fieldAt 1 o 0) with
  | none => .refuse .range
  | some e => .accept (s.withSponsor { s.sponsor with lists := s.sponsor.lists.set i e }) false

/-! ## Panel commands -/

/-- A panel command's DONE: the panel status after the effect (section 9.5). -/
def panelReply (p : Fin 8) (clamped : Bool) (s : State) : Reply :=
  .done s clamped (packPanelStatus (s.panel p)) false

/-- The panel to ROTATING with a start search; the showing number advances once (R170). -/
def startPanel (p : Fin 8) (s : State) : State :=
  let panel := s.panel p
  let t := search p (startFrom panel) (s.setPanel p { panel with state := .rotating })
  t.setPanel p { t.panel p with showing := panel.showing + 1 }

/-- PANEL_START (R170). -/
def takePanelStart (h : Header) (panel : Byte) (s : State) : State :=
  acknowledge 0x60 .sponsor h s <|
    match index? 8 panel.toNat with
    | none => .refuse .range
    | some p =>
      if (s.panel p).state = .stopped then panelReply p false (startPanel p s)
      else .refuse .state

def execPanelStart (h : Header) (panel : Byte) (s : State) : Outcome State Fault Refusal :=
  .next (whileRunning (takePanelStart h panel) s)

/-- A panel as PANEL_STOP leaves it (R171). -/
def Panel.halt (p : Panel) : Panel :=
  { p with
    state := .stopped, shown := none, count := 0, savedState := .stopped, savedEntry := none
    savedProgress := 0
    showing := if p.state ≠ .stopped ∨ p.shown.isSome then p.showing + 1 else p.showing }

/-- PANEL_STOP (R171). -/
def takePanelStop (h : Header) (panel : Byte) (s : State) : State :=
  acknowledge 0x61 .sponsor h s <|
    match index? 8 panel.toNat with
    | none => .refuse .range
    | some p => panelReply p false (s.setPanel p (s.panel p).halt)

def execPanelStop (h : Header) (panel : Byte) (s : State) : Outcome State Fault Refusal :=
  .next (whileRunning (takePanelStop h panel) s)

/-- PANEL_HOLD (R172). -/
def takePanelHold (h : Header) (panel : Byte) (s : State) : State :=
  acknowledge 0x62 .sponsor h s <|
    match index? 8 panel.toNat with
    | none => .refuse .range
    | some p =>
      match (s.panel p).state with
      | .rotating => panelReply p false (s.setPanel p { s.panel p with state := .held })
      | .held => panelReply p false (s.setPanel p { s.panel p with state := .rotating })
      | .stopped | .moment => .refuse .state

def execPanelHold (h : Header) (panel : Byte) (s : State) : Outcome State Fault Refusal :=
  .next (whileRunning (takePanelHold h panel) s)

/-- PANEL_FORCE (R173): frames of 0 become 1. -/
def takePanelForce (h : Header) (panel entry : Byte) (frames : BitVec 16) (s : State) : State :=
  acknowledge 0x63 .sponsor h s <|
    match index? 8 panel.toNat, index? 128 entry.toNat with
    | some p, some e =>
      let n := max 1 frames.toNat
      panelReply p (n != frames.toNat) (startMoment p e n s)
    | _, _ => .refuse .range

def execPanelForce (h : Header) (panel entry : Byte) (frames : BitVec 16) (s : State) :
    Outcome State Fault Refusal :=
  .next (whileRunning (takePanelForce h panel entry frames) s)

end Sys2Proof.Machine
end

