-- ==== Sys2Proof/Machine/MessageUnit.lean ====
section
/-! DEFINITION. The message unit (chapter 10): the store and its class queues, the crawl engine, alert
suspension, expiry, mentions and back-pressure, with the commands QUEUE_CONFIG, MSG_OPEN, MSG_TEXT,
MSG_POST and MSG_WITHDRAW. -/

namespace Sys2Proof.Machine

open Host (Outcome)

/-! ## Store and queues -/

/-- The number of places holding a message, in any state (R184). -/
def MessageUnit.occupancy (u : MessageUnit) : Nat := u.store.list.countP Option.isSome

def MessageUnit.queue (u : MessageUnit) : MsgClass → List (Fin 64)
  | .announce => u.announce
  | .featured => u.featured
  | .fan => u.fan

def MessageUnit.setQueue (u : MessageUnit) (c : MsgClass) (q : List (Fin 64)) : MessageUnit :=
  match c with
  | .announce => { u with announce := q }
  | .featured => { u with featured := q }
  | .fan => { u with fan := q }

/-- The message at place `i` changed by `f`, if there is one. -/
def MessageUnit.update (u : MessageUnit) (i : Fin 64) (f : Message → Message) : MessageUnit :=
  { u with store := u.store.modify i (Option.map f) }

/-- The place emptied, and its message gone from its class queue. -/
def MessageUnit.remove (u : MessageUnit) (i : Fin 64) : MessageUnit :=
  { u with
    store := u.store.set i none
    announce := u.announce.filter (· ≠ i)
    featured := u.featured.filter (· ≠ i)
    fan := u.fan.filter (· ≠ i) }

/-- The place whose message has an id (R186). -/
def MessageUnit.find (u : MessageUnit) (id : BitVec 16) : Option (Fin 64 × Message) :=
  (List.finRange 64).findSome? fun i =>
    match u.store.get i with
    | some m => if m.id = id then some (i, m) else none
    | none => none

/-- The lowest-numbered empty place (R186). -/
def MessageUnit.emptyPlace (u : MessageUnit) : Option (Fin 64) :=
  (List.finRange 64).find? fun i => (u.store.get i).isNone

/-- A message joins the tail of its class queue with the next order number (R185). -/
def MessageUnit.join (u : MessageUnit) (i : Fin 64) (m : Message) : MessageUnit :=
  let order := u.orderCounter + 1
  let v := u.setQueue m.cls (u.queue m.cls ++ [i])
  { v with
    store := v.store.set i (some { m with state := .queued, order := order })
    orderCounter := order }

/-- Message width: length × 16 × scale (R183). -/
def MessageUnit.width (u : MessageUnit) (m : Message) : Nat := m.length * 16 * u.config.scale

/-! ## Reports (R198) -/

def postMessageExpired (m : Message) (s : State) : State :=
  post .message 0 .expired 0 m.id.toNat
    (leBytes 1 m.cls.number ++ leBytes 1 m.state.number ++ leBytes 2 m.repeats ++
      optionalIndex 1 m.sponsor) s

def postRetired (m : Message) (s : State) : State :=
  post .message 0 .retired 0 m.id.toNat
    (leBytes 1 m.cls.number ++ bytesOf 4 m.order ++ optionalIndex 1 m.sponsor) s

/-- The removal is NOW 0 or AT_FRAME 1. -/
def postWithdrawn (tag : BitVec 16) (removal : Nat) (m : Message) (s : State) : State :=
  post .message tag .withdrawn 0 m.id.toNat
    (leBytes 1 m.cls.number ++ leBytes 1 m.state.number ++ leBytes 1 removal) s

def postQueueHold (tag : BitVec 16) (seconds : Nat) (s : State) : State :=
  post .message tag .queueHold 0 0
    (leBytes 2 seconds ++ leBytes 2 s.message.occupancy) s

/-! ## Back-pressure (R196, R197) -/

/-- What the hold timer is set to: (hold time − margin) × 1,000 ms (R197). -/
def QueueConfig.holdPeriod (c : QueueConfig) : Nat := (c.holdTime - c.margin) * 1000

/-- The test of the hold state (R196). -/
def testHold (tag : BitVec 16) (s : State) : State :=
  let u := s.message
  match u.hold with
  | none =>
    if u.config.high ≤ u.occupancy then
      postQueueHold tag u.config.holdTime
        (s.withMessage { u with hold := some u.config.holdPeriod })
    else s
  | some _ =>
    if u.occupancy ≤ u.config.low then
      let t := s.withMessage { u with hold := none }
      if u.config.finalNotice then postQueueHold tag 0 t else t
    else s

/-- The hold timer's millisecond (R197). -/
def pulseHoldTimer (s : State) : State :=
  match s.message.hold with
  | none => s
  | some t =>
    if t ≤ 1 then
      postQueueHold 0 s.message.config.holdTime
        (s.withMessage { s.message with hold := some s.message.config.holdPeriod })
    else s.withMessage { s.message with hold := some (t - 1) }

/-! ## Removal -/

/-- A message leaves the store with its one report, and the hold state is tested (R189, R190). -/
def removeWith (tag : BitVec 16) (i : Fin 64) (report : State → State) (s : State) : State :=
  testHold tag (report (s.withMessage (s.message.remove i)))

/-! ## The crawl engine (R190 to R193) -/

/-- If LEAD is empty, the message in FOLLOW becomes LEAD with its d unchanged. -/
def promote (s : State) : State :=
  match s.message.lead, s.message.follow with
  | none, some i =>
    s.withMessage
      { s.message.update i (fun m => { m with state := .lead }) with
        lead := some i, follow := none }
  | _, _ => s

/-- LEAD emptied, or FOLLOW emptied. -/
def clearLead (s : State) : State := s.withMessage { s.message with lead := none }

def clearFollow (s : State) : State := s.withMessage { s.message with follow := none }

/-- Step 1, one place: a message with withdrawing yes is removed with WITHDRAWN, AT_FRAME. -/
def withdrawAt (place : Option (Fin 64)) (vacate : State → State) (s : State) : State :=
  match place with
  | none => s
  | some i =>
    match s.message.store.get i with
    | some m =>
      if m.withdrawing then removeWith 0 i (postWithdrawn 0 1 m) (vacate s) else s
    | none => s

/-- Step 1 of R190: LEAD before FOLLOW, then promotion. -/
def crawlWithdrawals (s : State) : State :=
  let t := withdrawAt s.message.lead clearLead s
  promote (withdrawAt t.message.follow clearFollow t)

/-- R193, one place: an expiring message is removed with EXPIRED. Any other is left for its queue. -/
def suspendExpiring (place : Option (Fin 64)) (s : State) : State :=
  match place with
  | none => s
  | some i =>
    match s.message.store.get i with
    | some m => if m.expiring then removeWith 0 i (postMessageExpired m) s else s
    | none => s

/-- R193, one place: a message kept becomes QUEUED with d 0 at the head of its class queue, its order
number and repeats unchanged. -/
def returnToHead (place : Option (Fin 64)) (s : State) : State :=
  match place with
  | none => s
  | some i =>
    match s.message.store.get i with
    | some m =>
      let u := s.message.setQueue m.cls (i :: s.message.queue m.cls)
      s.withMessage
        { u with store := u.store.set i (some { m with state := .queued, travel := 0 }) }
    | none => s

/-- Step 2 of R190 with the latch yes (R193): the crawl is emptied; the former LEAD stands before the
former FOLLOW. -/
def suspendCrawl (s : State) : State :=
  let lead := s.message.lead
  let follow := s.message.follow
  let t := suspendExpiring follow (suspendExpiring lead (clearLead (clearFollow s)))
  returnToHead lead (returnToHead follow t)

/-- d of the message at a place rises by the speed (R191). -/
def advanceAt (place : Option (Fin 64)) (s : State) : State :=
  match place with
  | none => s
  | some i =>
    s.withMessage
      (s.message.update i fun m => { m with travel := m.travel + s.message.config.speed })

/-- The LEAD message finishes when its d is at least crawl width + w (R191): removed with EXPIRED or
RETIRED, or back in its queue for its next repeat; FOLLOW is promoted. -/
def finishLead (s : State) : State :=
  match s.message.lead with
  | none => s
  | some i =>
    match s.message.store.get i with
    | none => s
    | some m =>
      if s.message.config.width + s.message.width m ≤ m.travel then
        let t := clearLead s
        if m.expiring then promote (removeWith 0 i (postMessageExpired m) t)
        else if m.repeats ≤ 1 then promote (removeWith 0 i (postRetired m) t)
        else
          promote (t.withMessage
            (t.message.join i { m with repeats := m.repeats - 1, travel := 0 }))
      else s

/-- Step 3 of R190: both advance, then LEAD may finish, and a promoted message after it (R191). -/
def crawlAdvance (s : State) : State :=
  finishLead (finishLead (advanceAt s.message.follow (advanceAt s.message.lead s)))

/-- The highest non-empty class (R185). -/
def MessageUnit.highestClass (u : MessageUnit) : Option MsgClass :=
  if u.announce ≠ [] then some .announce
  else if u.featured ≠ [] then some .featured
  else if u.fan ≠ [] then some .fan
  else none

/-- FOLLOW is empty, and LEAD is empty or clear of its entry by the gap (R192). -/
def MessageUnit.canAdmit (u : MessageUnit) : Bool :=
  u.follow.isNone &&
  match u.lead with
  | none => true
  | some i =>
    match u.store.get i with
    | some m => u.width m + u.config.gap ≤ m.travel
    | none => true

/-- Step 4 of R190: the head of the highest non-empty class queue enters with d 0 (R192). -/
def crawlAdmit (s : State) : State :=
  if s.message.canAdmit then
    match s.message.highestClass with
    | none => s
    | some c =>
      match s.message.queue c with
      | [] => s
      | i :: rest =>
        let toLead := s.message.lead.isNone
        let u := (s.message.setQueue c rest).update i fun m =>
          { m with state := if toLead then .lead else .follow, travel := 0 }
        s.withMessage
          (if toLead then { u with lead := some i } else { u with follow := some i })
  else s

/-- What the crawl record keeps of a place (R195). -/
def MessageUnit.crawlItem (u : MessageUnit) (p : Option (Fin 64)) : List CrawlItem :=
  match u.onScreen p with
  | some m => [{ sponsor := m.sponsor, travel := m.travel, width := u.width m }]
  | none => []

/-- Step 5 of R190: the crawl record of the new frame (R195). The renderer takes LEAD and FOLLOW with its
own latch. -/
def takeCrawlRecord (z : Fin 4) (s : State) : State :=
  let u := s.message
  s.withMessage
    { u with
      record := some
        { zone := z, frame := (s.zone z).frameNumber, alert := s.comp.alertLatch.get z
          crawlWidth := u.config.width
          items := u.crawlItem u.lead ++ u.crawlItem u.follow } }

/-- The message unit's reaction to a frame start of zone `z` (R190). -/
def crawlFrameStart (z : Fin 4) (s : State) : State :=
  if s.message.config.paceZone = z then
    let t := crawlWithdrawals s
    takeCrawlRecord z
      (if t.comp.alertLatch.get z then suspendCrawl t else crawlAdmit (crawlAdvance t))
  else s

/-! ## Mentions (R195) -/

/-- The sponsor entries of a crawl record's messages that are on the strip. -/
def CrawlRecord.mentions (r : CrawlRecord) : List (Fin 128) :=
  r.items.filterMap fun i =>
    if 0 < i.travel ∧ i.travel < r.crawlWidth + i.width then i.sponsor else none

/-- The unit holds the crawl record of the frame that is open in zone `z`, whose number is `frame` (R195). -/
def CrawlRecord.isOf (c : CrawlRecord) (z : Fin 4) (frame : Count) : Bool :=
  c.zone == z && c.frame == frame

/-- The mention list of a close of zone `z`: none of them in an alert frame, or without a clear and wholly
served CRAWL window, or for a frame the crawl record does not belong to. -/
def State.mentionList (s : State) (z : Fin 4) (r : CloseRecord) : List (Fin 128) :=
  match s.message.record with
  | none => []
  | some c =>
    if c.isOf z (s.zone z).frameNumber ∧ !r.alert ∧
        r.marks.any (fun m => m.kind == .crawl && m.clear && m.served) then
      c.mentions
    else []

/-- The zone's crawl record is discarded at its close (R195), and one of a frame that was abandoned before
with it (assumption log 35). -/
def discardCrawlRecord (z : Fin 4) (s : State) : State :=
  match s.message.record with
  | none => s
  | some c => if c.zone = z then s.withMessage { s.message with record := none } else s

/-! ## Expiry (R194) -/

/-- (uptime − expiry) mod 2^32 is below 2^31. -/
def reachedExpiry (uptime expiry : Count) : Bool := !(uptime - expiry).msb

/-- Expiry at one place. -/
def expireAt (i : Fin 64) (s : State) : State :=
  match s.message.store.get i with
  | none => s
  | some m =>
    if reachedExpiry s.timing.uptime m.expiry then
      match m.state with
      | .assembling | .queued =>
        postMessageExpired m (s.withMessage (s.message.remove i))
      | .lead | .follow =>
        if m.expiring ∨ m.withdrawing then s
        else s.withMessage (s.message.update i fun m => { m with expiring := true })
    else s

/-- The message unit's part of a millisecond pulse: expiry in store place order, the hold test, then
the hold timer (R194, R197). -/
def pulseMessages (s : State) : State :=
  pulseHoldTimer (testHold 0 ((List.finRange 64).foldl (fun t i => expireAt i t) s))

/-! ## Commands -/

/-- QUEUE_CONFIG (R183): the low mark is clamped against the high mark as clamped, the margin against the
hold time as clamped. -/
def takeQueueConfig (h : Header) (paceZone : Byte)
    (width speed gap scale high low holdTime margin : BitVec 16) (finalNotice : Byte) (s : State) :
    State :=
  acknowledge 0x70 .message h s <|
    match yesNo? finalNotice.toNat with
    | none => .refuse .unknown
    | some notice =>
      match index? 4 paceZone.toNat with
      | none => .refuse .range
      | some z =>
        let highMark := clamp 1 64 high.toNat
        let hold := clamp 2 600 holdTime.toNat
        let config : QueueConfig :=
          { paceZone := z, width := clamp 16 16384 width.toNat, speed := clamp 1 16 speed.toNat,
            gap := min 4095 gap.toNat, scale := clamp 1 8 scale.toNat, high := highMark,
            low := min (highMark - 1) low.toNat, holdTime := hold,
            margin := min (hold - 1) margin.toNat, finalNotice := notice }
        let given : QueueConfig :=
          { paceZone := z, width := width.toNat, speed := speed.toNat, gap := gap.toNat,
            scale := scale.toNat, high := high.toNat, low := low.toNat,
            holdTime := holdTime.toNat, margin := margin.toNat, finalNotice := notice }
        .ack (testHold h.tag (s.withMessage { s.message with config := config })) (config != given)

def execQueueConfig (h : Header) (paceZone : Byte)
    (width speed gap scale high low holdTime margin : BitVec 16) (finalNotice : Byte) (s : State) :
    Outcome State Fault Refusal :=
  .next (whileRunning
    (takeQueueConfig h paceZone width speed gap scale high low holdTime margin finalNotice) s)

/-- A new message in state ASSEMBLING (R186): its expiry is the uptime plus the lifetime. -/
def newMessage (id : BitVec 16) (cls : MsgClass) (length repeats lifetime : Nat)
    (colour : Option (Fin 16)) (sponsor : Option (Fin 128)) (uptime : Count) : Message :=
  { id := id, cls := cls, state := .assembling, length := length, text := Tab.fill 160 0,
    repeats := repeats, lifetime := lifetime,
    expiry := uptime + BitVec.ofNat 32 (lifetime * 1000), colour := colour, sponsor := sponsor,
    order := 0, travel := 0, expiring := false, withdrawing := false }

/-- MSG_OPEN (R186). The DONE payload is the store place. -/
def takeMsgOpen (h : Header) (id : BitVec 16) (cls : Byte) (length repeats lifetime : BitVec 16)
    (colour sponsor : Byte) (s : State) : State :=
  acknowledge 0x71 .message h s <|
    match msgClass? cls.toNat with
    | none => .refuse .unknown
    | some c =>
      if (16 ≤ colour.toNat ∧ colour.toNat ≤ 254) ∨ (128 ≤ sponsor.toNat ∧ sponsor.toNat ≤ 254) then
        .refuse .range
      else if (s.message.find id).isSome then .refuse .duplicate
      else
        match s.message.emptyPlace with
        | none => .refuse .full
        | some i =>
          let l := clamp 1 160 length.toNat
          let r := clamp 1 15 repeats.toNat
          let t := clamp 1 3600 lifetime.toNat
          let m := newMessage id c l r t (index? 16 colour.toNat) (index? 128 sponsor.toNat)
            s.timing.uptime
          .done
            (testHold h.tag
              (s.withMessage { s.message with store := s.message.store.set i (some m) }))
            (l != length.toNat || r != repeats.toNat || t != lifetime.toNat) (leBytes 1 i.val) false

def execMsgOpen (h : Header) (id : BitVec 16) (cls : Byte) (length repeats lifetime : BitVec 16)
    (colour sponsor : Byte) (s : State) : Outcome State Fault Refusal :=
  .next (whileRunning (takeMsgOpen h id cls length repeats lifetime colour sponsor) s)

/-- MSG_TEXT (R187): the codes are as many of the operand bytes as the count gives; one above 127 is
refused RANGE before the unit's own checks (R44; assumption log 19). -/
def takeMsgText (h : Header) (id offset : BitVec 16) (count : Byte) (codes : List Byte) (s : State) :
    State :=
  acknowledge 0x72 .message h s <|
    match readCodes (codes.take count.toNat) with
    | none => .refuse .range
    | some text =>
      match s.message.find id with
      | none => .refuse .absent
      | some (i, m) =>
        if m.state ≠ .assembling then .refuse .state
        else if count.toNat = 0 ∨ 20 < count.toNat ∨ m.length < offset.toNat + count.toNat then
          .refuse .range
        else
          .ok (s.withMessage
            (s.message.update i fun m => { m with text := writeCodes m.text offset.toNat text }))

def execMsgText (h : Header) (id offset : BitVec 16) (count : Byte) (codes : List Byte)
    (s : State) : Outcome State Fault Refusal :=
  if (Instr.msgText h id offset count codes).wellFormed then
    .next (whileRunning (takeMsgText h id offset count codes) s)
  else .fault .illFormed

/-- MSG_POST (R188). The DONE payload is the order number. -/
def takeMsgPost (h : Header) (id : BitVec 16) (s : State) : State :=
  acknowledge 0x73 .message h s <|
    match s.message.find id with
    | none => .refuse .absent
    | some (i, m) =>
      if m.state ≠ .assembling then .refuse .state
      else
        let u := s.message.join i m
        .done (s.withMessage u) false (bytesOf 4 u.orderCounter) false

def execMsgPost (h : Header) (id : BitVec 16) (s : State) : Outcome State Fault Refusal :=
  .next (whileRunning (takeMsgPost h id) s)

/-- MSG_WITHDRAW (R189). The DONE payload is the removal, NOW 0 or AT_FRAME 1. -/
def takeMsgWithdraw (h : Header) (id : BitVec 16) (s : State) : State :=
  acknowledge 0x74 .message h s <|
    match s.message.find id with
    | none => .refuse .absent
    | some (i, m) =>
      match m.state with
      | .assembling | .queued =>
        .done (removeWith h.tag i (postWithdrawn h.tag 0 m) s) false (leBytes 1 0) false
      | .lead | .follow =>
        if m.withdrawing then .refuse .state
        else
          .done (s.withMessage (s.message.update i fun m => { m with withdrawing := true })) false
            (leBytes 1 1) false

def execMsgWithdraw (h : Header) (id : BitVec 16) (s : State) : Outcome State Fault Refusal :=
  .next (whileRunning (takeMsgWithdraw h id) s)

end Sys2Proof.Machine
end

