-- ==== Sys2Proof/Machine/Capture.lean ====
section
/-! DEFINITION. Replay capture (chapter 7): holds and their law, the capture chain, opening and closing a
slot, clip joins, what a live write and an accepted copy do, RECORD deposits, the event
RECORD_FRAME_PULSE and the commands RECORD_ARM, RECORD_STOP, CLIP_IN, CLIP_OUT and CLIP_FREE. -/

namespace Sys2Proof.Machine

open Host (Outcome)

/-! ## Slots and holds -/

def State.slot (s : State) (k : Fin 1024) : Slot := s.capture.slots.get k

/-- Slot `k` changed by `f`. -/
def Capture.modifySlot (c : Capture) (k : Fin 1024) (f : Slot → Slot) : Capture :=
  { c with slots := c.slots.modify k f }

/-- A slot is held when a clip or the player holds it (R137). -/
def Slot.held (t : Slot) : Bool := t.clipHolds != 0 || t.playerHold

/-- A slot is closed in SETTLING, COMPLETE and PARTIAL (R132). -/
def Slot.closed (t : Slot) : Bool :=
  t.state == .settling || t.state == .complete || t.state == .partialState

/-- The number of distinct held slots (R138). -/
def Capture.heldCount (c : Capture) : Nat := c.slots.list.countP Slot.held

/-- The most slots that may be held: slot count − 1 (R138). -/
def Capture.holdLimit (c : Capture) : Nat := c.source.slotCount - 1

/-- The slot being written: the newest of the chain while RECORDING (R132). -/
def Capture.writing (c : Capture) : Option (Fin 1024) :=
  if c.recorder = .recording then c.newest else none

/-- The newest closed slot: the chain's newest, or the one before the WRITING slot (R132, R150). -/
def Capture.newestClosed (c : Capture) : Option (Fin 1024) :=
  match c.writing with
  | some k => (c.slots.get k).previous
  | none => c.newest

/-- Up to `n` slots from `k` on, by next links (R139, R146). -/
def Capture.run (c : Capture) : Nat → Option (Fin 1024) → List (Fin 1024)
  | 0, _ => []
  | _, none => []
  | n + 1, some k => k :: c.run n (c.slots.get k).next

/-- Player hold becomes no on every slot (R137). -/
def Capture.releasePlayer (c : Capture) : Capture :=
  { c with slots := c.slots.map fun t => { t with playerHold := false } }

/-- A player's request to replace its holds (R137): refused RANGE for a slot that is not closed, FULL
beyond the hold limit (R148). -/
def Capture.replacePlayer (c : Capture) (named : List (Fin 1024)) : Except RefusalCode Capture :=
  if named.all fun k => (c.slots.get k).closed then
    let granted := named.foldl (fun d k => d.modifySlot k fun t => { t with playerHold := true })
      c.releasePlayer
    if granted.heldCount ≤ c.holdLimit then .ok granted else .error .full
  else .error .range

/-! ## Closing a slot (R135) -/

/-- The state a slot settles in. A closed slot always has a verdict. -/
def Verdict.settled : Verdict → SlotState
  | .complete => .complete
  | .partialVerdict | .none => .partialState

/-- Why a slot is closed (R143). -/
inductive CloseCause where
  | pulse
  | stop
  | softReset
deriving DecidableEq, Repr

def CloseCause.number : CloseCause → Nat
  | .pulse => 0
  | .stop => 1
  | .softReset => 2

/-- The verdict at a close (R135). -/
def Slot.judge (t : Slot) (sourceLines : Nat) (cause : CloseCause) : Verdict :=
  if cause ≠ .softReset ∧ t.lines.length = sourceLines ∧ !t.dropped then .complete
  else .partialVerdict

/-- The slot as a close leaves it: its verdict at once, or SETTLING while copies are outstanding. -/
def Slot.close (t : Slot) (sourceLines : Nat) (cause : CloseCause) : Slot :=
  let verdict := t.judge sourceLines cause
  { t with verdict := verdict, state := if t.outstanding = 0 then verdict.settled else .settling }

/-- SLOT_PARTIAL (R143). -/
def postSlotPartial (tag : BitVec 16) (k : Fin 1024) (t : Slot) (cause : CloseCause) (s : State) :
    State :=
  post .capture tag .slotPartial 0 k.val
    (bytesOf 4 t.captureNumber ++ leBytes 2 t.lines.length ++ leBytes 1 (yesNo t.dropped) ++
      leBytes 1 cause.number) s

/-- Slot `k` is closed, with SLOT_PARTIAL when its verdict is PARTIAL. -/
def closeSlot (tag : BitVec 16) (cause : CloseCause) (k : Fin 1024) (s : State) : State :=
  let closed := (s.slot k).close s.capture.source.lines cause
  let t := s.withCapture (s.capture.modifySlot k fun _ => closed)
  if closed.verdict = .complete then t else postSlotPartial tag k closed cause t

/-! ## Clips (R139, R141) -/

def Clip.joinable (c : Clip) : Bool := c.state == .opened || c.state == .closing

/-- The one clip that is OPEN or CLOSING (R139). -/
def Capture.joinableClip (c : Capture) : Option (Fin 32) :=
  (List.finRange 32).find? fun i => (c.clips.get i).joinable

/-- Holding slot `k` keeps the law of holds (R138). -/
def Capture.mayHold (c : Capture) (k : Fin 1024) : Bool :=
  (c.slots.get k).held || c.heldCount + 1 ≤ c.holdLimit

/-- The clip with the closed slot `k`, whose captured clock is `clock` (R141). -/
def Clip.take (c : Clip) (k : Fin 1024) (clock : Nat) : Clip :=
  { c with
    state := if c.state = .closing then .closed else c.state
    length := c.length + 1
    first := if c.first.isSome then c.first else some k
    clock := if c.first.isSome then c.clock else clock }

/-- CLIP_LIMIT (R143): slot refused, clip length, held slots. -/
def postClipLimit (tag : BitVec 16) (i : Fin 32) (k : Fin 1024) (s : State) : State :=
  post .capture tag .clipLimit 0 i.val
    (leBytes 2 k.val ++ leBytes 2 (s.capture.clips.get i).length ++
      leBytes 2 s.capture.heldCount) s

/-- The close of slot `k` is offered to an OPEN or CLOSING clip (R141). -/
def joinClip (tag : BitVec 16) (k : Fin 1024) (s : State) : State :=
  match s.capture.joinableClip with
  | none => s
  | some i =>
    let clip := s.capture.clips.get i
    if s.capture.mayHold k then
      let c := s.capture.modifySlot k fun t => { t with clipHolds := 1 }
      s.withCapture { c with clips := c.clips.set i (clip.take k (s.slot k).clock) }
    else
      postClipLimit tag i k
        (s.withCapture
          { s.capture with clips := s.capture.clips.set i { clip with state := .closed } })

/-- An OPEN or CLOSING clip is CLOSED, whatever it took (R131, R145). -/
def closeClip (s : State) : State :=
  match s.capture.joinableClip with
  | none => s
  | some i =>
    s.withCapture
      { s.capture with
        clips := s.capture.clips.modify i fun c => { c with state := .closed } }

/-! ## Opening a slot (R133) -/

/-- The walk of the ring: from the slot after the last one opened, or from slot 0, once around. -/
def Capture.walkOrder (c : Capture) : List (Fin 1024) :=
  let n := c.source.slotCount
  let start := match c.lastOpened with
    | some k => k.val + 1
    | none => 0
  (List.range n).map fun j => ⟨(start + j) % n % 1024, Nat.mod_lt _ (by decide)⟩

/-- The first unheld slot of the walk. -/
def Capture.candidate (c : Capture) : Option (Fin 1024) :=
  c.walkOrder.find? fun k => !(c.slots.get k).held

/-- Step 1: a slot of the chain is unlinked. -/
def Capture.unlink (c : Capture) (k : Fin 1024) : Capture :=
  let t := c.slots.get k
  if t.state = .empty then c
  else
    let before := match t.previous with
      | some p => c.modifySlot p fun u => { u with next := t.next }
      | none => { c with oldest := t.next }
    match t.next with
    | some n => before.modifySlot n fun u => { u with previous := t.previous }
    | none => { before with newest := t.previous }

/-- Steps 2 to 4: slot `k` appended at the newest end as the writing slot, with the next capture number
and the game clock value. The outstanding count and the holds stay. -/
def Capture.append (c : Capture) (k : Fin 1024) (clock : Nat) : Capture :=
  let linked := match c.newest with
    | some m => c.modifySlot m fun u => { u with next := some k }
    | none => { c with oldest := some k }
  let number := c.captureNumber + 1
  let opened := linked.modifySlot k fun t =>
    { t with state := .writing, captureNumber := number, previous := c.newest, next := none,
             clock := clock, verdict := .none, lines := [], dropped := false }
  { opened with newest := some k, captureNumber := number, lastOpened := some k }

/-- A slot is opened. The law of holds leaves a candidate; in a state that breaks it nothing is opened
(assumption log 22). -/
def openSlot (s : State) : State :=
  match s.capture.candidate with
  | none => s
  | some k => s.withCapture ((s.capture.unlink k).append k s.timing.value)

/-! ## The record frame pulse (R130) -/

/-- The close of the writing slot and the clip's part in it. -/
def closeAndJoin (tag : BitVec 16) (cause : CloseCause) (s : State) : State :=
  match s.capture.writing with
  | none => s
  | some k => joinClip tag k (closeSlot tag cause k s)

/-- A record frame pulse, by recorder state. -/
def recordPulse (s : State) : State :=
  match s.capture.recorder with
  | .off => s
  | .armed => openSlot (s.withCapture { s.capture with recorder := .recording })
  | .recording => openSlot (closeAndJoin 0 .pulse s)

/-- An edge of RFP counts in the direction of the RFP sense. -/
def recordEdge (edge : Edge) (s : State) : State :=
  if edge = s.capture.source.sense then recordPulse s else s

/-- RECORD_FRAME_PULSE: an edge of RFP (R130). -/
def execRecordFramePulse (edge : Edge) (s : State) : Outcome State Fault Refusal :=
  .next (whileRunning (recordEdge edge) (s.withPins { s.pins with rfp := levelAfter edge }))

/-! ## Live writes and copies (R134, R14, R136) -/

/-- The line of the record source a live write at `a` falls in (R134). -/
def Capture.lineOf (c : Capture) (a : Nat) : Nat := (a - c.source.base) / c.source.pitch

/-- The address of the copy of a live write at `a` in slot `k` (R134). -/
def Capture.copyAddress (c : Capture) (k : Fin 1024) (a : Nat) : Nat :=
  c.source.ringBase + k.val * c.source.stride + (a - c.source.base)

/-- The line of a live write joins the writing slot's coverage (R134). -/
def coverLine (k : Fin 1024) (a : Nat) (s : State) : State :=
  s.withCapture (s.capture.modifySlot k fun t =>
    { t with lines := addLine (s.capture.lineOf a) t.lines })

/-- The bus path queued a copy for slot `k` (R14, R134). -/
def raiseOutstanding (k : Fin 1024) (s : State) : State :=
  s.withCapture (s.capture.modifySlot k fun t => { t with outstanding := t.outstanding + 1 })

/-- A copy for slot `k` was discarded (R15, R134). -/
def markDropped (k : Fin 1024) (s : State) : State :=
  s.withCapture (s.capture.modifySlot k fun t => { t with dropped := true })

/-- The slot after memory accepted one of its copies (R14, R136). -/
def Slot.settle (t : Slot) : Slot :=
  let left := t.outstanding - 1
  { t with outstanding := left
           state := if t.state = .settling ∧ left = 0 then t.verdict.settled else t.state }

def settleSlot (k : Fin 1024) (s : State) : State :=
  s.withCapture (s.capture.modifySlot k Slot.settle)

/-! ## RECORD deposits (R128) -/

/-- The six ring and geometry fields agree. -/
def RecordSource.sameRing (a b : RecordSource) : Bool :=
  a.ringBase == b.ringBase && a.slotCount == b.slotCount && a.stride == b.stride &&
  a.pitch == b.pitch && a.lines == b.lines && a.width == b.width

/-- A slot that keeps the ring from being changed: held, or with copies outstanding. -/
def Slot.pins (t : Slot) : Bool := t.held || t.outstanding != 0

/-- The slot table, the chain and the clips emptied; the capture number and the recorder stay. -/
def Capture.emptied (c : Capture) : Capture :=
  { c with slots := Tab.fill 1024 Slot.initial, clips := Tab.fill 32 Clip.initial, oldest := none,
           newest := none, lastOpened := none }

def depositRecord (o : List Byte) (s : State) : Deposit :=
  match readRecord o with
  | none => .refuse .unknown
  | some d =>
    let e := d.adjust
    let c := s.capture
    if !(addressFits d.base && addressFits d.ringBase) then .refuse .range
    else if c.recorder ≠ .off then .refuse .state
    else if !e.sameRing c.source && c.slots.list.any Slot.pins then .refuse .state
    else
      let kept := if e.sameRing c.source then c else c.emptied
      .accept (s.withCapture { kept with source := e }) (e != d)

/-! ## Recorder commands -/

/-- What RECORD_ARM asks of the record source (R129, conditions 2 to 5). -/
def RecordSource.armable (r : RecordSource) : Bool :=
  r.slotCount != 0 && r.lines != 0 && r.width != 0 &&
  r.base + r.lines * r.pitch ≤ Config.addressSpace && r.lines * r.pitch ≤ r.stride &&
  r.ringBase + r.slotCount * r.stride ≤ Config.addressSpace

/-- RECORD_ARM (R129). -/
def takeRecordArm (h : Header) (s : State) : State :=
  acknowledge 0x40 .capture h s <|
    if s.capture.recorder ≠ .off then .refuse .state
    else if s.capture.source.armable then
      .ok (s.withCapture { s.capture with recorder := .armed })
    else .refuse .range

def execRecordArm (h : Header) (s : State) : Outcome State Fault Refusal :=
  .next (whileRunning (takeRecordArm h) s)

/-- The recorder stops as RECORD_STOP and SOFT_RESET do: close, join, clip CLOSED, OFF (R131, R145). -/
def stopRecorder (tag : BitVec 16) (cause : CloseCause) (s : State) : State :=
  let t := closeAndJoin tag cause s
  let u := if s.capture.recorder = .recording then closeClip t else t
  u.withCapture { u.capture with recorder := .off }

/-- RECORD_STOP (R131). The DONE payload is the number of the slot closed. -/
def takeRecordStop (h : Header) (s : State) : State :=
  acknowledge 0x41 .capture h s <|
    if s.capture.recorder = .off then .refuse .state
    else .done (stopRecorder h.tag .stop s) false (optionalIndex 2 s.capture.writing) false

def execRecordStop (h : Header) (s : State) : Outcome State Fault Refusal :=
  .next (whileRunning (takeRecordStop h) s)

/-! ## Clip commands -/

/-- The pre-roll walk (R140): up to `n` slots back from a slot, newest first, as long as the law of holds
leaves room for `budget` slots not held yet. -/
def Capture.preRoll (c : Capture) : Nat → Nat → Option (Fin 1024) → List (Fin 1024)
  | 0, _, _ => []
  | _, _, none => []
  | n + 1, budget, some k =>
    let t := c.slots.get k
    if t.held then k :: c.preRoll n budget t.previous
    else if budget = 0 then []
    else k :: c.preRoll n (budget - 1) t.previous

/-- One more clip hold on each slot of a list. -/
def Capture.holdAll (c : Capture) (l : List (Fin 1024)) : Capture :=
  l.foldl (fun d k => d.modifySlot k fun t => { t with clipHolds := t.clipHolds + 1 }) c

/-- One clip hold less on each slot of a list. -/
def Capture.releaseAll (c : Capture) (l : List (Fin 1024)) : Capture :=
  l.foldl (fun d k => d.modifySlot k fun t => { t with clipHolds := t.clipHolds - 1 }) c

/-- The lowest-numbered FREE clip. -/
def Capture.freeClip (c : Capture) : Option (Fin 32) :=
  (List.finRange 32).find? fun i => (c.clips.get i).state == .free

/-- The slots a CLIP_IN with this pre-roll holds, newest first. -/
def Capture.preRollSlots (c : Capture) (preRoll : Nat) : List (Fin 1024) :=
  c.preRoll (min 255 preRoll) (c.holdLimit - c.heldCount) c.newestClosed

/-- CLIP_IN (R140). The DONE payload is the clip number and the length held. -/
def takeClipIn (h : Header) (clipTag preRoll : BitVec 16) (s : State) : State :=
  acknowledge 0x42 .capture h s <|
    let c := s.capture
    if c.joinableClip.isSome then .refuse .state
    else if c.recorder ≠ .recording then .refuse .state
    else
      match c.freeClip with
      | none => .refuse .full
      | some i =>
        let slots := c.preRollSlots preRoll.toNat
        let first := slots.getLast?
        let clip : Clip :=
          { state := .opened, tag := clipTag, first := first, length := slots.length,
            clock := match first with
              | some k => (c.slots.get k).clock
              | none => 0 }
        let held := c.holdAll slots
        .done (s.withCapture { held with clips := held.clips.set i clip })
          (slots.length != preRoll.toNat) (leBytes 1 i.val ++ leBytes 2 slots.length) false

def execClipIn (h : Header) (clipTag preRoll : BitVec 16) (s : State) :
    Outcome State Fault Refusal :=
  .next (whileRunning (takeClipIn h clipTag preRoll) s)

/-- CLIP_OUT (R142). The DONE payload is the clip number. -/
def takeClipOut (h : Header) (s : State) : State :=
  acknowledge 0x43 .capture h s <|
    match (List.finRange 32).find? fun i => (s.capture.clips.get i).state == .opened with
    | none => .refuse .state
    | some i =>
      .done
        (s.withCapture
          { s.capture with
            clips := s.capture.clips.modify i fun c => { c with state := .closing } })
        false (leBytes 1 i.val) false

def execClipOut (h : Header) (s : State) : Outcome State Fault Refusal :=
  .next (whileRunning (takeClipOut h) s)

/-- CLIP_FREE (R142). -/
def takeClipFree (h : Header) (clip : Byte) (s : State) : State :=
  acknowledge 0x44 .capture h s <|
    match index? 32 clip.toNat with
    | none => .refuse .range
    | some i =>
      let held := s.capture.clips.get i
      if held.state = .free then .refuse .absent
      else
        let c := s.capture.releaseAll (s.capture.run held.length held.first)
        .ok (s.withCapture { c with clips := c.clips.set i Clip.initial })

def execClipFree (h : Header) (clip : Byte) (s : State) : Outcome State Fault Refusal :=
  .next (whileRunning (takeClipFree h clip) s)

end Sys2Proof.Machine
end

