-- ==== Sys2Proof/Machine/PlayerUnit.lean ====
section
/-! DEFINITION. The replay player (chapter 8): its reaction to a frame start, the latched slot of a zone, and
the commands PLAYER_CONFIG, CUE_CLIP, CUE_RANGE, CUE_CLOCK, PLAY, PAUSE, STEP, RATE and STOP. -/

namespace Sys2Proof.Machine

open Host (Outcome)

/-! ## The source -/

/-- The slot `i` steps along next links (R146). -/
def Capture.follow (c : Capture) : Nat → Option (Fin 1024) → Option (Fin 1024)
  | _, none => none
  | 0, some k => some k
  | n + 1, some k => c.follow n (c.slots.get k).next

/-- source[i]. -/
def State.sourceSlot (s : State) (i : Nat) : Option (Fin 1024) :=
  s.capture.follow i s.player.first

/-! ## Pacing (R157, R158, R160) -/

/-- Steps 2 and 3 of R158 for index `i`: partial skip keeps a selection over a PARTIAL verdict. The shown
position becomes the position used. -/
def select (i : Nat) (s : State) : State :=
  let p := s.player
  let chosen := s.sourceSlot i
  let partialSlot := match chosen with
    | some k => (s.slot k).verdict == .partialVerdict
    | none => false
  let selection :=
    if p.partialSkip && partialSlot && p.selection.isSome then p.selection else chosen
  s.withPlayer { p with selection := selection, shownPosition := p.position }

/-- The end test of R158, made in PLAYING, then the selection. -/
def endOrSelect (latch : Bool) (s : State) : State :=
  let p := s.player
  if p.position / 16 < p.length then select (p.position / 16) s
  else if p.endMode = .hold ∨ (p.policy = .finish ∧ latch) then
    select (p.length - 1) (s.withPlayer { p with state := .ended })
  else
    let position := p.position % (16 * p.length)
    select (position / 16) (s.withPlayer { p with position := position })

/-- The player as a pause leaves it: p goes back to the shown position (R153, R160). -/
def Player.pauseFor (p : Player) (cause : PauseCause) : Player :=
  { p with state := .paused, cause := cause, position := p.shownPosition }

/-- PAUSED_BY_ALERT with the status after the pause (R160). -/
def pauseByAlert (s : State) : State :=
  let t := s.withPlayer (s.player.pauseFor .alert)
  post .player 0 .pausedByAlert 0 0 (packPlayer t.player) t

/-- Step 1 of R157: the alert policy acts on a PLAYING player. -/
def applyAlertPolicy (latch : Bool) (s : State) : State :=
  if latch ∧ s.player.state = .playing ∧ s.player.policy = .pause then pauseByAlert s else s

/-- Step 2 of R157, by state. -/
def paceSelection (latch : Bool) (s : State) : State :=
  match s.player.state with
  | .idle | .ended => s
  | .cued => select (s.player.position / 16) s
  | .playing => endOrSelect latch s
  | .paused =>
    if s.player.stepPending then
      let t := select (s.player.position / 16) s
      t.withPlayer { t.player with stepPending := false }
    else s

/-- Step 3 of R157. -/
def paceAdvance (s : State) : State :=
  if s.player.state = .playing then
    s.withPlayer { s.player with position := s.player.position + s.player.rate }
  else s

/-- The zone's latched slot takes the selection (R159). -/
def latchSlot (z : Fin 4) (s : State) : State :=
  s.withPlayer { s.player with latched := s.player.latched.set z s.player.selection }

/-- The player's reaction to a frame start of zone `z`: the pace zone drives it, every zone latches. -/
def playerFrameStart (z : Fin 4) (s : State) : State :=
  latchSlot z <|
    if s.player.paceZone = z then
      let latch := s.comp.alertLatch.get z
      paceAdvance (paceSelection latch (applyAlertPolicy latch s))
    else s

/-! ## Cues (R148 to R151) -/

/-- The DONE of a player command: the status after the effect (R146). -/
def playerReply (clamped : Bool) (s : State) : Reply :=
  .done s clamped (packPlayer s.player) false

/-- The player as an accepted cue leaves it (R148). -/
def Player.cued (p : Player) (first : Fin 1024) (length : Nat) : Player :=
  { p with first := some first, length := length, position := 0, shownPosition := 0,
           stepPending := false, cause := .none, selection := some first, state := .cued }

/-- The request to replace the holds, and what a grant does (R148). -/
def cue (first : Fin 1024) (length : Nat) (s : State) : Except RefusalCode State :=
  match s.capture.replacePlayer (s.capture.run length (some first)) with
  | .error code => .error code
  | .ok c => .ok ((s.withCapture c).withPlayer (s.player.cued first length))

/-- The number of closed slots from `k` to the newest closed slot (R150). -/
def Capture.closedFrom (c : Capture) (k : Fin 1024) : Nat :=
  (c.run 1024 (some k)).countP fun j => (c.slots.get j).closed

/-- The length of a range as adjusted (R150). -/
def Capture.rangeLength (c : Capture) (k : Fin 1024) (length : Nat) : Nat :=
  min (c.closedFrom k) (max 1 length)

/-- PLAYER_CONFIG (R147): the DONE payload is the status and the alert policy as given. -/
def takePlayerConfig (h : Header) (paceZone endMode partialSkip alertPolicy : Byte) (s : State) :
    State :=
  acknowledge 0x50 .player h s <|
    match endMode? endMode.toNat, yesNo? partialSkip.toNat, alertPolicy? alertPolicy.toNat with
    | some mode, some skip, some policy =>
      match index? 4 paceZone.toNat with
      | none => .refuse .range
      | some z =>
        let p := { s.player with
          paceZone := z, endMode := mode, partialSkip := skip, policy := policy }
        .done (s.withPlayer p) false (packPlayer p ++ leBytes 1 policy.number) false
    | _, _, _ => .refuse .unknown

def execPlayerConfig (h : Header) (paceZone endMode partialSkip alertPolicy : Byte) (s : State) :
    Outcome State Fault Refusal :=
  .next (whileRunning (takePlayerConfig h paceZone endMode partialSkip alertPolicy) s)

/-- CUE_CLIP (R149). -/
def takeCueClip (h : Header) (clip : Byte) (s : State) : State :=
  acknowledge 0x51 .player h s <|
    match index? 32 clip.toNat with
    | none => .refuse .range
    | some i =>
      let c := s.capture.clips.get i
      if c.state ≠ .closed then .refuse .absent
      else
        match c.first with
        | none => .refuse .range
        | some k =>
          if c.length = 0 then .refuse .range
          else
            match cue k c.length s with
            | .error code => .refuse code
            | .ok t => playerReply false t

def execCueClip (h : Header) (clip : Byte) (s : State) : Outcome State Fault Refusal :=
  .next (whileRunning (takeCueClip h clip) s)

/-- CUE_RANGE (R150). -/
def takeCueRange (h : Header) (first length : BitVec 16) (s : State) : State :=
  acknowledge 0x52 .player h s <|
    match index? 1024 first.toNat with
    | none => .refuse .range
    | some k =>
      if (s.slot k).closed then
        let n := s.capture.rangeLength k length.toNat
        match cue k n s with
        | .error code => .refuse code
        | .ok t => playerReply (n != length.toNat) t
      else .refuse .range

def execCueRange (h : Header) (first length : BitVec 16) (s : State) :
    Outcome State Fault Refusal :=
  .next (whileRunning (takeCueRange h first length) s)

/-- Up to `n` slots from `k` back, by previous links. -/
def Capture.back (c : Capture) : Nat → Option (Fin 1024) → List (Fin 1024)
  | 0, _ => []
  | _, none => []
  | n + 1, some k => k :: c.back n (c.slots.get k).previous

/-- The slots CUE_CLOCK searches, newest first: closed, with verdict COMPLETE (R151). -/
def Capture.completeSlots (c : Capture) : List (Fin 1024) :=
  (c.back 1024 c.newestClosed).filter fun k =>
    (c.slots.get k).closed && (c.slots.get k).verdict == .complete

/-- How far two clock values lie apart. -/
def clockDistance (a b : Nat) : Nat := (a - b) + (b - a)

/-- The first of the nearest slots of a list, which is the newest of them. -/
def Capture.nearest (c : Capture) (value : Nat) : List (Fin 1024) → Option (Fin 1024)
  | [] => none
  | k :: rest =>
    match c.nearest value rest with
    | none => some k
    | some j =>
      if clockDistance (c.slots.get j).clock value < clockDistance (c.slots.get k).clock value then
        some j
      else some k

/-- The slot CUE_CLOCK finds: the newest of the value's tenth of a second, else the nearest (R151). -/
def Capture.findClock (c : Capture) (value : Nat) : Option (Fin 1024) :=
  match c.completeSlots.find? fun k => (c.slots.get k).clock / 100 == value / 100 with
  | some k => some k
  | none => c.nearest value c.completeSlots

/-- CUE_CLOCK (R151). The DONE payload is the status and the captured clock of the slot found. -/
def takeCueClock (h : Header) (value : BitVec 32) (length : BitVec 16) (s : State) : State :=
  acknowledge 0x53 .player h s <|
    let v := min Config.gameClockTop value.toNat
    match s.capture.findClock v with
    | none => .refuse .absent
    | some k =>
      let n := s.capture.rangeLength k length.toNat
      match cue k n s with
      | .error code => .refuse code
      | .ok t =>
        .done t (v != value.toNat || n != length.toNat)
          (packPlayer t.player ++ leBytes 4 (s.slot k).clock) false

def execCueClock (h : Header) (value : BitVec 32) (length : BitVec 16) (s : State) :
    Outcome State Fault Refusal :=
  .next (whileRunning (takeCueClock h value length) s)

/-! ## Transport (R152 to R156) -/

/-- PLAY (R152). From ENDED the replay starts again from source[0]. A step still pending is pending no more,
so that a PLAYING player has none (R160; assumption log 17). -/
def takePlay (h : Header) (s : State) : State :=
  acknowledge 0x54 .player h s <|
    let p := { s.player with state := .playing, cause := .none, stepPending := false }
    match s.player.state with
    | .cued | .paused => playerReply false (s.withPlayer p)
    | .ended => playerReply false (s.withPlayer { p with position := 0, shownPosition := 0 })
    | .idle | .playing => .refuse .state

def execPlay (h : Header) (s : State) : Outcome State Fault Refusal :=
  .next (whileRunning (takePlay h) s)

/-- PAUSE (R153). -/
def takePause (h : Header) (s : State) : State :=
  acknowledge 0x55 .player h s <|
    if s.player.state = .playing then
      playerReply false (s.withPlayer (s.player.pauseFor .command))
    else .refuse .state

def execPause (h : Header) (s : State) : Outcome State Fault Refusal :=
  .next (whileRunning (takePause h) s)

/-- Where a STEP takes p (R154). -/
def Player.stepPosition (p : Player) : Nat := min ((p.position / 16 + 1) * 16) (16 * (p.length - 1))

/-- STEP (R154). -/
def takeStep (h : Header) (s : State) : State :=
  acknowledge 0x56 .player h s <|
    if s.player.state = .paused then
      playerReply false
        (s.withPlayer { s.player with position := s.player.stepPosition, stepPending := true })
    else .refuse .state

def execStep (h : Header) (s : State) : Outcome State Fault Refusal :=
  .next (whileRunning (takeStep h) s)

/-- RATE (R155). -/
def takeRate (h : Header) (newRate : BitVec 16) (s : State) : State :=
  acknowledge 0x57 .player h s <|
    let r := clamp 1 32 newRate.toNat
    playerReply (r != newRate.toNat) (s.withPlayer { s.player with rate := r })

def execRate (h : Header) (newRate : BitVec 16) (s : State) : Outcome State Fault Refusal :=
  .next (whileRunning (takeRate h newRate) s)

/-- The player as STOP leaves it (R156). -/
def Player.stopped (p : Player) : Player :=
  { p with first := none, length := 0, position := 0, shownPosition := 0, stepPending := false,
           selection := none, cause := .none, state := .idle }

/-- The player stopped and its holds released (R156, R162). -/
def stopPlayer (s : State) : State :=
  (s.withCapture s.capture.releasePlayer).withPlayer s.player.stopped

/-- STOP (R156). -/
def takeStop (h : Header) (s : State) : State :=
  acknowledge 0x58 .player h s (playerReply false (stopPlayer s))

def execStop (h : Header) (s : State) : Outcome State Fault Refusal :=
  .next (whileRunning (takeStop h) s)

end Sys2Proof.Machine
end

