-- ==== Sys2Proof/Machine/ZoneTiming.lean ====
section
/-! DEFINITION. The zone timing unit (chapter 3): ZONE deposits, coverage, the close and the start of a frame
with the reactions of the five consumers, loss, and the event ZONE_PULSE. -/

namespace Sys2Proof.Machine

open Host (Outcome)

/-! ## Coverage (R53) -/

/-- The coverage map holds every line from 0 to lines − 1. -/
def Zone.covered (z : Zone) : Bool := (List.range z.lines).all z.coverage.contains

/-- A read handed to the compositor joins the coverage of an open frame. -/
def coverRead (z : Fin 4) (line : Nat) (s : State) : State :=
  let zone := s.zone z
  if zone.state = .scanning then
    s.setZone z { zone with coverage := addLine line zone.coverage }
  else s

/-! ## ZONE deposits (R46 to R48) -/

/-- The geometry of a deposit is the one the zone holds. -/
def ZoneDeposit.sameGeometry (d : ZoneDeposit) (z : Zone) : Bool :=
  d.base == z.base && d.pitch == z.pitch && d.lines == z.lines && d.width == z.width

/-- The zone state an accepted deposit leads to (R48). -/
def Zone.stateAfter (z : Zone) (enabled : Bool) : ZoneState :=
  if !enabled then .idle else if z.state = .idle then .waiting else z.state

/-- The zone as an accepted deposit leaves it: going to or coming from IDLE leaves no open frame. -/
def Zone.written (z : Zone) (d : ZoneDeposit) : Zone :=
  let goesOn := d.enabled && z.state != .idle
  { z with
    state := z.stateAfter d.enabled, base := d.base, pitch := d.pitch, lines := d.lines,
    width := d.width, sense := d.sense, mode := d.mode, lossTimeout := d.lossTimeout,
    level := d.level, coverage := if goesOn then z.coverage else []
    lossTimer := if goesOn then z.lossTimer else none }

/-- A DEPOSIT into zone `i`. A zone that goes to IDLE abandons its frame, whose clear and served record
the compositor discards (R48, R82). -/
def depositZone (i : Fin 4) (o : List Byte) (s : State) : Deposit :=
  match readZone o with
  | none => .refuse .unknown
  | some d =>
    let e := d.adjust
    let zone := s.zone i
    if !addressFits d.base then .refuse .range
    else if zone.state ≠ .idle ∧ e.enabled ∧ !e.sameGeometry zone then .refuse .state
    else if e.enabled ∧ (e.lines = 0 ∨ e.width = 0) then .refuse .range
    else if e.enabled ∧ Config.addressSpace < e.base + e.lines * e.pitch then .refuse .range
    else
      let t := s.setZone i (zone.written e)
      .accept (if e.enabled then t else discardRecord i t) (e != d)

/-! ## Reports (R58) -/

/-- FRAME: PULSE 0, LOSS 1. -/
def postFrame (z : Fin 4) (complete loss : Bool) (s : State) : State :=
  let zone := s.zone z
  post .zoneTiming 0 .frame 0 z.val
    (bytesOf 4 zone.frameNumber ++ leBytes 1 (yesNo complete) ++ leBytes 1 (yesNo loss) ++
      leBytes 2 zone.coverage.length) s

def postSyncError (z : Fin 4) (s : State) : State :=
  let zone := s.zone z
  post .zoneTiming 0 .syncError 0 z.val
    (bytesOf 4 zone.frameNumber ++ leBytes 2 zone.coverage.length) s

def postLost (z : Fin 4) (s : State) : State :=
  let zone := s.zone z
  post .zoneTiming 0 .lost 0 z.val
    (bytesOf 4 zone.frameNumber ++ leBytes 2 zone.coverage.length) s

def postRegained (z : Fin 4) (s : State) : State :=
  post .zoneTiming 0 .regained 0 z.val (bytesOf 4 (s.zone z).frameNumber) s

/-! ## Frame close (R54) -/

/-- The zone timing unit's own part of a close: FRAME under EVERY_FRAME, then the counters with their
COUNTER_HALF reports (R54, R58). -/
def countClose (z : Fin 4) (complete loss : Bool) (s : State) : State :=
  let framed := if (s.zone z).level = .everyFrame then postFrame z complete loss s else s
  let counted := count (zoneCounter z 0) framed
  if complete then counted else count (zoneCounter z 1) counted

/-- The consumers' reactions to a frame close: the sponsor unit's panels, the mentions of the message unit,
and the records of the closing frame discarded (R82, R174 to R178, R195). -/
def closeReactions (z : Fin 4) (s : State) : State :=
  let record := s.closeRecord z
  let mentioned := s.mentionList z record
  discardRecord z (discardCrawlRecord z (creditMentions mentioned (settlePanels z record s)))

/-- A frame closed by an accepted pulse. -/
def closeByPulse (z : Fin 4) (s : State) : State :=
  closeReactions z (countClose z (s.zone z).covered false s)

/-! ## Frame start (R50) -/

/-- The zone as a frame start leaves it. -/
def Zone.opened (z : Zone) : Zone :=
  { z with state := .scanning, frameNumber := z.frameNumber + 1, coverage := [],
           lossTimer := some 0 }

/-- The consumers' reactions to a frame start: compositor, player, sponsor unit, message unit, and the
content latch, which takes the crawl the message unit hands over (R57, R98). -/
def startReactions (z : Fin 4) (s : State) : State :=
  latchContent z (crawlFrameStart z (latchPanels z (playerFrameStart z (composerFrameStart z s))))

/-- The zone timing unit's own part of a frame start. -/
def openFrame (z : Fin 4) (s : State) : State := s.setZone z (s.zone z).opened

/-! ## Pulses (R49 to R52, R56) -/

/-- A pulse that IGNORE_EARLY refuses (R52). -/
def refusePulse (z : Fin 4) (s : State) : State :=
  let reported := if (s.zone z).level = .none then s else postSyncError z s
  count (zoneCounter z 2) reported

/-- A pulse of zone `z`, by its state. -/
def framePulse (z : Fin 4) (s : State) : State :=
  let zone := s.zone z
  match zone.state with
  | .idle => s
  | .waiting => startReactions z (openFrame z s)
  | .lost => startReactions z (postRegained z (openFrame z s))
  | .scanning =>
    if zone.mode = .restart ∨ zone.covered then
      startReactions z (openFrame z (closeByPulse z s))
    else refusePulse z s

/-- An edge of the direction of the zone's pulse sense is a pulse (R49). -/
def zoneEdge (z : Fin 4) (edge : Edge) (s : State) : State :=
  if edge = (s.zone z).sense then framePulse z s else s

/-- ZONE_PULSE: an edge of ZFP`z`. -/
def execZonePulse (z : Fin 4) (edge : Edge) (s : State) : Outcome State Fault Refusal :=
  .next (whileRunning (zoneEdge z edge)
    (s.withPins { s.pins with zfp := s.pins.zfp.set z (levelAfter edge) }))

/-! ## Loss (R55) -/

/-- The zone as a loss leaves it. -/
def Zone.lose (z : Zone) : Zone := { z with state := .lost, coverage := [], lossTimer := none }

/-- The zone goes LOST: its frame closes short with cause LOSS, LOST is counted and posted, and the
consumers react to the close. -/
def loseZone (z : Fin 4) (s : State) : State :=
  let posted := postLost z (count (zoneCounter z 3) (countClose z false true s))
  closeReactions z (posted.setZone z (posted.zone z).lose)

/-- The loss timer after one more millisecond. -/
def Zone.nextLoss (z : Zone) : Nat := z.lossTimer.getD 0 + 1

/-- The next millisecond pulse takes the zone LOST. -/
def Zone.losesNext (z : Zone) : Bool := z.state == .scanning && z.lossTimeout ≤ z.nextLoss

/-- The millisecond pulse at zone `z`. -/
def pulseZone (z : Fin 4) (s : State) : State :=
  let zone := s.zone z
  if zone.losesNext then loseZone z s
  else if zone.state = .scanning then
    s.setZone z { zone with lossTimer := some zone.nextLoss }
  else s

/-- Every zone, in ascending order (R104). -/
def pulseZones (s : State) : State := (List.finRange 4).foldl (fun t z => pulseZone z t) s

end Sys2Proof.Machine
end

