-- ==== Sys2Proof/Machine/Pulse.lean ====
section
/-! DEFINITION. The millisecond pulse as a whole (R103, R104) and the rows of the table that are one: MS_PULSE
and the expiry rows ZONE_LOSS, GAME_CLOCK_EXPIRE, POSS_EXPIRE, HORN_EXPIRE, MESSAGE_EXPIRE and
HOLD_TIMER_EXPIRE. One REFCLK cycle, which a step takes on an empty queue, is here too. -/

namespace Sys2Proof.Machine

open Host (Outcome)

/-- One millisecond pulse: uptime, the zones' losses, the timing unit's steps 2 to 5, and the message
unit (R104). -/
def pulse (s : State) : State :=
  let wasRunning := s.timing.state == .running
  let before := s.timing.value
  pulseMessages (fireMarks wasRunning before (pulsePossession wasRunning (pulseGame
    (pulseHorns (pulseZones (pulseUptime s))))))

/-! ## The accumulator (R103) -/

/-- The cycles up to and including the next pulse: the fewest, one at least, that bring the accumulator to
F. -/
def TimingUnit.cyclesToPulse (t : TimingUnit) : Nat :=
  max 1 ((t.refRate - t.accumulator + (Config.accumulatorStep - 1)) / Config.accumulatorStep)

/-- The accumulator after the cycle that issues the pulse. -/
def TimingUnit.accumulatorAfterPulse (t : TimingUnit) : Nat :=
  t.accumulator + Config.accumulatorStep * t.cyclesToPulse - t.refRate

/-- Time up to the next pulse, and that pulse (assumption log 3). -/
def advanceToPulse (s : State) : State :=
  pulse (s.withTiming { s.timing with accumulator := s.timing.accumulatorAfterPulse })

/-- One REFCLK cycle: 1,000 is added, and a pulse is issued when the accumulator reaches F (R103). -/
def refclkCycle (s : State) : State :=
  let a := s.timing.accumulator + Config.accumulatorStep
  if s.timing.refRate ≤ a then
    pulse (s.withTiming { s.timing with accumulator := a - s.timing.refRate })
  else s.withTiming { s.timing with accumulator := a }

/-- MS_PULSE (R103, R104). -/
def execMsPulse (s : State) : Outcome State Fault Refusal := .next (whileRunning advanceToPulse s)

/-! ## Expiries: the pulse in which something runs out (assumption log 4, 5) -/

/-- The next pulse, when it is one in which `due` holds; otherwise the event does not arise. -/
def expiryPulse (due : Bool) (s : State) : State := if due then advanceToPulse s else s

/-- ZONE_LOSS: the pulse that brings the loss timer to the loss timeout (R55). -/
def execZoneLoss (z : Fin 4) (s : State) : Outcome State Fault Refusal :=
  .next (whileRunning (expiryPulse (s.zone z).losesNext) s)

/-- The next pulse brings the game clock to its limit (R111). -/
def TimingUnit.gameDue (t : TimingUnit) : Bool :=
  t.state == .running && movedValue t.mode t.value == clockLimit t.mode

/-- GAME_CLOCK_EXPIRE (R111). -/
def execGameClockExpire (s : State) : Outcome State Fault Refusal :=
  .next (whileRunning (expiryPulse s.timing.gameDue) s)

/-- The next pulse brings the possession clock to 0 (R118). -/
def TimingUnit.possDue (t : TimingUnit) : Bool :=
  t.state == .running && t.possEnabled && t.possValue == 1

/-- POSS_EXPIRE (R118). -/
def execPossExpire (s : State) : Outcome State Fault Refusal :=
  .next (whileRunning (expiryPulse s.timing.possDue) s)

/-- The next pulse brings a horn's remaining time to 0 (R116). -/
def TimingUnit.hornDue (t : TimingUnit) : HornId → Bool
  | .game => t.hornG.remaining == 1
  | .possession => t.hornP.remaining == 1

/-- HORN_EXPIRE (R116). -/
def execHornExpire (which : HornId) (s : State) : Outcome State Fault Refusal :=
  .next (whileRunning (expiryPulse (s.timing.hornDue which)) s)

/-- The message at a place has reached its expiry at the next pulse (R194). -/
def State.messageDue (s : State) (i : Fin 64) : Bool :=
  match s.message.store.get i with
  | none => false
  | some m => reachedExpiry (s.timing.uptime + 1) m.expiry

/-- MESSAGE_EXPIRE (R194). -/
def execMessageExpire (i : Fin 64) (s : State) : Outcome State Fault Refusal :=
  .next (whileRunning (expiryPulse (s.messageDue i)) s)

/-- The hold timer would reach 0 at the next pulse (R197). -/
def MessageUnit.holdDue (u : MessageUnit) : Bool :=
  match u.hold with
  | none => false
  | some t => t ≤ 1

/-- HOLD_TIMER_EXPIRE (R197). -/
def execHoldTimerExpire (s : State) : Outcome State Fault Refusal :=
  .next (whileRunning (expiryPulse s.message.holdDue) s)

end Sys2Proof.Machine
end

