-- ==== Sys2Proof/Machine/CommandUnit.lean ====
section
/-! DEFINITION. The command unit (chapter 2): the table pointer with SELECT, EXAMINE and DEPOSIT, the counters
with SNAPSHOT, COUNTER_MODE and COUNTER_CLEAR, REPORT_ACK, NOP, an unknown code, and the events
TABLE_LOCK_CHANGE and REPORT_MOVE. -/

namespace Sys2Proof.Machine

open Host (Outcome)

/-! ## The table pointer -/

/-- Table ids (section 2.5). -/
def Pointer.table : Pointer → Nat
  | .zone _ => 1
  | .stagedWindow _ => 2
  | .activeWindow _ _ => 2
  | .colour _ => 3
  | .glyph _ => 4
  | .layout _ => 5
  | .alertText _ => 6
  | .sponsor _ => 7
  | .panel _ => 8
  | .panelList _ => 9
  | .record => 10
  | .mark _ => 11
  | .slot _ => 12
  | .clip _ => 13
  | .message _ => 14
  | .clock => 15

/-- The index within the table. -/
def Pointer.index : Pointer → Nat
  | .zone i => i.val
  | .stagedWindow i => i.val
  | .activeWindow _ i => i.val
  | .colour i => i.val
  | .glyph i => i.val
  | .layout i => i.val
  | .alertText i => i.val
  | .sponsor i => i.val
  | .panel i => i.val
  | .panelList i => i.val
  | .record => 0
  | .mark i => i.val
  | .slot i => i.val
  | .clip i => i.val
  | .message i => i.val
  | .clock => 0

/-- The block that owns the table (section 2.5), the unit of its ENTRY reports (R33). -/
def Pointer.owner : Pointer → UnitId
  | .zone _ => .zoneTiming
  | .stagedWindow _ => .compositor
  | .activeWindow _ _ => .compositor
  | .colour _ => .glyphRenderer
  | .glyph _ => .glyphRenderer
  | .layout _ => .glyphRenderer
  | .alertText _ => .glyphRenderer
  | .sponsor _ => .sponsor
  | .panel _ => .sponsor
  | .panelList _ => .sponsor
  | .record => .capture
  | .mark _ => .timing
  | .slot _ => .capture
  | .clip _ => .capture
  | .message _ => .message
  | .clock => .timing

/-- Step by one, and from the last index to 0 (R35). -/
def wrapStep {n : Nat} (i : Fin n) : Fin n :=
  if h : i.val + 1 < n then ⟨i.val + 1, h⟩ else ⟨0, Nat.lt_of_le_of_lt (Nat.zero_le _) i.isLt⟩

/-- Step by one, staying at the last index of a block of `b` (R35). -/
def blockStep {n : Nat} (b : Nat) (i : Fin n) : Fin n :=
  if h : i.val % b + 1 < b ∧ i.val + 1 < n then ⟨i.val + 1, h.2⟩ else i

/-- The step after a successful EXAMINE or DEPOSIT (R35). -/
def Pointer.step : Pointer → Pointer
  | .zone i => .zone (wrapStep i)
  | .stagedWindow i => .stagedWindow (wrapStep i)
  | .activeWindow z i => .activeWindow z (wrapStep i)
  | .colour i => .colour (wrapStep i)
  | .glyph i => .glyph (blockStep 24 i)
  | .layout i => .layout (blockStep 12 i)
  | .alertText i => .alertText (wrapStep i)
  | .sponsor i => .sponsor (blockStep 128 i)
  | .panel i => .panel (wrapStep i)
  | .panelList i => .panelList (blockStep 32 i)
  | .record => .record
  | .mark i => .mark (wrapStep i)
  | .slot i => .slot (blockStep 1024 i)
  | .clip i => .clip (blockStep 32 i)
  | .message i => .message (blockStep 64 i)
  | .clock => .clock

/-- The last index of a block of `b` (R35). -/
def atBlockEnd {n : Nat} (b : Nat) (i : Fin n) : Bool := i.val % b + 1 == b

/-- The step leaves the pointer in place, so that the report carries END (R35). A step from RECORD or CLOCK
returns to index 0 and is no such step. -/
def Pointer.staysAtEnd : Pointer → Bool
  | .glyph i => atBlockEnd 24 i
  | .layout i => atBlockEnd 12 i
  | .sponsor i => atBlockEnd 128 i
  | .panelList i => atBlockEnd 32 i
  | .slot i => atBlockEnd 1024 i
  | .clip i => atBlockEnd 32 i
  | .message i => atBlockEnd 64 i
  | .zone _ | .stagedWindow _ | .activeWindow _ _ | .colour _ | .alertText _ | .panel _
  | .record | .mark _ | .clock => false

/-- The pointer replaced. -/
def setPointer (p : Pointer) (s : State) : State := s.withCmd { s.cmd with pointer := p }

/-- A table entry of a table of `n`, refused RANGE beyond it (R32). -/
def entryOf (n index : Nat) (make : Fin n → Pointer) : Except RefusalCode Pointer :=
  match index? n index with
  | some i => .ok (make i)
  | none => .error .range

/-- A WINDOW pointer: the view is a named value, the zone counts with ACTIVE alone (R32). -/
def windowPointer (index view zone : Nat) : Except RefusalCode Pointer :=
  match view with
  | 0 => entryOf 16 index .stagedWindow
  | 1 =>
    match index? 16 index, index? 4 zone with
    | some i, some z => .ok (.activeWindow z i)
    | _, _ => .error .range
  | _ => .error .unknown

/-- Where SELECT places the pointer (R32). -/
def selectPointer (table index view zone : Nat) : Except RefusalCode Pointer :=
  match table with
  | 1 => entryOf 4 index .zone
  | 2 => windowPointer index view zone
  | 3 => entryOf 16 index .colour
  | 4 => entryOf 3072 index .glyph
  | 5 => entryOf 48 index .layout
  | 6 => entryOf 8 index .alertText
  | 7 => entryOf 128 index .sponsor
  | 8 => entryOf 8 index .panel
  | 9 => entryOf 256 index .panelList
  | 10 => entryOf 1 index fun _ => .record
  | 11 => entryOf 4 index .mark
  | 12 => entryOf 1024 index .slot
  | 13 => entryOf 32 index .clip
  | 14 => entryOf 64 index .message
  | 15 => entryOf 1 index fun _ => .clock
  | _ => .error .unknown

/-- SELECT (R32). -/
def takeSelect (h : Header) (table : Byte) (index : BitVec 16) (view zone : Byte) (s : State) :
    State :=
  acknowledge 0x03 .commandUnit h s <|
    match selectPointer table.toNat index.toNat view.toNat zone.toNat with
    | .error code => .refuse code
    | .ok p => .ok (setPointer p s)

def execSelect (h : Header) (table : Byte) (index : BitVec 16) (view zone : Byte) (s : State) :
    Outcome State Fault Refusal :=
  .next (whileRunning (takeSelect h table index view zone) s)

/-! ## EXAMINE -/

/-- The packed entry at the pointer (R33, R36). -/
def State.entryBytes (s : State) : Pointer → List Byte
  | .zone i => packZone (s.zone i)
  | .stagedWindow i => packWindow (s.comp.staged.get i)
  | .activeWindow z i => packActiveWindow s.comp z i
  | .colour i => bytesOf 4 (s.glyph.colours.get i)
  | .glyph i => bytesOf 2 (s.glyph.store.get i)
  | .layout i => packLayout (s.glyph.layouts.get i)
  | .alertText i => packAlertText s.glyph i
  | .sponsor i => packSponsor (s.entry i)
  | .panel i => packPanel (s.panel i)
  | .panelList i => leBytes 1 (s.sponsor.lists.get i).val
  | .record => packRecord s.capture.source s.capture.recorder
  | .mark i => packMark (s.timing.marks.get i)
  | .slot i => packSlot (s.slot i)
  | .clip i => packClip (s.capture.clips.get i)
  | .message i => packMessage (s.message.store.get i)
  | .clock => packClock s.timing

/-- One ENTRY report of the entry at `p` (R33). -/
def entryReport (h : Header) (p : Pointer) (atEnd more : Bool) (payload : List Byte) (s : State) :
    Report :=
  { kind := .entry, code := p.table, lastOfTable := atEnd, more := more, unit := p.owner,
    tag := h.tag, subject := p.index, uptime := s.timing.uptime, payload := payload }

/-- The ENTRY answer: one report, or a pair when the packed entry exceeds 20 bytes (R27, R33). -/
def answerEntry (h : Header) (p : Pointer) (bytes : List Byte) (s : State) : State :=
  if bytes.length ≤ 20 then enqueue (entryReport h p p.staysAtEnd false bytes s) s
  else
    enqueuePair (entryReport h p false true (bytes.take 20) s)
      (entryReport h p p.staysAtEnd false (bytes.drop 20) s) s

/-- EXAMINE (R33, R35). -/
def takeExamine (h : Header) (s : State) : State :=
  acknowledge 0x04 .commandUnit h s <|
    let p := s.cmd.pointer
    .data (setPointer p.step (answerEntry h p (s.entryBytes p) s))

def execExamine (h : Header) (s : State) : Outcome State Fault Refusal :=
  .next (whileRunning (takeExamine h) s)

/-! ## DEPOSIT -/

/-- A MARK deposit (R119). -/
def depositMark (i : Fin 4) (o : List Byte) (s : State) : Deposit :=
  match readMark o with
  | none => .refuse .unknown
  | some d =>
    if d.action = .moment ∧ (7 < d.panel ∨ 127 < d.entry) then .refuse .range
    else
      let value := min Config.gameClockTop d.value
      let frames := max 1 d.frames
      let mark : Mark :=
        { enabled := d.enabled, value := value, action := d.action, panel := d.panel,
          entry := d.entry, frames := frames, fired := false }
      .accept (s.withTiming { s.timing with marks := s.timing.marks.set i mark })
        (value != d.value || frames != d.frames)

/-- The owner of the pointer's table answers the deposit (R34). A record that UNKNOWN refuses is refused so
before the ACTIVE view is (R24; assumption log 14). -/
def depositAt (p : Pointer) (o : List Byte) (tag : BitVec 16) (s : State) : Deposit :=
  match p with
  | .zone i => depositZone i o s
  | .stagedWindow i => depositWindow i o s
  | .activeWindow _ _ => .refuse (if (readWindow o).isSome then .state else .unknown)
  | .colour i => depositColour i o s
  | .glyph i => depositGlyph i o s
  | .layout i => depositLayout i o s
  | .alertText i => depositAlertText i o s
  | .sponsor i => depositSponsor i o tag s
  | .panel i => depositPanel i o s
  | .panelList i => depositPanelList i o s
  | .record => depositRecord o s
  | .mark i => depositMark i o s
  | .slot _ | .clip _ | .message _ | .clock => .refuse .state

/-- DEPOSIT (R34, R35). The acknowledgement carries the command unit's number whoever owns the table (R24 and
R43, assumption log 37). -/
def takeDeposit (h : Header) (operands : List Byte) (s : State) : State :=
  acknowledge 0x05 .commandUnit h s <|
    let p := s.cmd.pointer
    match depositAt p operands h.tag s with
    | .refuse code => .refuse code
    | .accept t clamped => .done (setPointer p.step t) clamped [] p.staysAtEnd

def execDeposit (h : Header) (operands : List Byte) (s : State) : Outcome State Fault Refusal :=
  if (Instr.deposit h operands).wellFormed then .next (whileRunning (takeDeposit h operands) s)
  else .fault .illFormed

/-! ## Counters -/

/-- Counter `i` of a group (R37). -/
def counterId? (group i : Nat) : Option CounterId :=
  match group with
  | 1 => (index? 16 i).map .zone
  | 2 => (index? 128 i).map .exposed
  | 3 => (index? 8 i).map .occluded
  | 4 => (index? 4 i).map .path
  | _ => none

/-- The size of a counter group, none for a group id that is not one of the four (R37, R39). -/
def groupSize? : Nat → Option Nat
  | 1 => some 16
  | 2 => some 128
  | 3 => some 8
  | 4 => some 4
  | _ => none

/-- The counters a SNAPSHOT names. -/
def snapshotIds (group first count : Nat) : List CounterId :=
  (List.range count).filterMap fun k => counterId? group (first + k)

/-- The payload of a COUNTERS report: four values and four half-full bytes; a place beyond the snapshot's
count holds 0 and FFh (R39). -/
def counterPayload (run : List Counter) : List Byte :=
  run.flatMap (fun c => bytesOf 4 c.value) ++ leBytes (4 * (4 - run.length)) 0 ++
  run.flatMap (fun c => leBytes 1 (yesNo c.half)) ++ List.replicate (4 - run.length) 0xFF

/-- The COUNTERS reports of captured counters that start at index `first` (R39). -/
def counterReports (h : Header) (group : Nat) (uptime : Count) : Nat → List Counter → List Report
  | first, a :: b :: c :: d :: e :: rest =>
    { kind := .counters, code := group, lastOfTable := false, more := true, unit := .commandUnit,
      tag := h.tag, subject := first, uptime := uptime, payload := counterPayload [a, b, c, d] } ::
    counterReports h group uptime (first + 4) (e :: rest)
  | first, run =>
    [{ kind := .counters, code := group, lastOfTable := false, more := false, unit := .commandUnit,
       tag := h.tag, subject := first, uptime := uptime, payload := counterPayload run }]

/-- The named counters set to 0 with their half-full flags clear. -/
def clearCounters (ids : List CounterId) (s : State) : State :=
  s.withCounters (ids.foldl (fun c id => c.set id Counter.zero) s.counters)

/-- An accepted SNAPSHOT: the counters captured, cleared under clear-on-snapshot, and reported one report
at a time (R27, R39). -/
def snapshot (h : Header) (group first count : Nat) (s : State) : State :=
  let ids := snapshotIds group first count
  let captured := ids.map s.counters.get
  let cleared := if s.cmd.clearOnSnapshot then clearCounters ids s else s
  (counterReports h group s.timing.uptime first captured).foldl (fun t r => enqueue r t) cleared

/-- SNAPSHOT (R39). -/
def takeSnapshot (h : Header) (group : Byte) (first count : BitVec 16) (s : State) : State :=
  acknowledge 0x06 .commandUnit h s <|
    match groupSize? group.toNat with
    | none => .refuse .unknown
    | some size =>
      if s.cmd.clearOnSnapshot && s.pins.tableLock then .refuse .locked
      else if count.toNat = 0 ∨ 16 < count.toNat ∨ size < first.toNat + count.toNat then
        .refuse .range
      else .data (snapshot h group.toNat first.toNat count.toNat s)

def execSnapshot (h : Header) (group : Byte) (first count : BitVec 16) (s : State) :
    Outcome State Fault Refusal :=
  .next (whileRunning (takeSnapshot h group first count) s)

/-- COUNTER_MODE (R38): WRAP 0, SATURATE 1; clear-on-snapshot off 0, on 1. -/
def takeCounterMode (h : Header) (overflow clear : Byte) (s : State) : State :=
  acknowledge 0x07 .commandUnit h s <|
    match yesNo? overflow.toNat, yesNo? clear.toNat with
    | some saturate, some clearing =>
      if s.pins.tableLock then .refuse .locked
      else .ok (s.withCmd { s.cmd with saturate := saturate, clearOnSnapshot := clearing })
    | _, _ => .refuse .unknown

def execCounterMode (h : Header) (overflow clear : Byte) (s : State) :
    Outcome State Fault Refusal :=
  .next (whileRunning (takeCounterMode h overflow clear) s)

/-- Every counter 0, every half-full flag clear, and every fulfilled flag no (R40). -/
def clearAllCounters (s : State) : State :=
  (s.withCounters Counters.initial).withSponsor
    { s.sponsor with entries := s.sponsor.entries.map fun e => { e with fulfilled := false } }

/-- COUNTER_CLEAR (R40). -/
def takeCounterClear (h : Header) (s : State) : State :=
  acknowledge 0x08 .commandUnit h s <|
    if s.pins.tableLock then .refuse .locked else .ok (clearAllCounters s)

def execCounterClear (h : Header) (s : State) : Outcome State Fault Refusal :=
  .next (whileRunning (takeCounterClear h) s)

/-! ## Taking and acknowledging -/

/-- A command record whose code is not in the list (R23). The command unit answers for it
(assumption log 20). -/
def takeCommandUnknown (h : Header) (code : Byte) (s : State) : State :=
  acknowledge code.toNat .commandUnit h s (.refuse .unknown)

def execCommandUnknown (h : Header) (code : Byte) (s : State) : Outcome State Fault Refusal :=
  .next (whileRunning (takeCommandUnknown h code) s)

/-- NOP (R23). -/
def takeNop (h : Header) (s : State) : State := acknowledge 0x01 .commandUnit h s (.ok s)

def execNop (h : Header) (s : State) : Outcome State Fault Refusal :=
  .next (whileRunning (takeNop h) s)

/-- The new index moves C forward no further than P (R30). -/
def CommandUnit.ackAccepted (c : CommandUnit) (index : BitVec 6) : Bool :=
  (index - c.consumer).toNat ≤ (c.producer - c.consumer).toNat

/-- REPORT_ACK (R30). -/
def takeReportAck (h : Header) (index : Byte) (s : State) : State :=
  acknowledge 0x02 .commandUnit h s <|
    let c := BitVec.ofNat 6 index.toNat
    if index.toNat ≤ 63 ∧ s.cmd.ackAccepted c then
      .ok (moveReports (s.withCmd { s.cmd with consumer := c }))
    else .refuse .range

def execReportAck (h : Header) (index : Byte) (s : State) : Outcome State Fault Refusal :=
  .next (whileRunning (takeReportAck h index) s)

/-! ## Events -/

/-- A change of TABLE_LOCK (R41): the lock has no state beyond the level of the line. -/
def execTableLockChange (level : Bool) (s : State) : Outcome State Fault Refusal :=
  .next (s.withPins { s.pins with tableLock := level })

/-- The head report moves if the conditions of R28 hold (assumption log 6). -/
def moveOne (s : State) : State := if s.canMove then moveReport s else s

/-- REPORT_MOVE (R28). -/
def execReportMove (s : State) : Outcome State Fault Refusal := .next (whileRunning moveOne s)

end Sys2Proof.Machine
end

