-- ==== Sys2Proof/Machine/Resets.lean ====
section
/-! DEFINITION. The resets: SOFT_RESET block by block (R42), and the assertion and the release of RESET_N
(R19, R21, R31 and the reset rule of each chapter). -/

namespace Sys2Proof.Machine

open Host (Outcome)

/-! ## SOFT_RESET, block by block -/

/-- A zone after SOFT_RESET (R61). -/
def Zone.softReset (z : Zone) : Zone := { z with state := .idle, coverage := [], lossTimer := none }

def softResetZones (s : State) : State := s.withZones (s.zones.map Zone.softReset)

/-- The compositor after SOFT_RESET (R86). -/
def Compositor.softReset (c : Compositor) : Compositor :=
  { c with
    staged := c.staged.map fun w => { w with enabled := false }
    taken := Tab.fill 4 (Tab.fill 16 none), active := Tab.fill 4 (Tab.fill 16 none)
    applyPending := Tab.fill 4 false
    alertLatch := Tab.fill 4 false, frameRecord := Tab.fill 4 none, alertOn := false }

/-- ALERT_CHANGE is posted when clearing the flag ends the alert in force (R86). -/
def softResetCompositor (tag : BitVec 16) (s : State) : State :=
  reportAlertChange tag s (s.withComp s.comp.softReset)

/-- Every content latch emptied (R101). -/
def softResetRenderer (s : State) : State :=
  s.withGlyph { s.glyph with latches := Tab.fill 4 none }

/-- The recorder stopped (R145). -/
def softResetCapture (tag : BitVec 16) (s : State) : State := stopRecorder tag .softReset s

/-- The player stopped, and every latched slot absent (R162). -/
def softResetPlayer (s : State) : State :=
  let t := stopPlayer s
  t.withPlayer { t.player with latched := Tab.fill 4 none }

/-- A zone's latch of a panel: absent, with the panel's default image. The latched showing number stays
(R182; assumption log 25). -/
def PanelLatch.softReset (l : PanelLatch) (p : Panel) : PanelLatch :=
  { l with entry := none, image := p.defaultImage }

/-- The eight latches of one zone. -/
def softResetLatches (panels : Tab Panel 8) (t : Tab PanelLatch 8) : Tab PanelLatch 8 :=
  (List.finRange 8).foldl (fun u p => u.modify p fun l => l.softReset (panels.get p)) t

/-- The sponsor unit after SOFT_RESET (R182). -/
def softResetSponsor (s : State) : State :=
  s.withSponsor
    { s.sponsor with
      panels := s.sponsor.panels.map Panel.halt
      latches := s.sponsor.latches.map (softResetLatches s.sponsor.panels) }

/-- The message unit after SOFT_RESET; the hold state is tested (R200). -/
def softResetMessages (tag : BitVec 16) (s : State) : State :=
  testHold tag
    (s.withMessage
      { s.message with store := Tab.fill 64 none, announce := [], featured := [], fan := [],
                       lead := none, follow := none, record := none })

/-- Every block's effect, in the block order of R42, and the pointer back at ZONE 0. -/
def softReset (tag : BitVec 16) (s : State) : State :=
  setPointer (.zone 0) (softResetMessages tag (softResetSponsor (softResetPlayer
    (softResetCapture tag (softResetRenderer (softResetCompositor tag (softResetZones s)))))))

/-- SOFT_RESET (R42): never refused; its DONE comes last. -/
def takeSoftReset (h : Header) (s : State) : State :=
  acknowledge 0x09 .commandUnit h s (.ok (softReset h.tag s))

def execSoftReset (h : Header) (s : State) : Outcome State Fault Refusal :=
  .next (whileRunning (takeSoftReset h) s)

/-! ## RESET_N -/

/-- The state while RESET_N is asserted: every block in its reset state, the lines as they stand. A request
that RP is withholding is forgotten, so that another one may be presented after release (DESIGN CHOICE: R19
speaks of accepted requests alone; assumption log 38). -/
def resetAsserted (s : State) : State :=
  State.initial { s.pins with resetAsserted := true } 0 s.pending s.free

/-- RESET_ASSERT. -/
def execResetAssert (s : State) : Outcome State Fault Refusal := .next (resetAsserted s)

/-- The release of RESET_N: CA_SEL is sampled (R21), and an alert in force is reported first of all
(R69). -/
def resetReleased (caSel : BitVec 4) (s : State) : State :=
  let t := (s.withPins { s.pins with resetAsserted := false }).withCmd
    { s.cmd with caBase := controlAreaBase caSel }
  if t.alertInForce then postAlertChange 0 t else t

/-- RESET_RELEASE; with RESET_N already released there is nothing to release (assumption log 5). -/
def execResetRelease (caSel : BitVec 4) (s : State) : Outcome State Fault Refusal :=
  .next (if s.pins.resetAsserted then resetReleased caSel s else s)

end Sys2Proof.Machine
end

