-- ==== Sys2Proof/Machine/BusPath.lean ====
section
/-! DEFINITION. The bus path (chapter 1): classification, withholding and acceptance of a burst, the taking
of a command record, the three grants of the memory port, MP responses and the return of responses. -/

namespace Sys2Proof.Machine

open Host (Outcome)

/-! ## Classification (R5) -/

/-- The class of a burst. -/
inductive BurstClass where
  | stray
  | controlArea
  | recordSource
  | zoneRead (z : Fin 4)
  | passThrough
deriving DecidableEq, Repr

/-- The burst crosses a granule boundary (R3). -/
def isStray (b : Burst) : Bool := 64 < b.addr.toNat % 64 + 8 * b.beats

/-- The address lies in the record source region (R5). -/
def RecordSource.inRegion (r : RecordSource) (a : Nat) : Bool :=
  r.base ≤ a && a < r.base + r.lines * r.pitch

/-- The class of a READ that is neither stray nor in the control area. -/
def State.readClass (s : State) (a : Nat) : BurstClass :=
  match s.zoneAt a with
  | some z => .zoneRead z
  | none => .passThrough

/-- The first class of R5 that matches. -/
def State.classify (s : State) (b : Burst) : BurstClass :=
  let a := b.addr.toNat
  if isStray b then .stray
  else if s.inControlArea a then .controlArea
  else
    match b.dir with
    | .write => if s.capture.source.inRegion a then .recordSource else .passThrough
    | .read => s.readClass a

/-- A write into the command slot half, at an offset below 2,048 (R6). -/
def State.inSlotHalf (s : State) (b : Burst) : Bool := b.addr.toNat < s.cmd.caBase + 2048

/-- The form of a whole command write (R6): 4 beats, 32-byte aligned, every byte enabled. -/
def isWholeRecord (b : Burst) : Bool :=
  b.beats == 4 && b.addr.toNat % 32 == 0 && b.enables.all id

/-! ## Taking a command (R22, R23) -/

/-- A host command taken. Nothing else is one. -/
def takeCommand (c : Instr) (s : State) : State :=
  match c with
  | .commandUnknown h code => takeCommandUnknown h code s
  | .nop h => takeNop h s
  | .reportAck h index => takeReportAck h index s
  | .select h table index view zone => takeSelect h table index view zone s
  | .examine h => takeExamine h s
  | .deposit h operands => takeDeposit h operands s
  | .snapshot h group first count => takeSnapshot h group first count s
  | .counterMode h overflow clear => takeCounterMode h overflow clear s
  | .counterClear h => takeCounterClear h s
  | .softReset h => takeSoftReset h s
  | .apply h => takeApply h s
  | .alertOn h => takeAlertOn h s
  | .alertOff h => takeAlertOff h s
  | .probe h address => takeProbe h address s
  | .clockConfig h refRate mode startSense stopSense threshold duration => takeClockConfig h refRate mode startSense stopSense threshold duration s
  | .clockStart h => takeClockStart h s
  | .clockStop h => takeClockStop h s
  | .clockSet h value => takeClockSet h value s
  | .clockAdjust h delta => takeClockAdjust h delta s
  | .clockMode h mode => takeClockMode h mode s
  | .breakOn h => takeBreakOn h s
  | .breakOff h => takeBreakOff h s
  | .possConfig h preset threshold stopGame sense duration => takePossConfig h preset threshold stopGame sense duration s
  | .possEnable h enabled => takePossEnable h enabled s
  | .possReset h => takePossReset h s
  | .possSet h value => takePossSet h value s
  | .horn h which action => takeHorn h which action s
  | .scoreSet h side value => takeScoreSet h side value s
  | .scoreAdd h side delta => takeScoreAdd h side delta s
  | .fieldSet h field value => takeFieldSet h field value s
  | .fieldAdd h field delta => takeFieldAdd h field delta s
  | .recordArm h => takeRecordArm h s
  | .recordStop h => takeRecordStop h s
  | .clipIn h clipTag preRoll => takeClipIn h clipTag preRoll s
  | .clipOut h => takeClipOut h s
  | .clipFree h clip => takeClipFree h clip s
  | .playerConfig h paceZone endMode partialSkip alertPolicy => takePlayerConfig h paceZone endMode partialSkip alertPolicy s
  | .cueClip h clip => takeCueClip h clip s
  | .cueRange h first length => takeCueRange h first length s
  | .cueClock h value length => takeCueClock h value length s
  | .play h => takePlay h s
  | .pause h => takePause h s
  | .step h => takeStep h s
  | .rate h newRate => takeRate h newRate s
  | .stop h => takeStop h s
  | .panelStart h panel => takePanelStart h panel s
  | .panelStop h panel => takePanelStop h panel s
  | .panelHold h panel => takePanelHold h panel s
  | .panelForce h panel entry frames => takePanelForce h panel entry frames s
  | .queueConfig h paceZone width speed gap scale high low holdTime margin finalNotice => takeQueueConfig h paceZone width speed gap scale high low holdTime margin finalNotice s
  | .msgOpen h id cls length repeats lifetime colour sponsor => takeMsgOpen h id cls length repeats lifetime colour sponsor s
  | .msgText h id offset count codes => takeMsgText h id offset count codes s
  | .msgPost h id => takeMsgPost h id s
  | .msgWithdraw h id => takeMsgWithdraw h id s
  | .resetAssert | .resetRelease _ | .requestWithhold _ | .burstAccept _ | .forwardGrant
  | .mirrorGrant | .reportWriteGrant | .mpResponse _ | .responseReturn | .reportMove
  | .tableLockChange _ | .alertInChange _ | .zonePulse _ _ | .zoneLoss _ | .msPulse
  | .gameClockExpire | .possExpire | .hornExpire _ | .messageExpire _ | .holdTimerExpire
  | .lineStart _ | .lineStop _ _ | .pcReset _ | .recordFramePulse _ => s

/-- The command unit takes the record of a whole command write, at its acceptance (R6, R22). -/
def takeRecord (record : List Byte) (s : State) : State := takeCommand (decodeRecord record) s

/-! ## Forwarding, entries and copies -/

/-- A request joins the forward queue, with the address to issue (R10). -/
def forwardAt (a : BitVec 36) (b : Burst) (s : State) : State :=
  s.withBus { s.bus with forward := s.bus.forward ++ [{ b with addr := a }] }

/-- A request forwarded unchanged. -/
def forwardAsIs (b : Burst) (s : State) : State := forwardAt b.addr b s

/-- A response entry joins the list (R11). -/
def addEntry (b : Burst) (kind : ResponseKind) (data : List Pixel) (complete : Bool) (s : State) :
    State :=
  s.withBus
    { s.bus with
      responses := s.bus.responses ++
        [{ tag := b.tag, beats := b.beats, kind := kind, data := data, complete := complete }] }

/-- A burst forwarded unchanged, a READ with its MEMORY entry (R10, R11). -/
def passThrough (b : Burst) (s : State) : State :=
  let t := forwardAsIs b s
  match b.dir with
  | .write => t
  | .read => addEntry b .memory [] false t

/-- What the bus path does with the compositor's answer (R8). -/
def actOn (b : Burst) (outcome : ReadOutcome) (s : State) : State :=
  match outcome with
  | .passThrough => addEntry b .memory [] false (forwardAsIs b s)
  | .remap a none => addEntry b .memory [] false (forwardAt (BitVec.ofNat 36 a) b s)
  | .remap a (some plan) => addEntry b (.merge plan) [] false (forwardAt (BitVec.ofNat 36 a) b s)
  | .synthesize pixels => addEntry b .synth pixels true s

/-- A zone read accepted (R8, R53, R81): composed as things stand, and told to the zone timing unit and to
the windows' served sets. -/
def acceptZoneRead (z : Fin 4) (b : Burst) (s : State) : State :=
  let a := b.addr.toNat
  let p := (s.zone z).place a
  actOn b (s.compose z a b.beats) (markServed z p (coverRead z p.line s))

/-- The slot a live write wants a copy in (R7, R134). -/
def State.copySlot (s : State) (b : Burst) : Option (Fin 1024) :=
  if s.classify b = .recordSource then s.capture.writing else none

/-- The copy of a live write at slot `k` (R14, R134); on MP it carries tag 0. -/
def State.copyOf (s : State) (k : Fin 1024) (b : Burst) : MirrorCopy :=
  { burst := { b with addr := BitVec.ofNat 36 (s.capture.copyAddress k b.addr.toNat), tag := 0 }
    slot := k }

/-- The mirror queue holds 32 copies (R14). -/
def BusPath.mirrorFull (b : BusPath) : Bool := Config.mirrorCapacity ≤ b.mirrors.length

/-- A copy queued, or discarded when the queue is full, which DROP alone comes to (R14, R15). -/
def queueCopy (k : Fin 1024) (b : Burst) (s : State) : State :=
  if s.bus.mirrorFull then countMirrorDrop (markDropped k s)
  else
    raiseOutstanding k
      (s.withBus { s.bus with mirrors := s.bus.mirrors ++ [s.copyOf k b] })

/-- A live write accepted (R7, R134). -/
def acceptLiveWrite (b : Burst) (s : State) : State :=
  let t := forwardAsIs b s
  match s.capture.writing with
  | none => t
  | some k => queueCopy k b (coverLine k b.addr.toNat t)

/-- A control area write accepted (R6). -/
def acceptControlWrite (b : Burst) (s : State) : State :=
  let t := forwardAsIs b s
  if s.inSlotHalf b then
    if isWholeRecord b then takeRecord b.data t else countPartialCmd t
  else t

/-- A control area burst accepted (R5, R6). -/
def acceptControl (b : Burst) (s : State) : State :=
  match b.dir with
  | .read => passThrough b s
  | .write => acceptControlWrite b s

/-- Everything the acceptance of a burst does, by its class (R5 to R9). -/
def acceptBurst (b : Burst) (s : State) : State :=
  match s.classify b with
  | .stray => countStray (passThrough b s)
  | .controlArea => acceptControl b s
  | .recordSource => acceptLiveWrite b s
  | .zoneRead z => acceptZoneRead z b s
  | .passThrough => passThrough b s

/-! ## Withholding (R4, R15) -/

/-- The request will be forwarded to MP: all but a synthesized read (R4, R10). -/
def State.forwards (s : State) (b : Burst) : Bool :=
  match s.classify b with
  | .zoneRead z =>
    match s.compose z b.addr.toNat b.beats with
    | .synthesize _ => false
    | .passThrough | .remap _ _ => true
  | _ => true

/-- The request is a write that wants a copy in STALL while the mirror queue is full (R4, R15). -/
def State.mirrorStalled (s : State) (b : Burst) : Bool :=
  (s.copySlot b).isSome && s.capture.source.mirrorMode == .stall && s.bus.mirrorFull

/-- A condition of R4 holds for the presented request. -/
def State.withholds (s : State) (b : Burst) : Bool :=
  (s.forwards b && Config.forwardCapacity ≤ s.bus.forward.length) ||
  (b.dir == .read && Config.responseCapacity ≤ s.bus.responses.length) ||
  s.mirrorStalled b

/-- The display controller can present this request: no other one is withheld (R4; assumption log 8). -/
def BusPath.presentable (p : BusPath) (b : Burst) : Bool :=
  match p.withheld with
  | none => true
  | some w => w.burst == b

/-- STALLS has counted the presented request. -/
def BusPath.counted (p : BusPath) : Bool :=
  match p.withheld with
  | none => false
  | some w => w.counted

/-- The request is withheld; STALLS counts it once (R15). -/
def withhold (b : Burst) (s : State) : State :=
  let stalled := s.mirrorStalled b
  let t := s.withBus
    { s.bus with withheld := some { burst := b, counted := s.bus.counted || stalled } }
  if stalled && !s.bus.counted then countStall t else t

/-- A withheld request examined again, or a new one presented, that some condition of R4 withholds. -/
def presentWithheld (b : Burst) (s : State) : State :=
  if s.bus.presentable b && s.withholds b then withhold b s else s

/-- REQUEST_WITHHOLD (R4, R15). A request that no condition withholds is not withheld
(assumption log 5). -/
def execRequestWithhold (b : Burst) (s : State) : Outcome State Fault Refusal :=
  if b.wellFormed then .next (whileRunning (presentWithheld b) s) else .fault .illFormed

/-- The request leaves the port and is accepted. -/
def acceptPresented (b : Burst) (s : State) : State :=
  acceptBurst b (s.withBus { s.bus with withheld := none })

/-- A presented request: accepted at once unless a condition of R4 holds (assumption log 9). -/
def present (b : Burst) (s : State) : State :=
  if s.bus.presentable b then
    if s.withholds b then withhold b s else acceptPresented b s
  else s

/-- BURST_ACCEPT (R5). -/
def execBurstAccept (b : Burst) (s : State) : Outcome State Fault Refusal :=
  if b.wellFormed then .next (whileRunning (present b) s) else .fault .illFormed

/-! ## The memory port (R14, R16, R17) -/

/-- A grant to the forward or the mirror queue, which the report write at its head waits through (R17). -/
def BusPath.waited (p : BusPath) : Nat :=
  if p.reportWrites.isEmpty then p.waitCount else p.waitCount + 1

/-- The head of the forward queue goes to MP (R10, R17). -/
def grantForward (s : State) : State :=
  match s.bus.forward with
  | [] => s
  | b :: rest =>
    s.withBus
      { s.bus with forward := rest, mpOut := some b, waitCount := s.bus.waited }

/-- FORWARD_GRANT: the arbiter grants the forward queue, if it is the winner (assumption log 5). -/
def execForwardGrant (s : State) : Outcome State Fault Refusal :=
  .next (whileRunning (fun s => if s.bus.winner = some .forward then grantForward s else s) s)

/-- The head copy goes to MP, and its slot has one fewer outstanding (R14, R136). -/
def grantMirror (s : State) : State :=
  match s.bus.mirrors with
  | [] => s
  | m :: rest =>
    settleSlot m.slot
      (s.withBus
        { s.bus with mirrors := rest, mpOut := some m.burst, waitCount := s.bus.waited })

/-- MIRROR_GRANT (R14, R17). -/
def execMirrorGrant (s : State) : Outcome State Fault Refusal :=
  .next (whileRunning (fun s => if s.bus.winner = some .mirror then grantMirror s else s) s)

/-- A report write on MP: 4 beats at its ring entry, every byte enabled, tag 0 (R16). -/
def State.reportBurst (s : State) (w : ReportWrite) : Burst :=
  { addr := BitVec.ofNat 36 (s.cmd.caBase + 2048 + 32 * w.entry.toNat), dir := .write, beats := 4,
    tag := 0, data := w.data, enables := List.replicate 32 true }

/-- The head report write reaches memory: P advances, the next one's wait starts at 0, and the report queue
gets its chance to move (R16, R17, R28, R29). -/
def grantReport (s : State) : State :=
  match s.bus.reportWrites with
  | [] => s
  | w :: rest =>
    moveReports
      ((s.withBus
        { s.bus with reportWrites := rest, mpOut := some (s.reportBurst w), waitCount := 0 }).withCmd
        { s.cmd with producer := s.cmd.producer + 1 })

/-- REPORT_WRITE_GRANT (R16, R17, R29). -/
def execReportWriteGrant (s : State) : Outcome State Fault Refusal :=
  .next (whileRunning (fun s => if s.bus.winner = some .reportWrite then grantReport s else s) s)

/-! ## Responses (R12, R13) -/

/-- A merged response: the plan's colour, or the memory pixel at that place. Where the response that
arrived has no pixel for a place the pixel is a free value, the `free`th and on (assumption log 1). -/
def mergePixels (free : Nat) : MergePlan → List Pixel → List Pixel
  | [], _ => []
  | d :: plan, pixels =>
    d.getD (pixels.head?.getD (Config.missingPixel free)) ::
      mergePixels (free + 1) plan pixels.tail

/-- The entry with the response that answers it. -/
def ResponseEntry.answer (e : ResponseEntry) (free : Nat) (pixels : List Pixel) : ResponseEntry :=
  match e.kind with
  | .merge plan => { e with data := mergePixels free plan pixels, complete := true }
  | .memory | .synth => { e with data := pixels, complete := true }

/-- The response goes to the oldest WAITING entry, or is discarded (R12). -/
def matchResponse (free : Nat) (pixels : List Pixel) : List ResponseEntry → List ResponseEntry
  | [] => []
  | e :: rest =>
    if e.complete then e :: matchResponse free pixels rest else e.answer free pixels :: rest

/-- How many free values a merged response may draw: one for each pixel of its plan. -/
def ResponseEntry.draws (e : ResponseEntry) : Nat :=
  match e.kind with
  | .merge plan => plan.length
  | .memory | .synth => 0

/-- The free values the response draws. -/
def BusPath.draws (p : BusPath) : Nat :=
  match p.responses.find? fun e => !e.complete with
  | none => 0
  | some e => e.draws

/-- A response arrives at MP (R12). -/
def takeResponse (pixels : List Pixel) (s : State) : State :=
  (s.withBus
    { s.bus with responses := matchResponse s.free pixels s.bus.responses }).withFree
    (s.free + s.bus.draws)

/-- MP_RESPONSE (R12). -/
def execMpResponse (pixels : List Pixel) (s : State) : Outcome State Fault Refusal :=
  if responseWellFormed pixels then .next (whileRunning (takeResponse pixels) s)
  else .fault .illFormed

/-- The oldest entry leaves RP when it is COMPLETE (R13). -/
def returnResponse (s : State) : State :=
  match s.bus.responses with
  | [] => s
  | e :: rest =>
    if e.complete then
      s.withBus
        { s.bus with responses := rest, rpOut := some { tag := e.tag, data := e.data } }
    else s

/-- RESPONSE_RETURN (R13). -/
def execResponseReturn (s : State) : Outcome State Fault Refusal :=
  .next (whileRunning returnResponse s)

end Sys2Proof.Machine
end

