-- ==== Sys2Proof/Machine/Dispatch.lean ====
section
/-! DEFINITION. The dispatch: one arm for each command, each one call of its meaning. -/

namespace Sys2Proof.Machine

def exec (i : Instr) (s : State) : Host.Outcome State Fault Refusal :=
  match i with
  | .resetAssert => Sys2Proof.Machine.execResetAssert s
  | .resetRelease caSel => Sys2Proof.Machine.execResetRelease caSel s
  | .requestWithhold b => Sys2Proof.Machine.execRequestWithhold b s
  | .burstAccept b => Sys2Proof.Machine.execBurstAccept b s
  | .forwardGrant => Sys2Proof.Machine.execForwardGrant s
  | .mirrorGrant => Sys2Proof.Machine.execMirrorGrant s
  | .reportWriteGrant => Sys2Proof.Machine.execReportWriteGrant s
  | .mpResponse pixels => Sys2Proof.Machine.execMpResponse pixels s
  | .responseReturn => Sys2Proof.Machine.execResponseReturn s
  | .reportMove => Sys2Proof.Machine.execReportMove s
  | .commandUnknown h code => Sys2Proof.Machine.execCommandUnknown h code s
  | .nop h => Sys2Proof.Machine.execNop h s
  | .reportAck h index => Sys2Proof.Machine.execReportAck h index s
  | .select h table index view zone => Sys2Proof.Machine.execSelect h table index view zone s
  | .examine h => Sys2Proof.Machine.execExamine h s
  | .deposit h operands => Sys2Proof.Machine.execDeposit h operands s
  | .snapshot h group first count => Sys2Proof.Machine.execSnapshot h group first count s
  | .counterMode h overflow clear => Sys2Proof.Machine.execCounterMode h overflow clear s
  | .counterClear h => Sys2Proof.Machine.execCounterClear h s
  | .softReset h => Sys2Proof.Machine.execSoftReset h s
  | .tableLockChange level => Sys2Proof.Machine.execTableLockChange level s
  | .apply h => Sys2Proof.Machine.execApply h s
  | .alertOn h => Sys2Proof.Machine.execAlertOn h s
  | .alertOff h => Sys2Proof.Machine.execAlertOff h s
  | .alertInChange level => Sys2Proof.Machine.execAlertInChange level s
  | .probe h address => Sys2Proof.Machine.execProbe h address s
  | .zonePulse zone edge => Sys2Proof.Machine.execZonePulse zone edge s
  | .zoneLoss zone => Sys2Proof.Machine.execZoneLoss zone s
  | .msPulse => Sys2Proof.Machine.execMsPulse s
  | .gameClockExpire => Sys2Proof.Machine.execGameClockExpire s
  | .possExpire => Sys2Proof.Machine.execPossExpire s
  | .hornExpire which => Sys2Proof.Machine.execHornExpire which s
  | .messageExpire place => Sys2Proof.Machine.execMessageExpire place s
  | .holdTimerExpire => Sys2Proof.Machine.execHoldTimerExpire s
  | .lineStart edge => Sys2Proof.Machine.execLineStart edge s
  | .lineStop line edge => Sys2Proof.Machine.execLineStop line edge s
  | .pcReset edge => Sys2Proof.Machine.execPcReset edge s
  | .clockConfig h refRate mode startSense stopSense threshold duration => Sys2Proof.Machine.execClockConfig h refRate mode startSense stopSense threshold duration s
  | .clockStart h => Sys2Proof.Machine.execClockStart h s
  | .clockStop h => Sys2Proof.Machine.execClockStop h s
  | .clockSet h value => Sys2Proof.Machine.execClockSet h value s
  | .clockAdjust h delta => Sys2Proof.Machine.execClockAdjust h delta s
  | .clockMode h mode => Sys2Proof.Machine.execClockMode h mode s
  | .breakOn h => Sys2Proof.Machine.execBreakOn h s
  | .breakOff h => Sys2Proof.Machine.execBreakOff h s
  | .possConfig h preset threshold stopGame sense duration => Sys2Proof.Machine.execPossConfig h preset threshold stopGame sense duration s
  | .possEnable h enabled => Sys2Proof.Machine.execPossEnable h enabled s
  | .possReset h => Sys2Proof.Machine.execPossReset h s
  | .possSet h value => Sys2Proof.Machine.execPossSet h value s
  | .horn h which action => Sys2Proof.Machine.execHorn h which action s
  | .scoreSet h side value => Sys2Proof.Machine.execScoreSet h side value s
  | .scoreAdd h side delta => Sys2Proof.Machine.execScoreAdd h side delta s
  | .fieldSet h field value => Sys2Proof.Machine.execFieldSet h field value s
  | .fieldAdd h field delta => Sys2Proof.Machine.execFieldAdd h field delta s
  | .recordFramePulse edge => Sys2Proof.Machine.execRecordFramePulse edge s
  | .recordArm h => Sys2Proof.Machine.execRecordArm h s
  | .recordStop h => Sys2Proof.Machine.execRecordStop h s
  | .clipIn h clipTag preRoll => Sys2Proof.Machine.execClipIn h clipTag preRoll s
  | .clipOut h => Sys2Proof.Machine.execClipOut h s
  | .clipFree h clip => Sys2Proof.Machine.execClipFree h clip s
  | .playerConfig h paceZone endMode partialSkip alertPolicy => Sys2Proof.Machine.execPlayerConfig h paceZone endMode partialSkip alertPolicy s
  | .cueClip h clip => Sys2Proof.Machine.execCueClip h clip s
  | .cueRange h first length => Sys2Proof.Machine.execCueRange h first length s
  | .cueClock h value length => Sys2Proof.Machine.execCueClock h value length s
  | .play h => Sys2Proof.Machine.execPlay h s
  | .pause h => Sys2Proof.Machine.execPause h s
  | .step h => Sys2Proof.Machine.execStep h s
  | .rate h newRate => Sys2Proof.Machine.execRate h newRate s
  | .stop h => Sys2Proof.Machine.execStop h s
  | .panelStart h panel => Sys2Proof.Machine.execPanelStart h panel s
  | .panelStop h panel => Sys2Proof.Machine.execPanelStop h panel s
  | .panelHold h panel => Sys2Proof.Machine.execPanelHold h panel s
  | .panelForce h panel entry frames => Sys2Proof.Machine.execPanelForce h panel entry frames s
  | .queueConfig h paceZone width speed gap scale high low holdTime margin finalNotice => Sys2Proof.Machine.execQueueConfig h paceZone width speed gap scale high low holdTime margin finalNotice s
  | .msgOpen h id cls length repeats lifetime colour sponsor => Sys2Proof.Machine.execMsgOpen h id cls length repeats lifetime colour sponsor s
  | .msgText h id offset count codes => Sys2Proof.Machine.execMsgText h id offset count codes s
  | .msgPost h id => Sys2Proof.Machine.execMsgPost h id s
  | .msgWithdraw h id => Sys2Proof.Machine.execMsgWithdraw h id s

end Sys2Proof.Machine
end

