-- ==== Sys2Proof/Machine/Step.lean ====
section
/-! DEFINITION. One step of the part: the command at the front of the queue, or one REFCLK cycle when none
waits. -/

namespace Sys2Proof.Machine

/-- The part's own time: one REFCLK cycle, unless RESET_N is asserted (R103; assumption log 2). -/
def idle (s : State) : State := whileRunning refclkCycle s

/-- The command at the front of the queue acts on the state with the queue's rest; on an empty queue a REFCLK
cycle passes. -/
def step (s : State) : Host.Outcome State Fault Refusal :=
  match s.pending with
  | [] => .next (idle s)
  | c :: rest => exec c (s.withPending rest)

/-- `s` with the command a table word spells in front of its queue: the table's rows give no bits, so that
no word spells one. -/
def State.withFetchWord (s : State) (nbits w : Nat) : State :=
  match Sys2Proof.decodeTableWord nbits w with
  | some c => s.withPending (c :: s.pending)
  | none => s

end Sys2Proof.Machine
end

