-- ==== Sys2Proof/Safety.lean ====
section
/-! DEFINITION. The terms claims are made in: the report path apart from the rest of the state, the reports a
command or an event generates, and the invariants every step keeps. -/

namespace Sys2Proof.Machine

/-! ## The report path -/

/-- What the travel of a report changes (R26 to R28), and nothing else does: the report queue, the LOST flag,
next entry N with its lap, and the report write queue. -/
structure ReportPath where
  queue : List Report
  lost : Bool
  nextEntry : BitVec 6
  oddLap : Bool
  reportWrites : List ReportWrite
deriving DecidableEq, Repr

def State.reportPath (s : State) : ReportPath :=
  { queue := s.cmd.queue, lost := s.cmd.lost, nextEntry := s.cmd.nextEntry,
    oddLap := s.cmd.oddLap, reportWrites := s.bus.reportWrites }

def State.withReportPath (s : State) (p : ReportPath) : State :=
  (s.withBus { s.bus with reportWrites := p.reportWrites }).withCmd
    { s.cmd with queue := p.queue, lost := p.lost, nextEntry := p.nextEntry, oddLap := p.oddLap }

/-- The report path with nothing on it. -/
def ReportPath.blank : ReportPath :=
  { queue := [], lost := false, nextEntry := 0, oddLap := false, reportWrites := [] }

/-- The state but for the report path. -/
def State.sansReports (s : State) : State := s.withReportPath .blank

/-! ## Reports generated -/

/-- Reports generated one after another (R27). -/
def State.offer (s : State) (rs : List Report) : State := rs.foldl (fun t r => enqueue r t) s

/-- A report of kind `kind`, code 0, with the uptime of `s` (R27, R43). -/
def State.report (s : State) (unit : UnitId) (tag : BitVec 16) (kind : ReportKind) (subject : Nat)
    (payload : List Byte) : Report :=
  { kind := kind, code := 0, lastOfTable := false, more := false, unit := unit, tag := tag,
    subject := subject, uptime := s.timing.uptime, payload := payload }

/-- The DONE of a command (R24): code CLAMPED or OK, the command's tag, its code as subject. -/
def State.doneReport (s : State) (code : Nat) (unit : UnitId) (h : Header) (clamped : Bool)
    (payload : List Byte) (atEnd : Bool) : Report :=
  { kind := .done, code := if clamped then 1 else 0, lastOfTable := atEnd, more := false,
    unit := unit, tag := h.tag, subject := code, uptime := s.timing.uptime, payload := payload }

/-- The state after an acknowledgement with DONE, which QUIET suppresses (R24). -/
def State.done (s : State) (code : Nat) (unit : UnitId) (h : Header) (clamped : Bool)
    (payload : List Byte) (atEnd : Bool := false) : State :=
  s.offer (if h.quiet then [] else [s.doneReport code unit h clamped payload atEnd])

/-- The state after a refusal (R24): REFUSED is generated, QUIET or not, and nothing else happens. -/
def State.refuse (s : State) (code : Nat) (unit : UnitId) (h : Header) (why : RefusalCode) : State :=
  s.offer
    [{ kind := .refused, code := why.number, lastOfTable := false, more := false, unit := unit,
       tag := h.tag, subject := code, uptime := s.timing.uptime, payload := [] }]

/-- RESET_N is released. -/
def State.Running (s : State) : Prop := s.pins.resetAsserted = false

/-- `c` is a host command: it has a command record. -/
def IsHostCommand (c : Instr) : Prop := (encodeRecord c).isSome = true

/-- The entries of a table (section 2.5); 0 for a table id that is none. -/
def tableSize : Nat → Nat
  | 1 => 4
  | 2 => 16
  | 3 => 16
  | 4 => 3072
  | 5 => 48
  | 6 => 8
  | 7 => 128
  | 8 => 8
  | 9 => 256
  | 10 => 1
  | 11 => 4
  | 12 => 1024
  | 13 => 32
  | 14 => 64
  | 15 => 1
  | _ => 0

/-- The block of a blocked table (section 2.5), 0 for an unblocked one. -/
def tableBlock : Nat → Nat
  | 4 => 24
  | 5 => 12
  | 9 => 32
  | _ => 0

/-! ## Invariants -/

/-- Chapter 6: every value in its range, a RUNNING clock startable, an EXPIRED one at its limit (R103, R105,
R106, R116, R117, R119, R123). -/
structure TimingUnit.Lawful (t : TimingUnit) : Prop where
  rate : 1000000 ≤ t.refRate ∧ t.refRate ≤ 50000000
  accumulator : t.accumulator < t.refRate
  value : t.value ≤ 5999000
  running : t.state = .running → startable t.mode t.value = true
  expired : t.state = .expired → t.value = clockLimit t.mode
  threshold : t.threshold ≤ 100000
  possession : t.possValue ≤ 99000 ∧ t.possThreshold ≤ 99000
  preset : 1000 ≤ t.possPreset ∧ t.possPreset ≤ 99000
  durations : 100 ≤ t.hornG.duration ∧ t.hornG.duration ≤ 5000 ∧ 100 ≤ t.hornP.duration ∧
    t.hornP.duration ≤ 5000
  sounding : t.hornG.remaining ≤ 5000 ∧ t.hornP.remaining ≤ 5000
  marks : ∀ i, (t.marks.get i).value ≤ 5999000 ∧
    ((t.marks.get i).action = .moment → (t.marks.get i).panel < 8 ∧ (t.marks.get i).entry < 128)
  score : t.home ≤ 999 ∧ t.guest ≤ 999 ∧ ∀ i, t.fields.get i ≤ 99

/-- Chapter 1: no queue beyond its capacity, no report write waiting past 64 grants, every SYNTH entry
COMPLETE (R10, R11, R14, R16, R17). -/
structure BusPath.Lawful (b : BusPath) : Prop where
  forward : b.forward.length ≤ 16
  responses : b.responses.length ≤ 32
  mirrors : b.mirrors.length ≤ 32
  reportWrites : b.reportWrites.length ≤ 2
  wait : b.waitCount ≤ 64
  idleWait : b.reportWrites = [] → b.waitCount = 0
  synth : ∀ e ∈ b.responses, e.kind = .synth → e.complete = true

/-- Section 2.4: at most 8 reports wait; the written and the moved entries make up the unacknowledged ones;
the report writes are for P and the entry after it; and no report waits that could move (R26 to R29). -/
structure State.RingLawful (s : State) : Prop where
  queue : s.cmd.queue.length ≤ 8
  accounted : (s.cmd.producer - s.cmd.consumer).toNat + s.bus.reportWrites.length =
    (s.cmd.nextEntry - s.cmd.consumer).toNat
  inOrder : ∀ k (hk : k < s.bus.reportWrites.length),
    (s.bus.reportWrites[k]).entry = s.cmd.producer + BitVec.ofNat 6 k
  settled : s.canMove = false

/-- Chapter 3: an enabled zone has a usable geometry; a frame is open in SCANNING alone, and its coverage
holds lines of the zone, each once (R45, R47, R48, R53, R55). -/
structure Zone.Lawful (z : Zone) : Prop where
  geometry : z.state ≠ .idle → 1 ≤ z.lines ∧ 1 ≤ z.width ∧
    z.base + z.lines * z.pitch ≤ 0x1000000000
  closed : z.state ≠ .scanning → z.coverage = [] ∧ z.lossTimer = none
  opened : z.state = .scanning → z.lossTimer.isSome = true
  coverage : z.coverage.Nodup ∧ ∀ l ∈ z.coverage, l < z.lines

/-- Chapter 4: a zone takes and holds windows of that zone alone, and its active set holds each window taken, of no
greater height or width; an enabled window has a height and a width; ALERT windows are OPAQUE; a clear and served
record is kept for an open frame alone (R62, R63, R64, R66, R67, R68, R82). -/
structure State.WindowsLawful (s : State) : Prop where
  ofZone : ∀ z i w, (s.comp.active.get z).get i = some w → w.zone = z
  takenOfZone : ∀ z i w, (s.comp.taken.get z).get i = some w → w.zone = z
  held : ∀ z i, ((s.comp.active.get z).get i).isSome = ((s.comp.taken.get z).get i).isSome
  clipped : ∀ z i v, (s.comp.taken.get z).get i = some v →
    ∀ w, (s.comp.active.get z).get i = some w →
      w = { v with height := w.height, width := w.width } ∧ w.height ≤ v.height ∧ w.width ≤ v.width
  extents : ∀ i, (s.comp.staged.get i).enabled = true →
    1 ≤ (s.comp.staged.get i).height ∧ 1 ≤ (s.comp.staged.get i).width
  takenExtents : ∀ z i w, (s.comp.taken.get z).get i = some w → w.enabled = true →
    1 ≤ w.height ∧ 1 ≤ w.width
  alertOpaque : ∀ i, (s.comp.staged.get i).kind = .alert → (s.comp.staged.get i).render = .opaqueCells
  records : ∀ z, (s.zone z).state ≠ .scanning → s.comp.frameRecord.get z = none

/-- The law of holds (R138). -/
def Capture.HoldsLawful (c : Capture) : Prop := c.heldCount ≤ c.source.slotCount - 1

/-- The capture chain (R132, R134): the slots that are not EMPTY, each once, joined by their next and previous links from
the oldest to the newest; the newest is WRITING exactly while the recorder is RECORDING, and nothing holds it; slots at
or above the slot count are EMPTY. -/
structure Capture.ChainLawful (c : Capture) : Prop where
  chain : ∃ l : List (Fin 1024), l.Nodup ∧ (∀ k, k ∈ l ↔ (c.slots.get k).state ≠ .empty) ∧
    c.oldest = l.head? ∧ c.newest = l.getLast? ∧
    ∀ i k, l[i]? = some k → (c.slots.get k).next = l[i + 1]? ∧
      (c.slots.get k).previous = if i = 0 then none else l[i - 1]?
  writing : ∀ k, (c.slots.get k).state = .writing ↔ c.recorder = .recording ∧ c.newest = some k
  recording : c.recorder = .recording → c.newest ≠ none
  unheld : ∀ k, (c.slots.get k).state = .writing → (c.slots.get k).held = false
  count : c.source.slotCount ≤ 1024 ∧ (c.recorder ≠ .off → 1 ≤ c.source.slotCount)
  within : ∀ k, c.source.slotCount ≤ k.val → (c.slots.get k).state = .empty

/-- Chapter 8: the ranges of the player record; it has a source in every state but IDLE, and a pause cause and a
pending step in PAUSED alone (R146, R157, R160). -/
structure Player.Lawful (p : Player) : Prop where
  rate : 1 ≤ p.rate ∧ p.rate ≤ 32
  source : p.state = .idle ∨ 1 ≤ p.length
  absent : p.first = none ↔ p.length = 0
  position : p.position ≤ 16 * p.length + 31
  shown : p.shownPosition ≤ 16 * p.length + 31
  cause : p.state ≠ .paused → p.cause = .none
  step : p.stepPending = true → p.state = .paused

/-- Chapter 9: the saved fields are in use in MOMENT alone, a moment never saves a moment, and a STOPPED panel
shows nothing (R165, R171, R173, R176). -/
structure Panel.Lawful (p : Panel) : Prop where
  saved : p.state ≠ .moment → p.savedState = .stopped ∧ p.savedEntry = none ∧ p.savedProgress = 0
  notNested : p.savedState ≠ .moment
  savedStopped : p.savedState = .stopped → p.savedEntry = none ∧ p.savedProgress = 0
  stopped : p.state = .stopped → p.shown = none ∧ p.count = 0
  list : p.listLength ≤ 32

/-- Section 10.8: the low mark lies below the high mark, the margin below the hold time; a RELEASED store
stands below the high mark and a HOLDING one above the low mark, its timer not run out (R183, R196,
R197). -/
structure MessageUnit.HoldLawful (u : MessageUnit) : Prop where
  marks : u.config.low < u.config.high
  times : u.config.margin < u.config.holdTime
  released : u.hold = none → u.occupancy < u.config.high
  holding : ∀ t, u.hold = some t → u.config.low < u.occupancy ∧ 1 ≤ t

/-- Every field of the queue configuration in its range (R183). -/
structure QueueConfig.InRange (c : QueueConfig) : Prop where
  width : 16 ≤ c.width ∧ c.width ≤ 16384
  speed : 1 ≤ c.speed ∧ c.speed ≤ 16
  gap : c.gap ≤ 4095
  scale : 1 ≤ c.scale ∧ c.scale ≤ 8
  high : 1 ≤ c.high ∧ c.high ≤ 64
  holdTime : 2 ≤ c.holdTime ∧ c.holdTime ≤ 600

/-- The fields of a message in their ranges (R184, R186); one that is not on the crawl has travelled nothing and is
neither expiring nor withdrawing (R189, R191, R193, R194). -/
structure Message.Lawful (m : Message) : Prop where
  length : 1 ≤ m.length ∧ m.length ≤ 160
  repeats : 1 ≤ m.repeats ∧ m.repeats ≤ 15
  lifetime : 1 ≤ m.lifetime ∧ m.lifetime ≤ 3600
  waiting : m.state = .assembling ∨ m.state = .queued →
    m.travel = 0 ∧ m.expiring = false ∧ m.withdrawing = false

/-- The law of the message store and the crawl (R184, R185, R188, R190 to R193): no two messages have one id; a message is
LEAD or FOLLOW exactly at the place that the crawl names, so that at most two are, and FOLLOW stands behind a LEAD, no
further on than it; no message travels further than the widest strip and message; each class queue holds exactly the
QUEUED messages of its class, each once. -/
structure MessageUnit.StoreLawful (u : MessageUnit) : Prop where
  config : u.config.InRange
  messages : ∀ i m, u.store.get i = some m → m.Lawful
  ids : ∀ i j m n, u.store.get i = some m → u.store.get j = some n → m.id = n.id → i = j
  lead : ∀ i, u.lead = some i ↔ ∃ m, u.store.get i = some m ∧ m.state = .lead
  follow : ∀ i, u.follow = some i ↔ ∃ m, u.store.get i = some m ∧ m.state = .follow
  behind : ∀ j, u.follow = some j → ∃ i, u.lead = some i ∧ ∀ m n,
    u.store.get i = some m → u.store.get j = some n → n.travel ≤ m.travel
  travel : ∀ i m, u.store.get i = some m → m.travel < 16384 + 160 * 16 * 8
  queued : ∀ c i, i ∈ u.queue c ↔ ∃ m, u.store.get i = some m ∧ m.state = .queued ∧ m.cls = c
  once : ∀ c, (u.queue c).Nodup

/-- Everything at once. -/
structure State.Lawful (s : State) : Prop where
  timing : s.timing.Lawful
  bus : s.bus.Lawful
  ring : s.RingLawful
  zones : ∀ z, (s.zone z).Lawful
  windows : s.WindowsLawful
  holds : s.capture.HoldsLawful
  chain : s.capture.ChainLawful
  player : s.player.Lawful
  panels : ∀ p, (s.panel p).Lawful
  queueHold : s.message.HoldLawful
  store : s.message.StoreLawful

end Sys2Proof.Machine
end

