-- ==== Sys2Proof/Certificates/Slice0/Obligations.lean ====
section
/-! DEFINITION. The statements for the provers. Each names the rules it rests on; a statement of what a command
does gives the next state as the state before with the fields the rules name, and the reports generated
(`State.offer`, `State.done`, `State.refuse`), so that everything else is unchanged. -/

open Sys2Proof Sys2Proof.Machine

/-! ## The machine and its command records -/

/-- The command at the front of the queue runs on the state with the queue's rest. -/
def Obligations.StepRunsTheFrontCommand : Prop :=
  ∀ (c : Instr) (rest : List Instr) (s : State),
    step (s.withPending (c :: rest)) = exec c (s.withPending rest)

/-- R23, R43, R44. The record of every well-formed host command is 32 bytes long and decodes to that command, with
every operand at every value its field can hold. That the field number of FIELD_SET and FIELD_ADD is 1 byte is the
model's reading (assumption log 40). -/
def Obligations.HostCommandsRoundTrip : Prop :=
  ∀ (c : Instr) (record : List Byte), c.wellFormed = true → encodeRecord c = some record →
    record.length = 32 ∧ decodeRecord record = c

/-! ## Reports -/

/-- The numbers of the report kinds (R43). -/
def kindNumbers : List (ReportKind × Nat) :=
  [(.done, 0x01), (.refused, 0x02), (.entry, 0x03), (.counters, 0x04), (.counterHalf, 0x05),
   (.probe, 0x06), (.frame, 0x10), (.syncError, 0x11), (.lost, 0x12), (.regained, 0x13),
   (.alertChange, 0x18), (.stopped, 0x20), (.expired, 0x21), (.possExpired, 0x22), (.mark, 0x23),
   (.slotPartial, 0x30), (.clipLimit, 0x31), (.pausedByAlert, 0x38), (.entryFulfilled, 0x40),
   (.retired, 0x48), (.withdrawn, 0x49), (.queueHold, 0x4A)]

/-- The numbers of the units (R43). -/
def unitNumbers : List (UnitId × Nat) :=
  [(.busPath, 0), (.commandUnit, 1), (.zoneTiming, 2), (.compositor, 3), (.glyphRenderer, 4),
   (.timing, 5), (.capture, 6), (.player, 7), (.sponsor, 8), (.message, 9)]

/-- The numbers of the refusal codes (R43). -/
def refusalNumbers : List (RefusalCode × Nat) :=
  [(.unknown, 1), (.range, 2), (.state, 3), (.full, 4), (.duplicate, 5), (.absent, 6), (.locked, 7)]

/-- R43. Where each field of a report record lies, for a payload of at most 20 bytes and a subject of at most 2, and the
numbers of the kinds, the units and the refusal codes. That the bytes behind the payload are 0 is the model's choice
(assumption log 39). -/
def Obligations.ReportRecordLayout : Prop :=
  (∀ k : ReportKind, (k, k.number) ∈ kindNumbers) ∧ (∀ u : UnitId, (u, u.number) ∈ unitNumbers) ∧
  (∀ c : RefusalCode, (c, c.number) ∈ refusalNumbers) ∧
  ∀ (r : Report) (lost phase : Bool), r.payload.length ≤ 20 → r.subject < 65536 → r.code < 256 →
    (r.bytes lost phase).length = 32 ∧
    fieldAt 1 (r.bytes lost phase) 0 = r.kind.number ∧
    fieldAt 1 (r.bytes lost phase) 1 = r.code ∧
    (∀ k, (bitsAt 1 (r.bytes lost phase) 2).getLsbD k =
      (k = 0 && lost || k = 1 && r.lastOfTable || k = 2 && r.more || k = 3 && phase)) ∧
    fieldAt 1 (r.bytes lost phase) 3 = r.unit.number ∧
    bitsAt 2 (r.bytes lost phase) 4 = r.tag ∧
    fieldAt 2 (r.bytes lost phase) 6 = r.subject ∧
    bitsAt 4 (r.bytes lost phase) 8 = r.uptime ∧
    (r.bytes lost phase).drop 12 = r.payload ++ List.replicate (20 - r.payload.length) 0

/-- R27, R28. What becomes of a report that is generated: discarded with LOST set at a full queue; queued behind
others, or where the ring or the report write queue has no room; otherwise moved at once to ring entry N,
with LOST and PHASE as they stand. Nothing else changes. -/
def Obligations.ReportJoins : Prop :=
  ∀ (r : Report) (s : State),
    (8 ≤ s.cmd.queue.length → enqueue r s = s.withCmd { s.cmd with lost := true }) ∧
    (s.cmd.queue ≠ [] → s.cmd.queue.length < 8 →
      enqueue r s = s.withCmd { s.cmd with queue := s.cmd.queue ++ [r] }) ∧
    (s.cmd.queue = [] →
      63 ≤ (s.cmd.nextEntry - s.cmd.consumer).toNat ∨ 2 ≤ s.bus.reportWrites.length →
      enqueue r s = s.withCmd { s.cmd with queue := [r] }) ∧
    (s.cmd.queue = [] →
      (s.cmd.nextEntry - s.cmd.consumer).toNat < 63 → s.bus.reportWrites.length < 2 →
      enqueue r s =
        (s.withBus
          { s.bus with
            reportWrites := s.bus.reportWrites ++
              [{ entry := s.cmd.nextEntry, data := r.bytes s.cmd.lost (!s.cmd.oddLap) }] }).withCmd
          { s.cmd with
            lost := false
            nextEntry := s.cmd.nextEntry + 1
            oddLap := if s.cmd.nextEntry = 63 then !s.cmd.oddLap else s.cmd.oddLap })

/-- R27, R28. Moving goes on until a condition fails or the queue is empty: the first reports of the queue leave it in
order for the entries from N on, the first of them with LOST if the flag stood, which it clears, each with the PHASE of
the lap its entry lies on; the lap advances where N passes from 63 to 0, and nothing but the report path changes.
REPORT_MOVE takes the head report to entry N when the ring and the report write queue have room; with no report
waiting or no room it changes nothing (the model's choice, assumption log 6). -/
def Obligations.ReportsMoveInOrder : Prop :=
  (∀ s : State, ∃ moved : List Report,
    let t := moveReports s
    let n := s.cmd.nextEntry
    let oddAt := fun j => s.cmd.oddLap ^^ decide (64 ≤ n.toNat + j)
    s.cmd.queue = moved ++ t.cmd.queue ∧
    (t.cmd.queue = [] ∨ 63 ≤ (t.cmd.nextEntry - t.cmd.consumer).toNat ∨
      2 ≤ t.bus.reportWrites.length) ∧
    (moved ≠ [] → (n - s.cmd.consumer).toNat + moved.length ≤ 63 ∧
      s.bus.reportWrites.length + moved.length ≤ 2) ∧
    t.canMove = false ∧
    t.sansReports = s.sansReports ∧
    t.cmd.nextEntry = n + BitVec.ofNat 6 moved.length ∧
    t.cmd.lost = (s.cmd.lost && decide (moved = [])) ∧
    t.cmd.oddLap = oddAt moved.length ∧
    t.bus.reportWrites = s.bus.reportWrites ++ moved.mapIdx fun j r =>
      { entry := n + BitVec.ofNat 6 j, data := r.bytes (s.cmd.lost && decide (j = 0)) (!oddAt j) }) ∧
  (∀ s : State, s.Running →
    (s.cmd.queue = [] ∨ 63 ≤ (s.cmd.nextEntry - s.cmd.consumer).toNat ∨
        2 ≤ s.bus.reportWrites.length → exec .reportMove s = .next s) ∧
    (∀ r rest, s.cmd.queue = r :: rest →
      (s.cmd.nextEntry - s.cmd.consumer).toNat < 63 → s.bus.reportWrites.length < 2 →
      exec .reportMove s = .next
        ((s.withBus
          { s.bus with
            reportWrites := s.bus.reportWrites ++
              [{ entry := s.cmd.nextEntry, data := r.bytes s.cmd.lost (!s.cmd.oddLap) }] }).withCmd
          { s.cmd with
            queue := rest
            lost := false
            nextEntry := s.cmd.nextEntry + 1
            oddLap := if s.cmd.nextEntry = 63 then !s.cmd.oddLap else s.cmd.oddLap })))

/-- R30. REPORT_ACK moves C forward over written reports up to P, gives the report queue its chance to move and then
answers DONE; an index above 63 or beyond P is refused RANGE with C unchanged. ATTN is asserted while P differs from C
(R29), so that it is deasserted exactly by an index equal to P, and a refusal leaves it as it was. -/
def Obligations.ReportAck : Prop :=
  (∀ s : State, s.attn = true ↔ s.cmd.producer ≠ s.cmd.consumer) ∧
  ∀ (h : Header) (index : Byte) (s : State), s.Running →
    (index.toNat ≤ 63 →
      (index.toNat + 64 - s.cmd.consumer.toNat) % 64 ≤
        (s.cmd.producer.toNat + 64 - s.cmd.consumer.toNat) % 64 →
      exec (.reportAck h index) s = .next
        ((moveReports (s.withCmd { s.cmd with consumer := index.setWidth 6 })).done 0x02 .commandUnit
          h false []) ∧
      ∀ t, exec (.reportAck h index) s = .next t →
        t.cmd.consumer = index.setWidth 6 ∧ (t.attn = true ↔ s.cmd.producer ≠ index.setWidth 6)) ∧
    (63 < index.toNat ∨
      (s.cmd.producer.toNat + 64 - s.cmd.consumer.toNat) % 64 <
        (index.toNat + 64 - s.cmd.consumer.toNat) % 64 →
      exec (.reportAck h index) s = .next (s.refuse 0x02 .commandUnit h .range) ∧
      (s.refuse 0x02 .commandUnit h .range).attn = s.attn)

/-! ## The command unit -/

/-- R23, R41. NOP has no effect but its DONE; a code that is not in the list is refused UNKNOWN, with the command
unit's number (the model's reading, assumption log 20); a change of TABLE_LOCK changes the level of the line
alone. -/
def Obligations.NopUnknownAndLock : Prop :=
  ∀ (h : Header) (code : Byte) (level : Bool) (s : State),
    (s.Running → exec (.nop h) s = .next (s.done 0x01 .commandUnit h false [])) ∧
    (s.Running → exec (.commandUnknown h code) s =
      .next (s.refuse code.toNat .commandUnit h .unknown)) ∧
    exec (.tableLockChange level) s = .next (s.withPins { s.pins with tableLock := level })

/-- R32. SELECT places the pointer on any entry of any table; with a table other than WINDOW the view and the zone are
not checked. A table id that is none and, with WINDOW, a view that is neither STAGED nor ACTIVE are refused
UNKNOWN; an index beyond the table and, with the ACTIVE view, a zone above 3 RANGE; a refusal leaves the pointer.
That UNKNOWN comes before RANGE when both hold is the model's reading of R24 (assumption log 29). -/
def Obligations.SelectCommand : Prop :=
  ∀ (h : Header) (table : Byte) (index : BitVec 16) (view zone : Byte) (s : State), s.Running →
    (∀ p : Pointer, table.toNat = p.table → index.toNat = p.index →
      (∀ i, p = .stagedWindow i → view = 0) →
      (∀ z i, p = .activeWindow z i → view = 1 ∧ zone.toNat = z.val) →
      exec (.select h table index view zone) s =
        .next ((s.withCmd { s.cmd with pointer := p }).done 0x03 .commandUnit h false [])) ∧
    (table.toNat = 0 ∨ 15 < table.toNat ∨ (table = 2 ∧ 1 < view.toNat) →
      exec (.select h table index view zone) s = .next (s.refuse 0x03 .commandUnit h .unknown)) ∧
    (1 ≤ table.toNat → table.toNat ≤ 15 → (table = 2 → view.toNat ≤ 1) →
      tableSize table.toNat ≤ index.toNat →
      exec (.select h table index view zone) s = .next (s.refuse 0x03 .commandUnit h .range)) ∧
    (table = 2 → view = 1 → 3 < zone.toNat →
      exec (.select h table index view zone) s = .next (s.refuse 0x03 .commandUnit h .range))

/-- The table id of a pointer, its index and the owner of its table (section 2.5). -/
def tableFacts : Pointer → Nat × Nat × UnitId
  | .zone i => (1, i.val, .zoneTiming)
  | .stagedWindow i => (2, i.val, .compositor)
  | .activeWindow _ i => (2, i.val, .compositor)
  | .colour i => (3, i.val, .glyphRenderer)
  | .glyph i => (4, i.val, .glyphRenderer)
  | .layout i => (5, i.val, .glyphRenderer)
  | .alertText i => (6, i.val, .glyphRenderer)
  | .sponsor i => (7, i.val, .sponsor)
  | .panel i => (8, i.val, .sponsor)
  | .panelList i => (9, i.val, .sponsor)
  | .record => (10, 0, .capture)
  | .mark i => (11, i.val, .timing)
  | .slot i => (12, i.val, .capture)
  | .clip i => (13, i.val, .capture)
  | .message i => (14, i.val, .message)
  | .clock => (15, 0, .timing)

/-- R35. The step: to the next index; from the last index of an unblocked table of 16 entries or fewer to 0; from the
last index of any other table or of a block nowhere, so that the report carries END. A pointer into WINDOW keeps
its view, and with ACTIVE a zone. The table, the index and the owner of each pointer are those of section 2.5. -/
def Obligations.PointerSteps : Prop :=
  ∀ p : Pointer,
    (p.table, p.index, p.owner) = tableFacts p ∧
    p.step.table = p.table ∧ p.index < tableSize p.table ∧
    (let last := if tableBlock p.table = 0 then p.index + 1 = tableSize p.table
        else p.index % tableBlock p.table + 1 = tableBlock p.table
     (¬ last → p.step.index = p.index + 1 ∧ p.staysAtEnd = false) ∧
     (last → tableBlock p.table = 0 → tableSize p.table ≤ 16 →
        p.step.index = 0 ∧ p.staysAtEnd = false) ∧
     (last → tableBlock p.table ≠ 0 ∨ 16 < tableSize p.table →
        p.step = p ∧ p.staysAtEnd = true)) ∧
    (∀ z i, p = .activeWindow z i → ∃ j, p.step = .activeWindow z j) ∧
    (∀ i, p = .stagedWindow i → ∃ j, p.step = .stagedWindow j)

/-- The first or only ENTRY report of an EXAMINE under the header `h` (R33). -/
def entryAnswer (h : Header) (s : State) (atEnd more : Bool) (payload : List Byte) : Report :=
  { kind := .entry, code := s.cmd.pointer.table, lastOfTable := atEnd, more := more,
    unit := s.cmd.pointer.owner, tag := h.tag, subject := s.cmd.pointer.index,
    uptime := s.timing.uptime, payload := payload }

/-- Fields packed under R44: each in its width in bytes, in order, with no gaps. -/
def packed (fields : List (Nat × Nat)) : List Byte := fields.flatMap fun f => leBytes f.1 f.2

/-- An optional field of `w` bytes, absent as all ones (R44). -/
def orOnes {n : Nat} (w : Nat) (o : Option (Fin n)) : Nat × Nat :=
  (w, match o with
    | some i => i.val
    | none => 256 ^ w - 1)

/-- A yes/no field (R44). -/
def flag (b : Bool) : Nat × Nat := (1, if b then 1 else 0)

/-- The fields of an image (R163, R165). -/
def imageFields (i : Image) : List (Nat × Nat) :=
  [(5, i.base), (4, i.pitch), (2, i.lines), (2, i.width)]

/-- The fields of a window (R62). -/
def windowFields (w : Window) : List (Nat × Nat) :=
  [flag w.enabled, (1, w.kind.number), (1, w.zone.val), (2, w.top), (2, w.height), (2, w.left),
   (2, w.width), (1, w.binding.toNat), (1, w.render.number), (2, w.scale), (1, w.foreground.val),
   (1, w.background.val), (1, w.fill.val), (2, w.cropTop), (2, w.cropLeft)]

/-- The fields of the entry at a pointer with their widths, in packing order. R36, R45, R62, R87, R88, R94, R96, R105,
R119, R127, R132, R139, R163, R165, R166, R184. -/
def entryFields (s : State) : Pointer → List (Nat × Nat)
  | .zone i =>
    let z := s.zone i
    [flag (z.state != .idle), (5, z.base), (4, z.pitch), (2, z.lines), (2, z.width),
     (1, match z.sense with
      | .rising => 0
      | .falling => 1),
     (1, z.mode.number), (4, z.lossTimeout), (1, z.level.number), (1, z.state.number),
     (4, z.frameNumber.toNat), (2, z.coverage.length)]
  | .stagedWindow i => windowFields (s.comp.staged.get i)
  | .activeWindow z i =>
    match (s.comp.active.get z).get i with
    | some w => windowFields w
    | none => [(22, 0)]
  | .colour i => [(4, (s.glyph.colours.get i).toNat)]
  | .glyph i => [(2, (s.glyph.store.get i).toNat)]
  | .layout i =>
    let l := s.glyph.layouts.get i
    [flag l.enabled, (1, l.source.number), (1, l.column), (1, l.row), (1, l.digits), flag l.suppress,
     orOnes 1 l.colour]
  | .alertText i =>
    (List.finRange 20).map fun k => (1, (s.glyph.alertText.get ⟨20 * i.val + k.val, by omega⟩).val)
  | .sponsor i =>
    let e := s.entry i
    flag e.enabled :: imageFields e.image ++
      [(2, e.dwell), (4, e.target), (1, e.cls.number), flag e.fulfilled]
  | .panel i =>
    let p := s.panel i
    imageFields p.defaultImage ++
      [flag p.overrun, (1, p.listLength), (1, p.state.number), (1, p.position.val), orOnes 1 p.shown,
       (2, p.count), (1, p.savedState.number), orOnes 1 p.savedEntry, (2, p.savedProgress)]
  | .panelList i => [(1, (s.sponsor.lists.get i).val)]
  | .record =>
    let r := s.capture.source
    [(5, r.base), (4, r.pitch), (2, r.lines), (2, r.width),
     (1, match r.sense with
      | .rising => 0
      | .falling => 1),
     (5, r.ringBase), (2, r.slotCount), (4, r.stride), (1, r.mirrorMode.number),
     (1, s.capture.recorder.number)]
  | .mark i =>
    let m := s.timing.marks.get i
    [flag m.enabled, (4, m.value), (1, m.action.number), (1, m.panel), (1, m.entry), (2, m.frames),
     flag m.fired]
  | .slot k =>
    let t := s.slot k
    [(1, t.state.number), (4, t.captureNumber.toNat), orOnes 2 t.previous, orOnes 2 t.next,
     (1, t.clipHolds), flag t.playerHold, (4, t.clock), (1, t.verdict.number), (2, t.outstanding),
     (2, t.lines.length), flag t.dropped]
  | .clip i =>
    let c := s.capture.clips.get i
    [(1, c.state.number), (2, c.tag.toNat), orOnes 2 c.first, (2, c.length), (4, c.clock)]
  | .message i =>
    match s.message.store.get i with
    | none => [(3, 0), (1, 4), (20, 0)]
    | some m =>
      [(2, m.id.toNat), (1, m.cls.number), (1, m.state.number), (2, m.length), (2, m.repeats),
       (2, m.lifetime), (4, m.expiry.toNat), orOnes 1 m.colour, orOnes 1 m.sponsor,
       (4, m.order.toNat), (2, m.travel), flag m.expiring, flag m.withdrawing]
  | .clock =>
    let u := s.timing
    [(1, u.state.number), (1, u.mode.number), (1, u.inputMode.number), flag u.breakFlag, (4, u.value),
     (4, u.captured), flag u.possEnabled, (4, u.possValue), flag s.hornGLine, flag s.hornPLine,
     (2, u.home), (2, u.guest)] ++ (List.finRange 8).map fun i => (2, u.fields.get i)

/-- The packed length of the entries of a table. R45, R62, R87, R88, R94, R96, R105, R119, R127, R132, R139, R163, R165,
R166, R184. -/
def entrySize : Nat → Nat
  | 1 => 28
  | 2 => 22
  | 3 => 4
  | 4 => 2
  | 5 => 7
  | 6 => 20
  | 7 => 22
  | 8 => 24
  | 9 => 1
  | 10 => 27
  | 11 => 11
  | 12 => 21
  | 13 => 11
  | 14 => 24
  | _ => 39

/-- The named values are numbered from 0 in the order of `l`, which has each of them (R44). -/
def NumberedAs {α : Type} (number : α → Nat) (l : List α) : Prop := ∀ x, l[number x]? = some x

/-- A number is read as the named value it stands for, and as none where it stands for none. -/
def ReadsNumbers {α : Type} (read : Nat → Option α) (l : List α) : Prop := ∀ n, read n = l[n]?

/-- The numbers of the named values that a record carries (R44), as the chapters list them. -/
def NamedValues : Prop :=
  NumberedAs yesNo [false, true] ∧ NumberedAs edgeNumber [.rising, .falling] ∧
  NumberedAs PulseMode.number [.restart, .ignoreEarly] ∧
  NumberedAs ReportLevel.number [.none, .errors, .everyFrame] ∧
  NumberedAs ZoneState.number [.idle, .waiting, .scanning, .lost] ∧
  NumberedAs WindowKind.number [.replay, .sponsor, .crawl, .score, .clock, .alert] ∧
  NumberedAs Render.number [.keyed, .opaqueCells] ∧
  NumberedAs ScoreSource.number
    ([.home, .guest] ++ (List.finRange 8).map ScoreSource.field) ∧
  NumberedAs ClockMode.number [.down, .up] ∧
  NumberedAs ClockState.number [.stopped, .running, .expired] ∧
  NumberedAs InputMode.number [.edgePair, .level] ∧
  NumberedAs MarkAction.number [.report, .reportHorn, .moment] ∧
  NumberedAs RecorderState.number [.off, .armed, .recording] ∧
  NumberedAs MirrorMode.number [.stall, .drop] ∧
  NumberedAs SlotState.number [.empty, .writing, .settling, .complete, .partialState] ∧
  NumberedAs Verdict.number [.none, .complete, .partialVerdict] ∧
  NumberedAs ClipState.number [.free, .opened, .closing, .closed] ∧
  NumberedAs PlayerState.number [.idle, .cued, .playing, .paused, .ended] ∧
  NumberedAs PauseCause.number [.none, .command, .alert] ∧
  NumberedAs EndMode.number [.hold, .loop] ∧
  NumberedAs AlertPolicy.number [.pause, .finish, .free] ∧
  NumberedAs EntryClass.number [.any, .live, .duringBreak] ∧
  NumberedAs PanelState.number [.stopped, .rotating, .held, .moment] ∧
  NumberedAs MsgClass.number [.announce, .featured, .fan] ∧
  NumberedAs MsgState.number [.assembling, .queued, .lead, .follow]

/-- How the named values of an operand are read (R44); a number that names none is refused UNKNOWN (R23). -/
def NamedValuesRead : Prop :=
  ReadsNumbers yesNo? [false, true] ∧ ReadsNumbers edge? [.rising, .falling] ∧
  ReadsNumbers lineSense? [some .rising, some .falling, none] ∧
  ReadsNumbers pulseMode? [.restart, .ignoreEarly] ∧
  ReadsNumbers reportLevel? [.none, .errors, .everyFrame] ∧
  ReadsNumbers windowKind? [.replay, .sponsor, .crawl, .score, .clock, .alert] ∧
  ReadsNumbers render? [.keyed, .opaqueCells] ∧
  ReadsNumbers scoreSource? ([.home, .guest] ++ (List.finRange 8).map ScoreSource.field) ∧
  ReadsNumbers clockMode? [.down, .up] ∧ ReadsNumbers inputMode? [.edgePair, .level] ∧
  ReadsNumbers markAction? [.report, .reportHorn, .moment] ∧
  ReadsNumbers mirrorMode? [.stall, .drop] ∧ ReadsNumbers endMode? [.hold, .loop] ∧
  ReadsNumbers alertPolicy? [.pause, .finish, .free] ∧
  ReadsNumbers entryClass? [.any, .live, .duringBreak] ∧
  ReadsNumbers msgClass? [.announce, .featured, .fan]

/-- R33, R27, R36, R44. EXAMINE posts the entry at the pointer, its fields packed in order, in one ENTRY report, or, where
they exceed 20 bytes, in two of which the first carries 20 bytes and MORE and which join as a pair or not at all,
and steps the pointer. The named values of a record carry the numbers their chapters give, and are read by them. -/
def Obligations.ExamineAnswers : Prop :=
  NamedValues ∧ NamedValuesRead ∧
  ∀ (h : Header) (s : State), s.Running →
    let bytes := s.entryBytes s.cmd.pointer
    let atEnd := s.cmd.pointer.staysAtEnd
    let stepped := fun t : State => t.withCmd { t.cmd with pointer := s.cmd.pointer.step }
    bytes.length = entrySize s.cmd.pointer.table ∧
    bytes = packed (entryFields s s.cmd.pointer) ∧
    (entrySize s.cmd.pointer.table ≤ 20 → exec (.examine h) s =
      .next (stepped (s.offer [entryAnswer h s atEnd false bytes]))) ∧
    (20 < entrySize s.cmd.pointer.table → s.cmd.queue.length ≤ 6 → exec (.examine h) s =
      .next (stepped (s.offer [entryAnswer h s false true (bytes.take 20),
        entryAnswer h s atEnd false (bytes.drop 20)]))) ∧
    (20 < entrySize s.cmd.pointer.table → 6 < s.cmd.queue.length → exec (.examine h) s =
      .next (stepped (s.withCmd { s.cmd with lost := true })))

/-! ## Deposits -/

/-- An accepted DEPOSIT (R34, R35): `t` is the state written, the pointer steps, and DONE carries END when the step
leaves it in place. -/
def deposited (h : Header) (s t : State) (clamped : Bool) : State :=
  (t.withCmd { t.cmd with pointer := s.cmd.pointer.step }).done 0x05 .commandUnit h clamped []
    s.cmd.pointer.staysAtEnd

/-- A refused DEPOSIT (R34): nothing is written and the pointer stays. -/
def depositRefused (h : Header) (s : State) (why : RefusalCode) : State :=
  s.refuse 0x05 .commandUnit h why

/-- Pitch under R46. -/
def pitchOf (p : Nat) : Nat := if p = 0 then 64 else min 65536 ((p + 63) / 64 * 64)

/-- R34. DEPOSIT is refused STATE at SLOT, CLIP, MESSAGE and CLOCK and, when its named values are defined, at the ACTIVE
view of WINDOW. An operand list of another length than 28 is no command record; that it faults is the model's
choice (assumption log 27), and that UNKNOWN comes before STATE at the ACTIVE view its reading (assumption
log 14). -/
def Obligations.ReadOnlyTablesRefuse : Prop :=
  ∀ (h : Header) (o : List Byte) (s : State), s.Running →
    (o.length ≠ 28 → exec (.deposit h o) s = .fault .illFormed) ∧
    (o.length = 28 →
      (∃ k, s.cmd.pointer = .slot k) ∨ (∃ k, s.cmd.pointer = .clip k) ∨
        (∃ k, s.cmd.pointer = .message k) ∨ s.cmd.pointer = .clock ∨
        (∃ z i, s.cmd.pointer = .activeWindow z i) ∧ (readWindow o).isSome = true →
      exec (.deposit h o) s = .next (depositRefused h s .state))

/-- R87, R88, R96, R44. DEPOSIT into GLYPH and COLOUR writes any value; into ALERT_TEXT it writes the 20 codes of half a
line, refused RANGE when one is above 127. DONE and REFUSED carry the command unit's number (the model's reading,
assumption log 37). -/
def Obligations.RendererDeposits : Prop :=
  ∀ (h : Header) (o : List Byte) (s : State), s.Running → o.length = 28 →
    (∀ i, s.cmd.pointer = .glyph i → exec (.deposit h o) s = .next (deposited h s
      (s.withGlyph { s.glyph with store := s.glyph.store.set i (bitsAt 2 o 0) }) false)) ∧
    (∀ i, s.cmd.pointer = .colour i → exec (.deposit h o) s = .next (deposited h s
      (s.withGlyph { s.glyph with colours := s.glyph.colours.set i (bitsAt 4 o 0) }) false)) ∧
    (∀ i, s.cmd.pointer = .alertText i →
      ((∀ b ∈ o.take 20, b.toNat < 128) → ∃ text : Tab Code 160,
        exec (.deposit h o) s = .next (deposited h s
          (s.withGlyph { s.glyph with alertText := text }) false) ∧
        ∀ k : Fin 160, (text.get k).val =
          if 20 * i.val ≤ k.val ∧ k.val < 20 * i.val + 20 then
            fieldAt 1 o (k.val - 20 * i.val)
          else (s.glyph.alertText.get k).val) ∧
      ((∃ b ∈ o.take 20, 128 ≤ b.toNat) →
        exec (.deposit h o) s = .next (depositRefused h s .range)))

/-- R94, R119. DEPOSIT into LAYOUT writes the item, its digits brought into 1 to 3, and refuses a colour index of 16 to 254
RANGE; DEPOSIT into MARK writes the mark and re-arms it, and checks panel and entry with action MOMENT alone. DONE
and REFUSED carry the command unit's number (the model's reading, assumption log 37). -/
def Obligations.LayoutAndMarkDeposits : Prop :=
  (∀ (h : Header) (o : List Byte) (i : Fin 48) (s : State), s.Running → o.length = 28 →
    s.cmd.pointer = .layout i →
    (1 < fieldAt 1 o 0 ∨ 9 < fieldAt 1 o 1 ∨ 1 < fieldAt 1 o 5 →
      exec (.deposit h o) s = .next (depositRefused h s .unknown)) ∧
    (∀ enabled source suppress, yesNo? (fieldAt 1 o 0) = some enabled →
      scoreSource? (fieldAt 1 o 1) = some source → yesNo? (fieldAt 1 o 5) = some suppress →
      (16 ≤ fieldAt 1 o 6 → fieldAt 1 o 6 ≤ 254 →
        exec (.deposit h o) s = .next (depositRefused h s .range)) ∧
      (∀ colour : Option (Fin 16), (∀ k, colour = some k → fieldAt 1 o 6 = k.val) →
        (colour = none → fieldAt 1 o 6 = 255) →
        exec (.deposit h o) s = .next (deposited h s
          (s.withGlyph { s.glyph with
            layouts := s.glyph.layouts.set i
              { enabled := enabled, source := source, column := fieldAt 1 o 2,
                row := fieldAt 1 o 3, digits := max 1 (min 3 (fieldAt 1 o 4)),
                suppress := suppress, colour := colour } })
          (decide (fieldAt 1 o 4 = 0 ∨ 3 < fieldAt 1 o 4)))))) ∧
  (∀ (h : Header) (o : List Byte) (i : Fin 4) (s : State), s.Running → o.length = 28 →
    s.cmd.pointer = .mark i →
    (1 < fieldAt 1 o 0 ∨ 2 < fieldAt 1 o 5 →
      exec (.deposit h o) s = .next (depositRefused h s .unknown)) ∧
    (∀ enabled action, yesNo? (fieldAt 1 o 0) = some enabled →
      markAction? (fieldAt 1 o 5) = some action →
      (action = .moment → 7 < fieldAt 1 o 6 ∨ 127 < fieldAt 1 o 7 →
        exec (.deposit h o) s = .next (depositRefused h s .range)) ∧
      ((action = .moment → fieldAt 1 o 6 ≤ 7 ∧ fieldAt 1 o 7 ≤ 127) →
        exec (.deposit h o) s = .next (deposited h s
          (s.withTiming { s.timing with
            marks := s.timing.marks.set i
              { enabled := enabled, value := min 5999000 (fieldAt 4 o 1), action := action,
                panel := fieldAt 1 o 6, entry := fieldAt 1 o 7, frames := max 1 (fieldAt 2 o 8),
                fired := false } })
          (decide (5999000 < fieldAt 4 o 1 ∨ fieldAt 2 o 8 = 0))))))

/-- R46, R47, R48. DEPOSIT into ZONE: the adjustments, the three conditions in order, and the state the enabled field
leads to; a zone that goes to IDLE keeps no open frame and its clear and served record is dropped. That an enabled
field above 1 is UNKNOWN (assumption log 12) and that an address fault comes before R47's conditions (assumption
log 13) are the model's readings. -/
def Obligations.ZoneDepositRules : Prop :=
  ∀ (h : Header) (o : List Byte) (i : Fin 4) (s : State), s.Running → o.length = 28 →
    s.cmd.pointer = .zone i →
    (1 < fieldAt 1 o 0 ∨ 1 < fieldAt 1 o 14 ∨ 1 < fieldAt 1 o 15 ∨ 2 < fieldAt 1 o 20 →
      exec (.deposit h o) s = .next (depositRefused h s .unknown)) ∧
    (∀ enabled sense mode level, yesNo? (fieldAt 1 o 0) = some enabled →
      edge? (fieldAt 1 o 14) = some sense → pulseMode? (fieldAt 1 o 15) = some mode →
      reportLevel? (fieldAt 1 o 20) = some level →
      let z := s.zone i
      let base := fieldAt 5 o 1 / 64 * 64
      let pitch := pitchOf (fieldAt 4 o 6)
      let lines := min 4096 (fieldAt 2 o 10)
      let width := min (pitch / 64) (fieldAt 2 o 12)
      let timeout := max 10 (min 1000 (fieldAt 4 o 16))
      let moves := z.state ≠ .idle ∧ enabled = true ∧
        ¬ (base = z.base ∧ pitch = z.pitch ∧ lines = z.lines ∧ width = z.width)
      let unusable := enabled = true ∧ (lines = 0 ∨ width = 0 ∨ 0x1000000000 < base + lines * pitch)
      let clamped := decide (¬ (base = fieldAt 5 o 1 ∧ pitch = fieldAt 4 o 6 ∧
        lines = fieldAt 2 o 10 ∧ width = fieldAt 2 o 12 ∧ timeout = fieldAt 4 o 16))
      (0x1000000000 ≤ fieldAt 5 o 1 →
        exec (.deposit h o) s = .next (depositRefused h s .range)) ∧
      (fieldAt 5 o 1 < 0x1000000000 → moves →
        exec (.deposit h o) s = .next (depositRefused h s .state)) ∧
      (fieldAt 5 o 1 < 0x1000000000 → ¬ moves → unusable →
        exec (.deposit h o) s = .next (depositRefused h s .range)) ∧
      (fieldAt 5 o 1 < 0x1000000000 → ¬ moves → ¬ unusable → enabled = true →
        exec (.deposit h o) s = .next (deposited h s
          (s.setZone i
            { z with
              state := if z.state = .idle then .waiting else z.state
              base := base, pitch := pitch, lines := lines, width := width, sense := sense,
              mode := mode, lossTimeout := timeout, level := level
              coverage := if z.state = .idle then [] else z.coverage
              lossTimer := if z.state = .idle then none else z.lossTimer }) clamped)) ∧
      (fieldAt 5 o 1 < 0x1000000000 → enabled = false →
        exec (.deposit h o) s = .next (deposited h s
          ((s.setZone i
            { z with
              state := .idle, base := base, pitch := pitch, lines := lines, width := width,
              sense := sense, mode := mode, lossTimeout := timeout, level := level, coverage := [],
              lossTimer := none }).withComp
            { s.comp with frameRecord := s.comp.frameRecord.set i none }) clamped)))

/-- R63, R64. DEPOSIT into a staged WINDOW: refusals in order, the ranges of the geometry, and the cut to a zone that the
rectangle's corner lies in. A corner outside on either side leaves the rectangle as deposited (R64; the model's
reading for one side alone, assumption log 15); an enabled field above 1 is UNKNOWN (the model's reading,
assumption log 12). -/
def Obligations.WindowDepositRules : Prop :=
  ∀ (h : Header) (o : List Byte) (i : Fin 16) (s : State), s.Running → o.length = 28 →
    s.cmd.pointer = .stagedWindow i →
    (1 < fieldAt 1 o 0 ∨ 5 < fieldAt 1 o 1 ∨ 1 < fieldAt 1 o 12 ∨
        (fieldAt 1 o 1 = 4 ∧ 1 < fieldAt 1 o 11) →
      exec (.deposit h o) s = .next (depositRefused h s .unknown)) ∧
    (∀ enabled kind render, yesNo? (fieldAt 1 o 0) = some enabled →
      windowKind? (fieldAt 1 o 1) = some kind → render? (fieldAt 1 o 12) = some render →
      (kind = .clock → fieldAt 1 o 11 ≤ 1) →
      (3 < fieldAt 1 o 2 ∨ 15 < fieldAt 1 o 15 ∨ 15 < fieldAt 1 o 16 ∨ 15 < fieldAt 1 o 17 ∨
          (kind = .sponsor ∧ 7 < fieldAt 1 o 11) ∨ (kind = .score ∧ 3 < fieldAt 1 o 11) →
        exec (.deposit h o) s = .next (depositRefused h s .range)) ∧
      (∀ (z : Fin 4) (foreground background fill : Fin 16), fieldAt 1 o 2 = z.val →
        fieldAt 1 o 15 = foreground.val → fieldAt 1 o 16 = background.val →
        fieldAt 1 o 17 = fill.val →
        (kind = .sponsor → fieldAt 1 o 11 ≤ 7) → (kind = .score → fieldAt 1 o 11 ≤ 3) →
        let zone := s.zone z
        let top := min 4095 (fieldAt 2 o 3)
        let height := max 1 (min 4096 (fieldAt 2 o 5))
        let left := min 1023 (fieldAt 2 o 7)
        let width := max 1 (min 1024 (fieldAt 2 o 9))
        let inside := zone.lines ≠ 0 ∧ zone.width ≠ 0 ∧ top < zone.lines ∧ left < zone.width
        let height' := if inside then min height (zone.lines - top) else height
        let width' := if inside then min width (zone.width - left) else width
        let scale := max 1 (min 8 (fieldAt 2 o 13))
        let cropTop := min 4095 (fieldAt 2 o 18)
        let cropLeft := min 1023 (fieldAt 2 o 20)
        exec (.deposit h o) s = .next (deposited h s
          (s.withComp { s.comp with
            staged := s.comp.staged.set i
              { enabled := enabled, kind := kind, zone := z, top := top, height := height',
                left := left, width := width', binding := bitsAt 1 o 11,
                render := if kind = .alert then .opaqueCells else render, scale := scale,
                foreground := foreground, background := background, fill := fill,
                cropTop := cropTop, cropLeft := cropLeft } })
          (decide (¬ (top = fieldAt 2 o 3 ∧ height' = fieldAt 2 o 5 ∧ left = fieldAt 2 o 7 ∧
            width' = fieldAt 2 o 9 ∧ scale = fieldAt 2 o 13 ∧ cropTop = fieldAt 2 o 18 ∧
            cropLeft = fieldAt 2 o 20))))))

/-- R163, R164, R41. DEPOSIT into SPONSOR: UNKNOWN before LOCKED; a target that differs re-evaluates the fulfilled flag,
and a flag latched by it posts ENTRY_FULFILLED with cause DEPOSIT and the deposit's tag, before the DONE. -/
def Obligations.SponsorDepositRules : Prop :=
  ∀ (h : Header) (o : List Byte) (i : Fin 128) (s : State), s.Running → o.length = 28 →
    s.cmd.pointer = .sponsor i →
    (1 < fieldAt 1 o 0 ∨ 2 < fieldAt 1 o 20 →
      exec (.deposit h o) s = .next (depositRefused h s .unknown)) ∧
    (∀ enabled cls, yesNo? (fieldAt 1 o 0) = some enabled →
      entryClass? (fieldAt 1 o 20) = some cls →
      (s.pins.tableLock = true → exec (.deposit h o) s = .next (depositRefused h s .locked)) ∧
      (s.pins.tableLock = false → 0x1000000000 ≤ fieldAt 5 o 1 →
        exec (.deposit h o) s = .next (depositRefused h s .range)) ∧
      (s.pins.tableLock = false → fieldAt 5 o 1 < 0x1000000000 →
        let old := s.entry i
        let exposed := (s.counters.exposed.get i).value
        let target := fieldAt 4 o 16
        let pitch := pitchOf (fieldAt 4 o 6)
        let image : Image :=
          { base := fieldAt 5 o 1 / 64 * 64, pitch := pitch, lines := min 4096 (fieldAt 2 o 10),
            width := min (pitch / 64) (fieldAt 2 o 12) }
        let given : Image :=
          { base := fieldAt 5 o 1, pitch := fieldAt 4 o 6, lines := fieldAt 2 o 10,
            width := fieldAt 2 o 12 }
        let fulfilled := if target = old.target then old.fulfilled
          else decide (0 < target ∧ target ≤ exposed.toNat)
        let written := s.setEntry i
          { enabled := enabled, image := image, dwell := max 1 (fieldAt 2 o 14), target := target,
            cls := cls, fulfilled := fulfilled }
        let clamped := decide (image ≠ given ∨ fieldAt 2 o 14 = 0)
        exec (.deposit h o) s = .next (deposited h s
          (if fulfilled = true ∧ old.fulfilled = false then
            written.offer [s.report .sponsor h.tag .entryFulfilled i.val
              (bytesOf 4 exposed ++ leBytes 4 target ++ [2, 0xFF])]
          else written) clamped)))

/-- R165, R166. DEPOSIT into PANEL writes the default image, overrun and the list length and keeps the rest of the panel;
DEPOSIT into PANEL_LIST writes an entry number of at most 127. -/
def Obligations.PanelDeposits : Prop :=
  ∀ (h : Header) (o : List Byte) (s : State), s.Running → o.length = 28 →
    (∀ p, s.cmd.pointer = .panel p →
      (1 < fieldAt 1 o 13 → exec (.deposit h o) s = .next (depositRefused h s .unknown)) ∧
      (∀ overrun, yesNo? (fieldAt 1 o 13) = some overrun →
        (0x1000000000 ≤ fieldAt 5 o 0 →
          exec (.deposit h o) s = .next (depositRefused h s .range)) ∧
        (fieldAt 5 o 0 < 0x1000000000 →
          let pitch := pitchOf (fieldAt 4 o 5)
          let image : Image :=
            { base := fieldAt 5 o 0 / 64 * 64, pitch := pitch, lines := min 4096 (fieldAt 2 o 9),
              width := min (pitch / 64) (fieldAt 2 o 11) }
          let given : Image :=
            { base := fieldAt 5 o 0, pitch := fieldAt 4 o 5, lines := fieldAt 2 o 9,
              width := fieldAt 2 o 11 }
          exec (.deposit h o) s = .next (deposited h s
            (s.setPanel p
              { s.panel p with
                defaultImage := image, overrun := overrun,
                listLength := min 32 (fieldAt 1 o 14) })
            (decide (image ≠ given ∨ 32 < fieldAt 1 o 14)))))) ∧
    (∀ i, s.cmd.pointer = .panelList i →
      (127 < fieldAt 1 o 0 → exec (.deposit h o) s = .next (depositRefused h s .range)) ∧
      (∀ e : Fin 128, fieldAt 1 o 0 = e.val → exec (.deposit h o) s = .next (deposited h s
        (s.withSponsor { s.sponsor with lists := s.sponsor.lists.set i e }) false)))

/-- R128. DEPOSIT into RECORD: refused STATE unless the recorder is OFF, and for a change of the ring or the geometry while
a slot is held or has copies outstanding; such a change empties the slot table, the chain and the clips. That an
address fault comes before R128's conditions (assumption log 13) and that an emptied slot has its dropped flag
and counts at their reset values (assumption log 36) are the model's readings. -/
def Obligations.RecordDepositRules : Prop :=
  ∀ (h : Header) (o : List Byte) (s : State), s.Running → o.length = 28 →
    s.cmd.pointer = .record →
    (1 < fieldAt 1 o 13 ∨ 1 < fieldAt 1 o 25 →
      exec (.deposit h o) s = .next (depositRefused h s .unknown)) ∧
    (∀ sense mode, edge? (fieldAt 1 o 13) = some sense → mirrorMode? (fieldAt 1 o 25) = some mode →
      let c := s.capture
      let pitch := pitchOf (fieldAt 4 o 5)
      let stride := if fieldAt 4 o 21 = 0 then 64
        else min 0xFFFFFFC0 ((fieldAt 4 o 21 + 63) / 64 * 64)
      let source : RecordSource :=
        { base := fieldAt 5 o 0 / 64 * 64, pitch := pitch, lines := min 4096 (fieldAt 2 o 9),
          width := min (pitch / 64) (fieldAt 2 o 11), sense := sense,
          ringBase := fieldAt 5 o 14 / 64 * 64, slotCount := max 2 (min 1024 (fieldAt 2 o 19)),
          stride := stride, mirrorMode := mode }
      let given : RecordSource :=
        { base := fieldAt 5 o 0, pitch := fieldAt 4 o 5, lines := fieldAt 2 o 9,
          width := fieldAt 2 o 11, sense := sense, ringBase := fieldAt 5 o 14,
          slotCount := fieldAt 2 o 19, stride := fieldAt 4 o 21, mirrorMode := mode }
      let addressed := fieldAt 5 o 0 < 0x1000000000 ∧ fieldAt 5 o 14 < 0x1000000000
      let keeps := source = { c.source with
        base := source.base, sense := sense, mirrorMode := mode }
      let busy := ∃ k, (c.slots.get k).clipHolds ≠ 0 ∨ (c.slots.get k).playerHold = true ∨
        (c.slots.get k).outstanding ≠ 0
      (¬ addressed → exec (.deposit h o) s = .next (depositRefused h s .range)) ∧
      (addressed → c.recorder ≠ .off ∨ (¬ keeps ∧ busy) →
        exec (.deposit h o) s = .next (depositRefused h s .state)) ∧
      (addressed → c.recorder = .off → keeps →
        exec (.deposit h o) s = .next (deposited h s
          (s.withCapture { c with source := source }) (decide (source ≠ given)))) ∧
      (addressed → c.recorder = .off → ¬ keeps → ¬ busy →
        exec (.deposit h o) s = .next (deposited h s
          (s.withCapture
            { c with
              source := source, slots := Tab.fill 1024 Slot.initial,
              clips := Tab.fill 32 Clip.initial, oldest := none, newest := none,
              lastOpened := none }) (decide (source ≠ given)))))
/-! ## Counters, resets -/

/-- One COUNTERS report of a SNAPSHOT (R39): the run of at most four captured counters that starts at place `j`. -/
def countersReport (h : Header) (s : State) (group first n j : Nat) (captured : List Counter) : Report :=
  { kind := .counters, code := group, lastOfTable := false, more := decide (j + 4 < n),
    unit := .commandUnit, tag := h.tag, subject := first + j, uptime := s.timing.uptime
    payload :=
      ((List.range 4).flatMap fun k =>
        match captured[j + k]? with
        | some c => bytesOf 4 c.value
        | none => [0, 0, 0, 0]) ++
      ((List.range 4).map fun k =>
        match captured[j + k]? with
        | some c => if c.half then 1 else 0
        | none => 0xFF) }

/-- R38, R39, R40, R41. SNAPSHOT reports the named counters four to a report and, with clear-on-snapshot on, clears exactly
those; COUNTER_MODE sets the two settings; COUNTER_CLEAR clears every counter, every half-full flag and every
fulfilled flag; UNKNOWN comes before LOCKED and LOCKED before RANGE. A setting of COUNTER_MODE above 1 is UNKNOWN
(the model's reading, assumption log 12). -/
def Obligations.CounterCommands : Prop :=
  ∀ (h : Header) (group overflow clear : Byte) (first n : BitVec 16) (s : State), s.Running →
    let locks := s.cmd.clearOnSnapshot = true ∧ s.pins.tableLock = true
    (group.toNat = 0 ∨ 4 < group.toNat → exec (.snapshot h group first n) s =
      .next (s.refuse 0x06 .commandUnit h .unknown)) ∧
    (∀ size, [16, 128, 8, 4][group.toNat - 1]? = some size → 1 ≤ group.toNat →
      (locks → exec (.snapshot h group first n) s =
        .next (s.refuse 0x06 .commandUnit h .locked)) ∧
      (¬ locks → n = 0 ∨ 16 < n.toNat ∨ size < first.toNat + n.toNat →
        exec (.snapshot h group first n) s = .next (s.refuse 0x06 .commandUnit h .range)) ∧
      (∀ ids : List CounterId, ¬ locks → 1 ≤ n.toNat → n.toNat ≤ 16 → ids.length = n.toNat →
        first.toNat + n.toNat ≤ size →
        (∀ k (hk : k < ids.length), ids[k].group = group.toNat ∧ ids[k].index = first.toNat + k) →
        ∃ c : Counters,
          (∀ id, c.get id = if s.cmd.clearOnSnapshot = true ∧ id ∈ ids then
            { value := 0, half := false } else s.counters.get id) ∧
          exec (.snapshot h group first n) s = .next ((s.withCounters c).offer
            ((List.range ((n.toNat + 3) / 4)).map fun q =>
              countersReport h s group.toNat first.toNat n.toNat (4 * q)
                (ids.map s.counters.get))))) ∧
    (1 < overflow.toNat ∨ 1 < clear.toNat →
      exec (.counterMode h overflow clear) s = .next (s.refuse 0x07 .commandUnit h .unknown)) ∧
    (overflow.toNat ≤ 1 → clear.toNat ≤ 1 → s.pins.tableLock = true →
      exec (.counterMode h overflow clear) s = .next (s.refuse 0x07 .commandUnit h .locked)) ∧
    (overflow.toNat ≤ 1 → clear.toNat ≤ 1 → s.pins.tableLock = false →
      exec (.counterMode h overflow clear) s = .next
        ((s.withCmd { s.cmd with
          saturate := decide (overflow = 1), clearOnSnapshot := decide (clear = 1) }).done 0x07
          .commandUnit h false [])) ∧
    (s.pins.tableLock = true →
      exec (.counterClear h) s = .next (s.refuse 0x08 .commandUnit h .locked)) ∧
    (s.pins.tableLock = false → ∃ (c : Counters) (entries : Tab SponsorEntry 128),
      (∀ id, c.get id = { value := 0, half := false }) ∧
      (∀ e, entries.get e = { s.entry e with fulfilled := false }) ∧
      exec (.counterClear h) s = .next
        (((s.withCounters c).withSponsor { s.sponsor with entries := entries }).done 0x08
          .commandUnit h false []))

/-- R37, R18. One increment: FFFF_FFFFh stays in SATURATE and goes to 0 in WRAP; the step to 2^31 sets the half-full flag
and posts COUNTER_HALF once; no other counter changes. -/
def Obligations.CounterIncrements : Prop :=
  ∀ (id : CounterId) (s : State), ∃ c : Counters,
    let old := s.counters.get id
    let crossed := old.half = false ∧ old.value = 0x7FFFFFFF
    (c.get id).value.toNat =
      (if old.value.toNat < 2 ^ 32 - 1 then old.value.toNat + 1
       else if s.cmd.saturate = true then 2 ^ 32 - 1 else 0) ∧
    ((c.get id).half = true ↔ old.half = true ∨ old.value = 0x7FFFFFFF) ∧
    ((id.group, id.index, id.owner) = match id with
      | .zone i => (1, i.val, .zoneTiming)
      | .exposed i => (2, i.val, .sponsor)
      | .occluded i => (3, i.val, .sponsor)
      | .path i => (4, i.val, .busPath)) ∧
    (∀ z k : Fin 4, ∃ e : Fin 16, e.val = 4 * z.val + k.val ∧ zoneCounter z k = .zone e) ∧
    (∀ j, j ≠ id → c.get j = s.counters.get j) ∧
    (¬ crossed → count id s = s.withCounters c) ∧
    (crossed → count id s = (s.withCounters c).offer
      [{ kind := .counterHalf, code := id.group, lastOfTable := false, more := false,
         unit := id.owner, tag := 0, subject := id.index, uptime := s.timing.uptime,
         payload := [] }])

/-! ### How a slot is closed and opened -/

/-- A slot closed with a verdict (R135). -/
def slotClosed (t : Slot) (complete : Bool) : Slot :=
  { t with
    verdict := if complete then .complete else .partialVerdict
    state := if t.outstanding ≠ 0 then .settling else if complete then .complete else .partialState }

/-- The report of the close of slot `k` with cause `cause`: none for COMPLETE, SLOT_PARTIAL for PARTIAL (R135, R143). -/
def closeReports (tag : BitVec 16) (cause : Byte) (k : Fin 1024) (complete : Bool) (s : State) :
    List Report :=
  let slot := s.slot k
  if complete then []
  else
    [s.report .capture tag .slotPartial k.val
      (bytesOf 4 slot.captureNumber ++ leBytes 2 slot.lines.length ++
        [if slot.dropped then 1 else 0, cause])]

/-- Clip `i` is the lowest that is OPEN or CLOSING (R139). -/
def TakesClose (c : Capture) (i : Fin 32) : Prop :=
  ((c.clips.get i).state = .opened ∨ (c.clips.get i).state = .closing) ∧
    ∀ j, j < i → (c.clips.get j).state ≠ .opened ∧ (c.clips.get j).state ≠ .closing

/-- The closed slot `k` offered to the clip that is OPEN or CLOSING (R138, R141, R143): with the law of holds it joins;
against it the clip is CLOSED and CLIP_LIMIT posted. `c` becomes `d`, with `reports`. -/
def ClipOffered (tag : BitVec 16) (k : Fin 1024) (s : State) (c d : Capture)
    (reports : List Report) : Prop :=
  let slot := c.slots.get k
  let lawful := slot.held = true ∨ c.heldCount + 1 ≤ c.source.slotCount - 1
  ((∀ i, ¬ TakesClose c i) → d = c ∧ reports = []) ∧
  (∀ i, TakesClose c i →
    let clip := c.clips.get i
    (lawful → reports = [] ∧ d =
      { c with
        slots := c.slots.set k { slot with clipHolds := 1 }
        clips := c.clips.set i
          { clip with
            state := if clip.state = .closing then .closed else .opened
            length := clip.length + 1
            first := if clip.first = none then some k else clip.first
            clock := if clip.first = none then slot.clock else clip.clock } }) ∧
    (¬ lawful → d = { c with clips := c.clips.set i { clip with state := .closed } } ∧
      reports = [s.report .capture tag .clipLimit i.val
        (leBytes 2 k.val ++ leBytes 2 clip.length ++ leBytes 2 c.heldCount)]))

/-- The clip that is still OPEN or CLOSING is CLOSED when the recorder stops (R131, R145). -/
def ClipEnded (c d : Capture) : Prop :=
  ((∀ i, ¬ TakesClose c i) → d = c) ∧
  (∀ i, TakesClose c i →
    d = { c with clips := c.clips.set i { c.clips.get i with state := .closed } })

/-- Slot `k` is the `j`th on the walk of the ring and the first that nothing holds (R133). -/
def FirstUnheld (c : Capture) (k : Fin 1024) : Prop :=
  let n := c.source.slotCount
  let start := match c.lastOpened with
    | some l => l.val + 1
    | none => 0
  ∃ j, j < n ∧ k.val = (start + j) % n ∧ (c.slots.get k).held = false ∧
    ∀ i (m : Fin 1024), i < j → m.val = (start + i) % n → (c.slots.get m).held = true

/-- Slot `k` opened at a game clock value (R133): unlinked from the chain when it is in it, appended at the newest end
with its new capture number, and the last opened. -/
def SlotOpened (k : Fin 1024) (clock : Nat) (c d : Capture) : Prop :=
  let slot := c.slots.get k
  let chained := slot.state ≠ .empty
  let newest := if chained ∧ slot.next = none then slot.previous else c.newest
  let oldest := if chained ∧ slot.previous = none then slot.next else c.oldest
  d = { c with
    slots := d.slots, captureNumber := c.captureNumber + 1, lastOpened := some k
    oldest := if newest = none then some k else oldest
    newest := some k } ∧
  d.slots.get k =
    { slot with
      state := .writing, captureNumber := c.captureNumber + 1, previous := newest, next := none
      clock := clock, verdict := .none, lines := [], dropped := false } ∧
  ∀ m, m ≠ k →
    let other := c.slots.get m
    d.slots.get m =
      { other with
        next := if newest = some m then some k
          else if chained ∧ slot.previous = some m then slot.next else other.next
        previous := if chained ∧ slot.next = some m then slot.previous else other.previous }

/-- The player after STOP or SOFT_RESET (R156). -/
def playerStopped (p : Player) : Player :=
  { p with first := none, length := 0, position := 0, shownPosition := 0, stepPending := false
           selection := none, cause := .none, state := .idle }

/-- A panel after PANEL_STOP or SOFT_RESET (R171, R182). -/
def panelStopped (x : Panel) : Panel :=
  { x with
    state := .stopped, shown := none, count := 0, savedState := .stopped, savedEntry := none
    savedProgress := 0
    showing := if x.state = .stopped ∧ x.shown = none then x.showing else x.showing + 1 }

/-- R42, R61, R86, R101, R145, R162, R182, R200. SOFT_RESET is never refused: what each block becomes, and the reports it
posts in block order (ALERT_CHANGE, those of capture, the final notice of the hold state, DONE). While RECORDING the
writing slot is closed PARTIAL with its SLOT_PARTIAL, cause SOFT_RESET, and offered to a clip, which is then CLOSED
(R141); every panel is as PANEL_STOP leaves it, saved fields with it. That a zone's latched showing number stays is
the model's reading (assumption log 25). -/
def Obligations.SoftResetEffects : Prop :=
  ∀ (h : Header) (s : State), s.Running → 1 ≤ s.message.config.high →
    ∃ (t : State) (captured : List Report),
      exec (.softReset h) s = .next ((t.offer
        ((if s.comp.alertOn = true ∧ s.pins.alertIn = false then
            [s.report .compositor h.tag .alertChange 0 [0, 0, 0]] else []) ++ captured ++
          (if s.message.hold.isSome = true ∧ s.message.config.finalNotice = true then
            [s.report .message h.tag .queueHold 0 [0, 0, 0, 0]] else []))).done 0x09 .commandUnit h
          false []) ∧
      (∀ r ∈ captured, r.unit = .capture ∧ r.tag = h.tag) ∧
      (s.capture.recorder ≠ .recording → captured = [] ∧
        t.capture = { s.capture with slots := t.capture.slots, recorder := .off }) ∧
      (∀ k, s.capture.recorder = .recording → s.capture.newest = some k →
        ∃ (joined ended : Capture) (clipped : List Report),
          ClipOffered h.tag k s
            { s.capture with slots := s.capture.slots.set k (slotClosed (s.slot k) false) } joined
            clipped ∧
          ClipEnded joined ended ∧
          captured = closeReports h.tag 2 k false s ++ clipped ∧
          t.capture = { ended with slots := t.capture.slots, recorder := .off } ∧
          ∀ m, t.capture.slots.get m = { ended.slots.get m with playerHold := false }) ∧
      t.reportPath = s.reportPath ∧ t.cmd = { s.cmd with pointer := .zone 0 } ∧
      t.pending = s.pending ∧ t.pins = s.pins ∧ t.bus = s.bus ∧ t.counters = s.counters ∧
      t.timing = s.timing ∧ t.free = s.free ∧
      (∀ z, t.zone z = { s.zone z with state := .idle, coverage := [], lossTimer := none }) ∧
      (∀ i, t.comp.staged.get i = { s.comp.staged.get i with enabled := false }) ∧
      (∀ z, t.comp.applyPending.get z = false ∧ t.comp.alertLatch.get z = false ∧
        t.comp.frameRecord.get z = none ∧ ∀ i, (t.comp.taken.get z).get i = none ∧
          (t.comp.active.get z).get i = none) ∧
      t.comp.alertOn = false ∧
      (∀ z, t.glyph.latches.get z = none) ∧ t.glyph.store = s.glyph.store ∧
      t.glyph.colours = s.glyph.colours ∧ t.glyph.layouts = s.glyph.layouts ∧
      t.glyph.alertText = s.glyph.alertText ∧
      t.capture.recorder = .off ∧ t.capture.source = s.capture.source ∧
      (∀ k, (t.capture.slots.get k).playerHold = false) ∧
      (s.capture.recorder ≠ .recording → t.capture.clips = s.capture.clips ∧
        ∀ k, t.capture.slots.get k = { s.capture.slots.get k with playerHold := false }) ∧
      (s.capture.recorder = .recording → ∀ i, TakesClose s.capture i →
        (t.capture.clips.get i).state = .closed) ∧
      t.player = { playerStopped s.player with latched := Tab.fill 4 none } ∧
      t.sponsor.entries = s.sponsor.entries ∧ t.sponsor.lists = s.sponsor.lists ∧
      (∀ p, t.panel p = panelStopped (s.panel p)) ∧
      (∀ z p, (t.sponsor.latches.get z).get p =
        { (s.sponsor.latches.get z).get p with
          entry := none, image := (s.panel p).defaultImage }) ∧
      t.message = { s.message with
        store := Tab.fill 64 none, announce := [], featured := [], fan := [], lead := none
        follow := none, record := none, hold := none }

/-- The levels of the lines after a row: an edge or a change of a line moves that line, and no other row moves one. -/
def linesAfter (p : Pins) : Instr → Pins
  | .zonePulse z edge => { p with zfp := p.zfp.set z (decide (edge = .rising)) }
  | .recordFramePulse edge => { p with rfp := decide (edge = .rising) }
  | .lineStart edge => { p with gcStart := decide (edge = .rising) }
  | .lineStop .gcStart edge => { p with gcStart := decide (edge = .rising) }
  | .lineStop .gcStop edge => { p with gcStop := decide (edge = .rising) }
  | .pcReset edge => { p with pcReset := decide (edge = .rising) }
  | .alertInChange level => { p with alertIn := level }
  | .tableLockChange level => { p with tableLock := level }
  | _ => p

/-- R19, R21, R31, R49, R69, R103, R107, R117, R125, R130, R199. Asserting RESET_N leaves every block in its reset state, the
levels of the input lines apart, with every output line deasserted. While it is asserted every other row that is well
formed, a presented request, a grant, a response, a report's move, an edge, a pulse, an expiry or a host command,
leaves all but the levels of the lines as it is, and so does a step on an empty queue (the model's reading, assumption
log 18). Its release samples CA_SEL and posts ALERT_CHANGE first when an alert is in force. The control area base of 0
while it is asserted (assumption log 26), that a withheld request is forgotten (assumption log 38) and that
RESET_RELEASE with RESET_N already released changes nothing (assumption log 5) are the model's choices. -/
def Obligations.ResetLine : Prop :=
  ∀ (caSel : BitVec 4) (c : Instr) (s : State),
    exec .resetAssert s = .next
      { State.reset with
        pins := { s.pins with resetAsserted := true }, pending := s.pending, free := s.free
        cmd := { State.reset.cmd with caBase := 0 } } ∧
    (∀ t, exec .resetAssert s = .next t →
      t.hornGLine = false ∧ t.hornPLine = false ∧ t.attn = false ∧ t.qhold = false) ∧
    (s.pins.resetAsserted = true → IsHostCommand c → c.wellFormed = true → exec c s = .next s) ∧
    (s.pins.resetAsserted = true → c.wellFormed = true → c ≠ .resetAssert →
      (∀ sel, c ≠ .resetRelease sel) → exec c s = .next (s.withPins (linesAfter s.pins c))) ∧
    (s.pins.resetAsserted = true → s.pending = [] → step s = .next s) ∧
    (s.pins.resetAsserted = true →
      let released := (s.withPins { s.pins with resetAsserted := false }).withCmd
        { s.cmd with caBase := caSel.toNat * 0x100000000 + 0xFFFFF000 }
      (s.alertInForce = false → exec (.resetRelease caSel) s = .next released) ∧
      (s.alertInForce = true → exec (.resetRelease caSel) s = .next (released.offer
        [s.report .compositor 0 .alertChange 0
          [1, if s.pins.alertIn then 1 else 0, if s.comp.alertOn then 1 else 0]]))) ∧
    (s.Running → exec (.resetRelease caSel) s = .next s)

/-! ## The bus path -/

/-- The display controller presents `b`: it is a burst of R3 and no other request is withheld (R4). -/
def Presented (b : Burst) (s : State) : Prop :=
  b.wellFormed = true ∧ ∀ w, s.bus.withheld = some w → w.burst = b

/-- `b` crosses a granule boundary (R3). -/
def Stray (b : Burst) : Prop := 64 < b.addr.toNat % 64 + 8 * b.beats

/-- An address of the control area (R5). -/
abbrev AreaHolds (a : Nat) (s : State) : Prop := s.cmd.caBase ≤ a ∧ a < s.cmd.caBase + 4096

/-- `b` lies in the control area (R5). -/
def InArea (b : Burst) (s : State) : Prop := AreaHolds b.addr.toNat s

/-- `b` lies in the record source region (R5). -/
def InSource (b : Burst) (s : State) : Prop :=
  s.capture.source.base ≤ b.addr.toNat ∧
    b.addr.toNat < s.capture.source.base + s.capture.source.lines * s.capture.source.pitch

/-- An address of the frame region of the enabled zone `z` (R5). -/
abbrev ZoneHolds (z : Fin 4) (a : Nat) (s : State) : Prop :=
  (s.zone z).state ≠ .idle ∧ (s.zone z).base ≤ a ∧
    a < (s.zone z).base + (s.zone z).lines * (s.zone z).pitch

/-- `b` lies in the frame region of the enabled zone `z` (R5). -/
def InZone (z : Fin 4) (b : Burst) (s : State) : Prop := ZoneHolds z b.addr.toNat s

/-- The queues a forwarded burst needs have room (R4). -/
def Room (b : Burst) (s : State) : Prop :=
  s.bus.forward.length < 16 ∧ (b.dir = .read → s.bus.responses.length < 32)

/-- `b` accepted and forwarded unchanged, a READ with its MEMORY entry (R10, R11). -/
def passed (b : Burst) (s : State) : State :=
  s.withBus
    { s.bus with
      withheld := none, forward := s.bus.forward ++ [b]
      responses := s.bus.responses ++
        (if b.dir = .read then
          [{ tag := b.tag, beats := b.beats, kind := .memory, data := [], complete := false }]
         else []) }

/-- The form of a whole command write (R6). -/
def WholeCommand (b : Burst) (s : State) : Prop :=
  b.dir = .write ∧ InArea b s ∧ b.addr.toNat < s.cmd.caBase + 2048 ∧ b.beats = 4 ∧
    b.addr.toNat % 32 = 0 ∧ ∀ e ∈ b.enables, e = true

/-- R6, R22. A whole command write reaches memory and its record is taken as a command at its acceptance. -/
def Obligations.WholeCommandWriteIsTaken : Prop :=
  ∀ (b : Burst) (s : State), s.Running → Presented b s → WholeCommand b s → Room b s →
    exec (.burstAccept b) s = exec (decodeRecord b.data) (passed b s)

/-- R5, R6, R9, R10, R11. A stray burst, every other control area burst, a write outside the record source and a read
outside every enabled zone are forwarded unchanged; STRAY counts the first and PARTIAL_CMD a write into the
slot half that is no whole command. -/
def Obligations.OtherBurstsPassThrough : Prop :=
  ∀ (b : Burst) (s : State), s.Running → Presented b s → Room b s →
    (Stray b → exec (.burstAccept b) s = .next (count (.path 0) (passed b s))) ∧
    (¬ Stray b → InArea b s → b.dir = .read ∨ s.cmd.caBase + 2048 ≤ b.addr.toNat →
      exec (.burstAccept b) s = .next (passed b s)) ∧
    (¬ Stray b → InArea b s → b.dir = .write → b.addr.toNat < s.cmd.caBase + 2048 →
      ¬ WholeCommand b s → exec (.burstAccept b) s = .next (count (.path 1) (passed b s))) ∧
    (¬ Stray b → ¬ InArea b s → b.dir = .write → ¬ InSource b s →
      exec (.burstAccept b) s = .next (passed b s)) ∧
    (¬ Stray b → ¬ InArea b s → b.dir = .read → (∀ z, ¬ InZone z b s) →
      exec (.burstAccept b) s = .next (passed b s))

/-- A line joined to a set of lines. -/
def joinLine (line : Nat) (lines : List Nat) : List Nat :=
  if line ∈ lines then lines else lines ++ [line]

/-- R7, R14, R15, R134. A live write is forwarded unchanged; while a slot is WRITING its line joins the slot's coverage and
a copy at the ring address is queued with outstanding one up; with the mirror queue full in DROP the copy is
discarded, the slot marked and MIRROR_DROP counted. -/
def Obligations.LiveWrites : Prop :=
  ∀ (b : Burst) (s : State), s.Running → Presented b s → Room b s → b.dir = .write → ¬ Stray b →
    ¬ InArea b s → InSource b s →
    (s.capture.recorder ≠ .recording ∨ s.capture.newest = none →
      exec (.burstAccept b) s = .next (passed b s)) ∧
    (∀ k, s.capture.recorder = .recording → s.capture.newest = some k →
      let source := s.capture.source
      let offset := b.addr.toNat - source.base
      let slot := s.slot k
      let lines := joinLine (offset / source.pitch) slot.lines
      let t := passed b s
      (s.bus.mirrors.length < 32 → exec (.burstAccept b) s = .next
        ((t.withBus
          { t.bus with
            mirrors := s.bus.mirrors ++
              [{ burst := { b with
                    addr := BitVec.ofNat 36 (source.ringBase + k.val * source.stride + offset)
                    tag := 0 }
                 slot := k }] }).withCapture
          { s.capture with
            slots := s.capture.slots.set k
              { slot with lines := lines, outstanding := slot.outstanding + 1 } })) ∧
      (32 ≤ s.bus.mirrors.length → source.mirrorMode = .drop → exec (.burstAccept b) s = .next
        (count (.path 2) (t.withCapture
          { s.capture with
            slots := s.capture.slots.set k { slot with lines := lines, dropped := true } }))))

/-- A read of line `line`, granule `granule` of zone `z` seen by the zone timing unit and the compositor (R53, R81): the
line joins the coverage of an open frame and the served set of every marked window that holds the place. -/
def readSeen (z : Fin 4) (line granule : Nat) (s : State) : State :=
  let touch (m : FrameMark) : FrameMark :=
    match (s.comp.active.get z).get m.window with
    | some w =>
      if w.top ≤ line ∧ line < w.top + w.height ∧ w.left ≤ granule ∧ granule < w.left + w.width
      then { m with lines := joinLine line m.lines } else m
    | none => m
  let zone := s.zone z
  let t := s.withComp
    { s.comp with
      frameRecord := s.comp.frameRecord.set z ((s.comp.frameRecord.get z).map (List.map touch)) }
  t.setZone z { zone with
    coverage := if zone.state = .scanning then joinLine line zone.coverage else zone.coverage }

/-- `b` issued at `addr` with a response entry of kind `kind`. -/
def readIssued (b : Burst) (addr : Nat) (kind : ResponseKind) (s : State) : State :=
  s.withBus
    { s.bus with
      withheld := none, forward := s.bus.forward ++ [{ b with addr := BitVec.ofNat 36 addr }]
      responses := s.bus.responses ++
        [{ tag := b.tag, beats := b.beats, kind := kind, data := [], complete := false }] }

/-- R8, R53, R81. A zone read follows the compositor's answer: forwarded unchanged, forwarded at another address with or
without a merge plan, or synthesized, which forwards nothing and needs no room in the forward queue. -/
def Obligations.ZoneReads : Prop :=
  ∀ (z : Fin 4) (b : Burst) (s : State), s.Running → Presented b s → b.dir = .read → ¬ Stray b →
    ¬ InArea b s → InZone z b s → (∀ y, y < z → ¬ InZone y b s) → s.bus.responses.length < 32 →
    let a := b.addr.toNat
    let offset := a - (s.zone z).base
    let seen := readSeen z (offset / (s.zone z).pitch) (offset % (s.zone z).pitch / 64) s
    (s.compose z a b.beats = .passThrough → s.bus.forward.length < 16 →
      exec (.burstAccept b) s = .next (readIssued b a .memory seen)) ∧
    (∀ addr, s.compose z a b.beats = .remap addr none → s.bus.forward.length < 16 →
      exec (.burstAccept b) s = .next (readIssued b addr .memory seen)) ∧
    (∀ addr plan, s.compose z a b.beats = .remap addr (some plan) → s.bus.forward.length < 16 →
      exec (.burstAccept b) s = .next (readIssued b addr (.merge plan) seen)) ∧
    (∀ pixels, s.compose z a b.beats = .synthesize pixels →
      exec (.burstAccept b) s = .next (seen.withBus
        { seen.bus with
          withheld := none
          responses := seen.bus.responses ++
            [{ tag := b.tag, beats := b.beats, kind := .synth, data := pixels
               complete := true }] }))

/-- The pixels a read of `n` beats delivers under an outcome, `memory` being the pixel at an address (R8, R12). -/
def delivered (memory : Nat → Pixel) (a n : Nat) : ReadOutcome → List Pixel
  | .passThrough => (List.range (2 * n)).map fun k => memory (a + 4 * k)
  | .remap b none => (List.range (2 * n)).map fun k => memory (b + 4 * k)
  | .remap b (some plan) =>
    (List.range (2 * n)).map fun k => ((plan[k]?).getD none).getD (memory (b + 4 * k))
  | .synthesize pixels => pixels

/-! ### The stages of composition -/

/-- Stage 1 (R72): where address `a` falls in a zone. -/
def placeOf (zone : Zone) (a : Nat) : ReadPlace :=
  let offset := a - zone.base
  { line := offset / zone.pitch, granule := offset % zone.pitch / 64
    beat := offset % zone.pitch % 64 / 8 }

/-- Copy `w` of window `i` in the active set of zone `z` covers the read (R73). -/
def CoversAt (s : State) (z : Fin 4) (p : ReadPlace) (i : Fin 16) (w : Window) : Prop :=
  (s.comp.active.get z).get i = some w ∧ w.enabled = true ∧ w.height ≠ 0 ∧ w.width ≠ 0 ∧
    w.top ≤ p.line ∧ p.line < w.top + w.height ∧ w.left ≤ p.granule ∧
    p.granule < w.left + w.width ∧ (w.kind = .alert → s.comp.alertLatch.get z = true)

/-- The glyph list (R65, R73): the covering glyph windows, each once, in rank order from the top. -/
def ListsGlyphs (s : State) (z : Fin 4) (p : ReadPlace) (l : List Placed) : Prop :=
  (∀ i w, (i, w) ∈ l ↔ CoversAt s z p i w ∧ w.kind ≠ .sponsor ∧ w.kind ≠ .replay) ∧
    l.Pairwise fun v w => w.2.kind.rank < v.2.kind.rank ∨ (v.2.kind = w.2.kind ∧ v.1 < w.1)

/-- Window `i` is the highest of its kind that covers the read (R65). -/
def HighestAt (s : State) (z : Fin 4) (p : ReadPlace) (k : WindowKind) (i : Fin 16) (w : Window) :
    Prop :=
  CoversAt s z p i w ∧ w.kind = k ∧ ∀ j v, CoversAt s z p j v → v.kind = k → i ≤ j

/-- No window of a kind covers the read. -/
def NoneAt (s : State) (z : Fin 4) (p : ReadPlace) (k : WindowKind) : Prop :=
  ∀ i w, CoversAt s z p i w → w.kind ≠ k

/-- The one source of a read (R75): the highest SPONSOR window with the image latched for its panel; else, where the zone's
latched selection names a slot, the highest REPLAY window with that slot; else the original address. -/
def SourceChosen (s : State) (z : Fin 4) (p : ReadPlace) (o : Option (Placed × Image)) : Prop :=
  let r := s.capture.source
  (∀ i w (panel : Fin 8), HighestAt s z p .sponsor i w → w.binding.toNat = panel.val →
    o = some ((i, w), ((s.sponsor.latches.get z).get panel).image)) ∧
  (NoneAt s z p .sponsor →
    (∀ i w (k : Fin 1024), HighestAt s z p .replay i w → s.player.latched.get z = some k →
      o = some ((i, w),
        { base := r.ringBase + k.val * r.stride, pitch := r.pitch, lines := r.lines
          width := r.width })) ∧
    (NoneAt s z p .replay ∨ s.player.latched.get z = none → o = none))

/-- The translation of a read of `n` beats into the image of its source window (R76), none where the source is fill: beyond
the image's lines or width, or past the last byte of the address space. -/
def Translates (w : Window) (image : Image) (p : ReadPlace) (n : Nat) (o : Option Nat) : Prop :=
  let sl := p.line - w.top + w.cropTop
  let sg := p.granule - w.left + w.cropLeft
  let target := image.base + sl * image.pitch + sg * 64 + p.beat * 8
  let fill := image.lines ≤ sl ∨ image.width ≤ sg ∨ 0xFFFFFFFFF < target + 8 * n - 1
  (fill → o = none) ∧ (¬ fill → o = some target)

/-! ### The pixels of a glyph window -/

/-- Bit (row, column) of glyph `c` is set (R87): column 0 is the most significant of the row's 16 bits. -/
def BitSet (g : GlyphRenderer) (c : Code) (row column : Nat) : Prop :=
  ∃ e : Fin 3072, e.val = 24 * c.val + row ∧ (g.store.get e).getLsbD (15 - column) = true

/-- Code `j` from the left of a score item of `n` digits that shows `v` (R95). -/
def digitShown (v n j : Nat) (suppress : Bool) : Nat :=
  let shown := min v (10 ^ n - 1)
  if suppress = true ∧ j + 1 < n ∧ shown / 10 ^ (n - 1 - j) = 0 then 32
  else 48 + shown / 10 ^ (n - 1 - j) % 10

/-- What the cells of a CLOCK, ALERT or SCORE window hold (R93, R95, R97): a code with its colour index (R90), or none. -/
def CellsHold (l : ContentLatch) (w : Window) (column row : Nat) (o : Option (Code × Fin 16)) : Prop :=
  (w.kind = .clock → ∀ text, text = (if w.binding = 0 then l.gameText else l.possText) →
    (row = 0 → o = text[column]?.map fun c => (c, w.foreground)) ∧ (row ≠ 0 → o = none)) ∧
  (w.kind = .alert →
    (∀ e : Fin 160, column < 40 → e.val = 40 * row + column →
      o = some (l.alertText.get e, w.foreground)) ∧
    (4 ≤ row ∨ 40 ≤ column → o = none)) ∧
  (w.kind = .score → ∀ items : Fin 12 → LayoutItem,
    (∀ (k : Fin 12) (e : Fin 48), e.val = 12 * w.binding.toNat + k.val →
      items k = l.layouts.get e) → w.binding.toNat ≤ 3 →
    let occupies := fun k => (items k).enabled = true ∧ (items k).row = row ∧
      (items k).column ≤ column ∧ column < (items k).column + (items k).digits
    (∀ k, occupies k → (∀ j, j < k → ¬ occupies j) → ∃ c : Code,
      c.val = digitShown
        (match (items k).source with
          | .home => l.home
          | .guest => l.guest
          | .field i => l.fields.get i)
        (items k).digits (column - (items k).column) (items k).suppress ∧
      o = some (c,
        match (items k).colour with
        | some colour => colour
        | none => w.foreground)) ∧
    ((∀ k, ¬ occupies k) → o = none))

/-- Pixel (x, y) of a CRAWL window is set by message `m` of the strip (R99). -/
def CrawlSets (g : GlyphRenderer) (w : Window) (x y : Nat) (m : CrawlContent) : Prop :=
  let s := w.scale
  ∃ u, u + 16 * w.width = x + m.travel ∧ u < 16 * s * m.length ∧ y < 24 * s ∧
    ∃ i : Fin 160, i.val = u / (16 * s) ∧ BitSet g (m.text.get i) (y % (24 * s) / s) (u % (16 * s) / s)

/-- What the renderer answers for pixel (x, y) of a glyph window (R89, R90, R92, R99): none where the pixel is clear, else
the colour index it takes. -/
def PixelDrawn (g : GlyphRenderer) (z : Fin 4) (w : Window) (x y : Nat) (o : Option (Fin 16)) : Prop :=
  let s := w.scale
  (g.latches.get z = none → o = none) ∧
  (∀ l, g.latches.get z = some l →
    (w.kind ≠ .crawl → ∃ cell, CellsHold l w (x / (16 * s)) (y / (24 * s)) cell ∧
      (cell = none → o = none) ∧
      (∀ c colour, cell = some (c, colour) →
        let set := BitSet g c (y % (24 * s) / s) (x % (16 * s) / s)
        (set → o = some colour) ∧ (¬ set → o = none))) ∧
    (w.kind = .crawl →
      let sets := fun (place : Option CrawlContent) (m : CrawlContent) =>
        place = some m ∧ CrawlSets g w x y m
      let takes := fun (m : CrawlContent) => o = some
        (match m.colour with
        | some colour => colour
        | none => w.foreground)
      (∀ m, sets l.lead m → takes m) ∧
      ((∀ m, ¬ sets l.lead m) → ∀ m, sets l.follow m → takes m) ∧
      ((∀ m, ¬ sets l.lead m) → (∀ m, ¬ sets l.follow m) → o = none)))

/-! ### What a read delivers -/

/-- A KEYED window in which the pixel is clear, so that the walk goes on (R74). -/
def LetsThrough (s : State) (z : Fin 4) (p : ReadPlace) (beat k : Nat) (w : Placed) : Prop :=
  w.2.kind ≠ .alert ∧ w.2.render = .keyed ∧
    s.glyph.pixel z w.2 (w.2.column p beat k) (p.line - w.2.top) = none

/-- The glyph windows the walk of a pixel consults: all of the list, or, where a CLOCK window covers the read, the ALERT
and CLOCK windows alone (the law of the clock, R74). -/
def consulted (l : List Placed) : List Placed :=
  if l.any (fun w => w.2.kind == .clock) then
    l.filter fun w => w.2.kind == .alert || w.2.kind == .clock
  else l

/-- R72 to R78, R87, R89, R90, R92, R93, R95, R97, R99. Whatever the outcome saves in memory reads, each pixel delivered is
the colour the glyph windows decide, or else the pixel of the read's one source: the original address, the translated
address, or the fill colour; a read in the pitch padding is answered from memory. The place of the read (R72), the
glyph list (R73), the source (R75), its translation (R76), the window coordinates (R77) and the pixel the renderer
answers there (chapter 5) are each said outright. A pixel is decided by the first window consulted that sets it or
is OPAQUE, and by none when each lets it through; no SCORE or CRAWL window is consulted where a CLOCK window covers
the read. Which outcome a read of at least one beat takes is R78's table: pass through for a read in the padding and
for one from the original address with no pixel decided; synthesize where no pixel takes memory data; remap to the
source's address with no plan where no pixel is decided; and remap, to that address or to the read's own, with a plan
that gives the colour of each decided pixel where some are decided and some take memory data. -/
def Obligations.ComposedPixels : Prop :=
  (∀ k : WindowKind, (k, k.rank) ∈
    [(.replay, 1), (.sponsor, 2), (.crawl, 3), (.score, 4), (.clock, 5), (.alert, 6)]) ∧
  ∀ (memory : Nat → Pixel) (z : Fin 4) (a n : Nat) (s : State),
    let p := (s.zone z).place a
    let l := s.glyphList z p
    p = placeOf (s.zone z) a ∧
    ListsGlyphs s z p l ∧
    SourceChosen s z p (s.source z p) ∧
    (∀ i w image, s.source z p = some ((i, w), image) →
      Translates w image p n (translate w image p n)) ∧
    (∀ i w, (i, w) ∈ l → ∀ beat k,
      w.column p beat k = (p.granule - w.left) * 16 + beat * 2 + k ∧
      PixelDrawn s.glyph z w (w.column p beat k) (p.line - w.top)
        (s.glyph.pixel z w (w.column p beat k) (p.line - w.top))) ∧
    (∀ beat k, (∀ w ∈ consulted l, LetsThrough s z p beat k w) → s.walk z p beat k false l = none) ∧
    (∀ beat k above w below, consulted l = above ++ w :: below →
      (∀ v ∈ above, LetsThrough s z p beat k v) →
      let pixel := s.glyph.pixel z w.2 (w.2.column p beat k) (p.line - w.2.top)
      (∀ colour, pixel = some colour →
        s.walk z p beat k false l = some (s.glyph.colours.get colour)) ∧
      (pixel = none → w.2.kind = .alert ∨ w.2.render = .opaqueCells →
        s.walk z p beat k false l = some (s.glyph.colours.get w.2.background))) ∧
    ((s.zone z).width ≤ p.granule →
      delivered memory a n (s.compose z a n) =
        (List.range (2 * n)).map fun k => memory (a + 4 * k)) ∧
    (p.granule < (s.zone z).width →
      delivered memory a n (s.compose z a n) =
        (List.range (2 * n)).map fun k =>
          match s.walk z p (p.beat + k / 2) (k % 2) false l with
          | some colour => colour
          | none =>
            match s.source z p with
            | none => memory (a + 4 * k)
            | some (w, image) =>
              match translate w.2 image p n with
              | none => s.glyph.colours.get w.2.fill
              | some b => memory (b + 4 * k)) ∧
    (1 ≤ n →
      let outcome := s.compose z a n
      let plan := (List.range (2 * n)).map fun k => s.walk z p (p.beat + k / 2) (k % 2) false l
      let undecided := ∀ d ∈ plan, d = none
      let decided := ∀ d ∈ plan, d ≠ none
      ((s.zone z).width ≤ p.granule → outcome = .passThrough) ∧
      (p.granule < (s.zone z).width →
        (s.source z p = none →
          (undecided → outcome = .passThrough) ∧
          (¬ undecided → ¬ decided → outcome = .remap a (some plan))) ∧
        (decided → ∃ pixels, outcome = .synthesize pixels) ∧
        (∀ w image, s.source z p = some (w, image) →
          (translate w.2 image p n = none → ∃ pixels, outcome = .synthesize pixels) ∧
          (∀ b, translate w.2 image p n = some b →
            (undecided → outcome = .remap b none) ∧
            (¬ undecided → ¬ decided → outcome = .remap b (some plan))))))

/-- The mirror queue is full for a live write in STALL (R4, R15). -/
def MirrorStalled (b : Burst) (s : State) : Prop :=
  b.dir = .write ∧ ¬ Stray b ∧ ¬ InArea b s ∧ InSource b s ∧ s.capture.recorder = .recording ∧
    s.capture.newest ≠ none ∧ s.capture.source.mirrorMode = .stall ∧ 32 ≤ s.bus.mirrors.length

/-- A queue the request needs is full (R4). -/
def QueueFull (b : Burst) (s : State) : Prop :=
  (s.forwards b = true ∧ 16 ≤ s.bus.forward.length) ∨
    (b.dir = .read ∧ 32 ≤ s.bus.responses.length)

/-- R4, R15. A presented request that a full queue or a full mirror queue in STALL withholds stays at the port, and STALLS
counts it once, when the mirror queue first withholds it; nothing else changes. A request that nothing
withholds, or one behind another, leaves the state as it is (assumption logs 5, 8), BURST_ACCEPT of one that a
condition withholds is its withholding (assumption log 9), and an ill-formed one faults (assumption log 27): the
model's choices. -/
def Obligations.RequestsWithheld : Prop :=
  ∀ (b : Burst) (s : State), s.Running →
    (b.wellFormed = false → exec (.requestWithhold b) s = .fault .illFormed ∧
      exec (.burstAccept b) s = .fault .illFormed) ∧
    (b.wellFormed = true → ¬ Presented b s →
      exec (.requestWithhold b) s = .next s ∧ exec (.burstAccept b) s = .next s) ∧
    (Presented b s →
      let counted := s.bus.withheld = some { burst := b, counted := true }
      let held := fun c => s.withBus { s.bus with withheld := some { burst := b, counted := c } }
      (MirrorStalled b s → ¬ counted →
        exec (.requestWithhold b) s = .next (count (.path 3) (held true))) ∧
      (MirrorStalled b s → counted → exec (.requestWithhold b) s = .next s) ∧
      (¬ MirrorStalled b s → QueueFull b s → ¬ counted →
        exec (.requestWithhold b) s = .next (held false)) ∧
      (QueueFull b s → counted → exec (.requestWithhold b) s = .next s) ∧
      (MirrorStalled b s ∨ QueueFull b s →
        exec (.burstAccept b) s = exec (.requestWithhold b) s) ∧
      (¬ MirrorStalled b s → ¬ QueueFull b s → exec (.requestWithhold b) s = .next s))

/-- R10, R14, R16, R17, R29, R136. Who wins the memory port, and what its grant does: the head burst goes out; a report
write waiting at the head counts the other grants; a copy out lowers its slot's outstanding count and settles a
SETTLING slot; a report write out advances P, and ATTN follows. A grant to another queue than the winner does not arise
(assumption log 5). -/
def Obligations.PortGrants : Prop :=
  ∀ s : State, s.Running →
    let p := s.bus
    let urgent := p.reportWrites ≠ [] ∧ 64 ≤ p.waitCount
    let waited := if p.reportWrites = [] then p.waitCount else p.waitCount + 1
    (∀ b rest, ¬ urgent → p.mirrors.length < 24 → p.forward = b :: rest →
      exec .forwardGrant s = .next
        (s.withBus { p with forward := rest, mpOut := some b, waitCount := waited })) ∧
    (urgent ∨ 24 ≤ p.mirrors.length ∨ p.forward = [] → exec .forwardGrant s = .next s) ∧
    (∀ m rest, ¬ urgent → 24 ≤ p.mirrors.length ∨ p.forward = [] → p.mirrors = m :: rest →
      let slot := s.slot m.slot
      let left := slot.outstanding - 1
      exec .mirrorGrant s = .next
        ((s.withBus { p with mirrors := rest, mpOut := some m.burst, waitCount := waited }).withCapture
          { s.capture with
            slots := s.capture.slots.set m.slot
              { slot with
                outstanding := left
                state :=
                  if slot.state = .settling ∧ left = 0 then
                    if slot.verdict = .complete then .complete else .partialState
                  else slot.state } })) ∧
    (urgent ∨ p.mirrors = [] ∨ (p.mirrors.length < 24 ∧ p.forward ≠ []) →
      exec .mirrorGrant s = .next s) ∧
    (∀ w rest, p.reportWrites = w :: rest → 64 ≤ p.waitCount ∨ (p.mirrors = [] ∧ p.forward = []) →
      exec .reportWriteGrant s = .next (moveReports
        ((s.withBus
          { p with
            reportWrites := rest, waitCount := 0
            mpOut := some
              { addr := BitVec.ofNat 36 (s.cmd.caBase + 2048 + 32 * w.entry.toNat), dir := .write
                beats := 4, tag := 0, data := w.data
                enables := List.replicate 32 true } }).withCmd
          { s.cmd with producer := s.cmd.producer + 1 })) ∧
      ∀ t, exec .reportWriteGrant s = .next t →
        (t.attn = true ↔ s.cmd.producer + 1 ≠ s.cmd.consumer)) ∧
    (p.reportWrites = [] ∨ (p.waitCount < 64 ∧ (p.mirrors ≠ [] ∨ p.forward ≠ [])) →
      exec .reportWriteGrant s = .next s)

/-- R12, R13. A response from memory goes to the oldest WAITING entry: whole for MEMORY, and for MERGE with the plan's
colours over it; with no entry WAITING it is discarded. The oldest entry leaves RP when it is COMPLETE, with its
tag, and not before. That RESPONSE_RETURN changes nothing when none is due (assumption log 5) and that an
ill-formed response faults (assumption log 27) are the model's choices; a pixel of a merge that the response
does not bring is left free (assumption log 1). -/
def Obligations.Responses : Prop :=
  ∀ (pixels : List Pixel) (s : State), s.Running →
    (responseWellFormed pixels = false → exec (.mpResponse pixels) s = .fault .illFormed) ∧
    (responseWellFormed pixels = true → (∀ e ∈ s.bus.responses, e.complete = true) →
      exec (.mpResponse pixels) s = .next s) ∧
    (∀ done e rest, responseWellFormed pixels = true → s.bus.responses = done ++ e :: rest →
      (∀ d ∈ done, d.complete = true) → e.complete = false →
      (e.kind = .memory → exec (.mpResponse pixels) s = .next (s.withBus
        { s.bus with
          responses := done ++ { e with data := pixels, complete := true } :: rest })) ∧
      (∀ plan, e.kind = .merge plan → ∃ data : List Pixel,
        exec (.mpResponse pixels) s = .next ((s.withBus
          { s.bus with
            responses := done ++ { e with data := data, complete := true } :: rest }).withFree
          (s.free + plan.length)) ∧
        data.length = plan.length ∧
        ∀ k (hp : k < plan.length) (hd : k < data.length),
          (∀ colour, plan[k] = some colour → data[k] = colour) ∧
          (∀ hm : k < pixels.length, plan[k] = none → data[k] = pixels[k]))) ∧
    (∀ e rest, s.bus.responses = e :: rest → e.complete = true →
      exec .responseReturn s = .next (s.withBus
        { s.bus with responses := rest, rpOut := some { tag := e.tag, data := e.data } })) ∧
    ((∀ e ∈ s.bus.responses.head?, e.complete = false) → exec .responseReturn s = .next s)

/-! ## Zones and windows -/

/-- The line of zone `z` as an edge leaves it. -/
def pulsePins (z : Fin 4) (edge : Edge) (s : State) : Pins :=
  { s.pins with zfp := s.pins.zfp.set z (decide (edge = .rising)) }

/-- Every line of the zone is in the coverage map (R53). -/
def Covered (z : Zone) : Prop := ∀ l, l < z.lines → l ∈ z.coverage

/-- The edge is an accepted pulse of zone `z`, which starts a frame (R49 to R52, R56). -/
def StartsFrame (z : Fin 4) (edge : Edge) (s : State) : Prop :=
  s.Running ∧ edge = (s.zone z).sense ∧
    ((s.zone z).state = .waiting ∨ (s.zone z).state = .lost ∨
      ((s.zone z).state = .scanning ∧ ((s.zone z).mode = .restart ∨ Covered (s.zone z))))

/-! ### What a frame close does -/

/-- Steps that follow one another, one for each element of a list. -/
def InOrder {α : Type} (R : α → State → State → Prop) : List α → State → State → Prop
  | [], s, t => t = s
  | a :: l, s, t => ∃ m, R a s m ∧ InOrder R l m t

/-- The zone timing unit's own part of a close (R54, R58): FRAME under EVERY_FRAME, then FRAMES, then SHORT unless the
frame is complete, each count with its COUNTER_HALF. -/
def frameCounted (z : Fin 4) (complete loss : Bool) (s : State) : State :=
  let zone := s.zone z
  let framed :=
    if zone.level = .everyFrame then
      s.offer [s.report .zoneTiming 0 .frame z.val (bytesOf 4 zone.frameNumber ++
        [if complete then 1 else 0, if loss then 1 else 0] ++ leBytes 2 zone.coverage.length)]
    else s
  let counted := count (zoneCounter z 0) framed
  if complete then counted else count (zoneCounter z 1) counted

/-- A panel that shows entry `e` in a moment of `frames` exposed frames (R173): a moment that already runs keeps the saved
fields. -/
def forcedPanel (e : Fin 128) (frames : Nat) (x : Panel) : Panel :=
  let forced := { x with
    state := .moment, shown := some e, count := frames, showing := x.showing + 1 }
  if x.state = .moment then forced
  else { forced with savedState := x.state, savedEntry := x.shown, savedProgress := x.count }

/-- Entry `e` may be shown on panel `p` as things stand (R167). -/
def Eligible (s : State) (p : Fin 8) (e : Fin 128) : Prop :=
  (s.entry e).enabled = true ∧
    ((s.entry e).cls = .live → s.timing.breakFlag = false) ∧
    ((s.entry e).cls = .duringBreak → s.timing.breakFlag = true) ∧
    ((s.entry e).fulfilled = true → (s.panel p).overrun = true)

/-- An advance search of panel `p` (R168): the first eligible position after the present one, which comes last, begins a
new turn; with none the panel shows its default image. -/
def AdvanceSearched (p : Fin 8) (s t : State) : Prop :=
  let x := s.panel p
  let n := x.listLength
  let start := if x.position.val < n then (x.position.val + 1) % n else 0
  n ≤ 32 →
    (∀ j (k : Fin 32), j < n → k.val = (start + j) % n → Eligible s p (s.listed p k) →
      (∀ i (m : Fin 32), i < j → m.val = (start + i) % n → ¬ Eligible s p (s.listed p m)) →
      t = s.setPanel p
        { x with position := k, shown := some (s.listed p k), count := 0, showing := x.showing + 1 }) ∧
    ((∀ k : Fin 32, k.val < n → ¬ Eligible s p (s.listed p k)) →
      t = s.setPanel p
        { x with
          shown := none, count := 0
          showing := if x.shown = none then x.showing else x.showing + 1 })

/-- The decision of a ROTATING panel (R176): an entry that is eligible and below its dwell stays. -/
def RotationDecided (p : Fin 8) (s t : State) : Prop :=
  let x := s.panel p
  let stays := ∃ e, x.shown = some e ∧ Eligible s p e ∧ x.count < (s.entry e).dwell
  (stays → t = s) ∧ (¬ stays → AdvanceSearched p s t)

/-- The one decision of a panel at a close (R176). A moment at count 0 ends: the saved fields return, and a panel that
is ROTATING again decides at the same close. -/
def PanelDecided (p : Fin 8) (s t : State) : Prop :=
  let x := s.panel p
  let restored := s.setPanel p
    { x with
      state := x.savedState, shown := x.savedEntry, count := x.savedProgress
      savedState := .stopped, savedEntry := none, savedProgress := 0, showing := x.showing + 1 }
  (x.state = .stopped ∨ x.state = .held ∨ (x.state = .moment ∧ x.count ≠ 0) → t = s) ∧
  (x.state = .rotating → RotationDecided p s t) ∧
  (x.state = .moment → x.count = 0 →
    (x.savedState = .rotating → RotationDecided p restored t) ∧
    (x.savedState ≠ .rotating → t = restored))

/-- The count of panel `p` at an exposed frame that latched showing number `showing` (R175). -/
def panelProgressed (p : Fin 8) (showing : Count) (s : State) : State :=
  let x := s.panel p
  s.setPanel p
    { x with
      count :=
        if showing ≠ x.showing then x.count
        else if x.state = .rotating then min 65535 (x.count + 1)
        else if x.state = .moment then x.count - 1
        else x.count }

/-- One EXPOSED increment of entry `e` (R174, R177, R178, R179): COUNTER_HALF when the counter crosses, and, when it has
reached a target above 0 and the flag is no, the flag latched and ENTRY_FULFILLED with its cause and panel. -/
def entryExposed (e : Fin 128) (cause panel : Byte) (s : State) : State :=
  let t := count (.exposed e) s
  let value := (t.counters.exposed.get e).value
  let x := s.entry e
  if 0 < x.target ∧ x.target ≤ value.toNat ∧ x.fulfilled = false then
    (t.setEntry e { x with fulfilled := true }).offer
      [s.report .sponsor 0 .entryFulfilled e.val
        (bytesOf 4 value ++ leBytes 4 x.target ++ [cause, panel])]
  else t

/-- The settlement of panel `p` at the close of a frame of zone `z` (R174 to R176): nothing for a panel the record does
not name; OCCLUDED alone in an alert frame; an exposed frame credits the latched entry, moves the count and is
decided; an occluded one counts OCCLUDED and is decided. -/
def PanelSettled (z : Fin 4) (record : CloseRecord) (p : Fin 8) (s t : State) : Prop :=
  let shown := record.ofPanel p
  let exposes := record.alert = false ∧ ∃ m ∈ shown, m.clear = true ∧ m.served = true
  let latch := (s.sponsor.latches.get z).get p
  (shown = [] → t = s) ∧
  (shown ≠ [] → record.alert = true → t = count (.occluded p) s) ∧
  (exposes → ∀ credited : State,
    (latch.entry = none → credited = s) →
    (∀ e, latch.entry = some e → credited = entryExposed e 0 (BitVec.ofNat 8 p.val) s) →
    PanelDecided p (panelProgressed p latch.showing credited) t) ∧
  (shown ≠ [] → record.alert = false → ¬ exposes → PanelDecided p (count (.occluded p) s) t)

/-- The consumers' part of a close of zone `z` (R57, R82, R174 to R178, R195): the panels in number order, then the
mentioned entries in number order, and the records of the closing frame discarded. -/
def CloseTaken (z : Fin 4) (s t : State) : Prop :=
  let record := s.closeRecord z
  let mentioned := s.mentionList z record
  ∃ settled credited : State,
    InOrder (PanelSettled z record) (List.finRange 8) s settled ∧
    InOrder (fun e a b => b = if e ∈ mentioned then entryExposed e 1 0xFF a else a)
      (List.finRange 128) settled credited ∧
    t = (credited.withComp
      { credited.comp with frameRecord := credited.comp.frameRecord.set z none }).withMessage
      { credited.message with
        record := match credited.message.record with
          | some c => if c.zone = z then none else some c
          | none => none }

/-! ### What a frame start does -/

/-- The test of the hold state under a tag (R196). -/
def holdTested (tag : BitVec 16) (s : State) : State :=
  let u := s.message
  if u.hold = none ∧ u.config.high ≤ u.occupancy then
    (s.withMessage
      { u with hold := some ((u.config.holdTime - u.config.margin) * 1000) }).offer
      [s.report .message tag .queueHold 0
        (leBytes 2 u.config.holdTime ++ leBytes 2 u.occupancy)]
  else if u.hold ≠ none ∧ u.occupancy ≤ u.config.low then
    (s.withMessage { u with hold := none }).offer
      (if u.config.finalNotice = true then
        [s.report .message tag .queueHold 0 ([0, 0] ++ leBytes 2 u.occupancy)] else [])
  else s

/-- The message at place `i` gone from the store and from its class queue (R189, R194). -/
def messageRemoved (i : Fin 64) (s : State) : State :=
  let u := s.message
  s.withMessage
    { u with
      store := u.store.set i none, announce := u.announce.filter (· ≠ i)
      featured := u.featured.filter (· ≠ i), fan := u.fan.filter (· ≠ i) }

/-- The message at place `i` gone with its one report, and the hold state tested (R190, R196). -/
def messageGone (i : Fin 64) (r : Report) (s : State) : State :=
  holdTested 0 ((messageRemoved i s).offer [r])

/-- EXPIRED of the message `m` (R198). -/
def expiredReport (m : Message) (s : State) : Report :=
  s.report .message 0 .expired m.id.toNat
    (leBytes 1 m.cls.number ++ leBytes 1 m.state.number ++ leBytes 2 m.repeats ++
      optionalIndex 1 m.sponsor)

/-- `m` is the message at a place of the crawl. -/
def OnCrawl (place : Option (Fin 64)) (s : State) (i : Fin 64) (m : Message) : Prop :=
  place = some i ∧ s.message.store.get i = some m

/-- Withdrawal at a place of the crawl (R190, step 1): a message with withdrawing yes leaves it, which `vacated` says, and
the store, with WITHDRAWN, AT_FRAME. -/
def WithdrawnAt (place : Option (Fin 64)) (vacated s t : State) : Prop :=
  (∀ i m, OnCrawl place s i m → m.withdrawing = true →
    t = messageGone i (s.report .message 0 .withdrawn m.id.toNat
      (leBytes 1 m.cls.number ++ leBytes 1 m.state.number ++ [1])) vacated) ∧
  ((∀ i m, OnCrawl place s i m → m.withdrawing = false) → t = s)

/-- An empty LEAD takes the message in FOLLOW, its d unchanged (R190, R191). -/
def Promoted (s t : State) : Prop :=
  let u := s.message
  (∀ i, u.lead = none → u.follow = some i →
    t = s.withMessage
      { u with
        store := u.store.set i ((u.store.get i).map fun m => { m with state := .lead })
        lead := some i, follow := none }) ∧
  (u.lead ≠ none ∨ u.follow = none → t = s)

/-- Suspension at a place of the crawl (R193): a message with expiring yes leaves the store with EXPIRED. -/
def SuspendedAt (place : Option (Fin 64)) (s t : State) : Prop :=
  (∀ i m, OnCrawl place s i m → m.expiring = true → t = messageGone i (expiredReport m s) s) ∧
  ((∀ i m, OnCrawl place s i m → m.expiring = false) → t = s)

/-- A message kept returns to the head of its class queue with d 0 (R193). -/
def ReturnedFrom (place : Option (Fin 64)) (s t : State) : Prop :=
  (∀ i m, OnCrawl place s i m →
    t = s.withMessage
      { s.message.setQueue m.cls (i :: s.message.queue m.cls) with
        store := s.message.store.set i (some { m with state := .queued, travel := 0 }) }) ∧
  ((∀ i m, ¬ OnCrawl place s i m) → t = s)

/-- Alert suspension (R193): the crawl emptied, LEAD before FOLLOW, and the former LEAD at the head. -/
def Suspended (s t : State) : Prop :=
  let u := s.message
  ∃ a b c : State,
    SuspendedAt u.lead (s.withMessage { u with lead := none, follow := none }) a ∧
    SuspendedAt u.follow a b ∧ ReturnedFrom u.follow b c ∧ ReturnedFrom u.lead c t

/-- The d of a message at a place of the crawl rises by the speed (R191). -/
def AdvancedAt (place : Option (Fin 64)) (s t : State) : Prop :=
  (∀ i m, OnCrawl place s i m →
    t = s.withMessage
      { s.message with
        store := s.message.store.set i
          (some { m with travel := m.travel + s.message.config.speed }) }) ∧
  ((∀ i m, ¬ OnCrawl place s i m) → t = s)

/-- The width of a message at the present scale (R183). -/
def wide (s : State) (m : Message) : Nat := m.length * 16 * s.message.config.scale

/-- A LEAD that has passed the strip by its whole width finishes (R191): removed with EXPIRED when it is expiring and
with RETIRED after its last repeat, else at the tail of its class queue again; FOLLOW is promoted. -/
def LeadFinished (s t : State) : Prop :=
  let u := s.message
  let vacated := s.withMessage { u with lead := none }
  (∀ i m, OnCrawl u.lead s i m → u.config.width + wide s m ≤ m.travel → ∃ a : State, Promoted a t ∧
    (m.expiring = true → a = messageGone i (expiredReport m s) vacated) ∧
    (m.expiring = false → m.repeats ≤ 1 →
      a = messageGone i (s.report .message 0 .retired m.id.toNat
        (leBytes 1 m.cls.number ++ bytesOf 4 m.order ++ optionalIndex 1 m.sponsor)) vacated) ∧
    (m.expiring = false → 1 < m.repeats →
      a = s.withMessage
        { u.setQueue m.cls (u.queue m.cls ++ [i]) with
          lead := none, orderCounter := u.orderCounter + 1
          store := u.store.set i (some
            { m with
              repeats := m.repeats - 1, travel := 0, state := .queued
              order := u.orderCounter + 1 }) })) ∧
  ((∀ i m, OnCrawl u.lead s i m → m.travel < u.config.width + wide s m) → t = s)

/-- `j` heads the highest non-empty class queue, with `rest` behind it (R185, R192). -/
def Heads (u : MessageUnit) (c : MsgClass) (j : Fin 64) (rest : List (Fin 64)) : Prop :=
  u.queue c = j :: rest ∧ ∀ d : MsgClass, d.number < c.number → u.queue d = []

/-- Admission (R192): with FOLLOW empty and LEAD empty or clear of its entry by the gap, the head of the highest
non-empty class queue enters with d 0. -/
def Admitted (s t : State) : Prop :=
  let u := s.message
  let room := u.follow = none ∧
    ∀ i m, OnCrawl u.lead s i m → wide s m + u.config.gap ≤ m.travel
  (¬ room ∨ (∀ c, u.queue c = []) → t = s) ∧
  (∀ c j rest, room → Heads u c j rest →
    let entered := fun st : MsgState =>
      u.store.set j ((u.store.get j).map fun m => { m with state := st, travel := 0 })
    (u.lead = none → t = s.withMessage
      { u.setQueue c rest with store := entered .lead, lead := some j }) ∧
    (u.lead ≠ none → t = s.withMessage
      { u.setQueue c rest with store := entered .follow, follow := some j }))

/-- What the crawl record keeps of a place of the crawl (R195). -/
def crawlItems (s : State) (place : Option (Fin 64)) : List CrawlItem :=
  match place.bind s.message.store.get with
  | some m => [{ sponsor := m.sponsor, travel := m.travel, width := wide s m }]
  | none => []

/-- The message unit at a frame start of zone `z` (R190, R195): withdrawals, then suspension under the alert latch of the
new frame, or advance, finish and admission; and the crawl record of that zone and frame. -/
def CrawlStarted (z : Fin 4) (s t : State) : Prop :=
  (s.message.config.paceZone ≠ z → t = s) ∧
  (s.message.config.paceZone = z → ∃ a b c d : State,
    WithdrawnAt s.message.lead (s.withMessage { s.message with lead := none }) s a ∧
    WithdrawnAt a.message.follow (a.withMessage { a.message with follow := none }) a b ∧
    Promoted b c ∧
    (s.comp.alertLatch.get z = true → Suspended c d) ∧
    (s.comp.alertLatch.get z = false → ∃ e f g h : State,
      AdvancedAt c.message.lead c e ∧ AdvancedAt c.message.follow e f ∧
      LeadFinished f g ∧ LeadFinished g h ∧ Admitted h d) ∧
    t = d.withMessage
      { d.message with
        record := some
          { zone := z, frame := (s.zone z).frameNumber, alert := s.comp.alertLatch.get z
            crawlWidth := d.message.config.width
            items := crawlItems d d.message.lead ++ crawlItems d d.message.follow } })

/-- The pause an alert puts on the player (R160): in PLAYING, with policy PAUSE and the latch of the new frame yes, at a
frame start of the pace zone. -/
def PausedByAlert (z : Fin 4) (s : State) : Prop :=
  s.player.paceZone = z ∧ s.player.state = .playing ∧ s.player.policy = .pause ∧
    s.alertInForce = true

/-- PAUSED_BY_ALERT, its payload the status after the pause (R160). -/
def pausedReport (s : State) : Report :=
  s.report .player 0 .pausedByAlert 0
    (packPlayer { s.player with state := .paused, cause := .alert, position := s.player.shownPosition })

/-- What the content latch takes (R91, R98): the display texts, the score table, the layouts, the alert text, and for each
place of the crawl a copy of its message. -/
def contentOf (s : State) : ContentLatch :=
  let copied := fun place : Option (Fin 64) => (place.bind s.message.store.get).map fun m =>
    ({ text := m.text, length := m.length, travel := m.travel, colour := m.colour } : CrawlContent)
  { gameText := s.timing.gameText, possText := s.timing.possText, home := s.timing.home
    guest := s.timing.guest, fields := s.timing.fields, layouts := s.glyph.layouts
    alertText := s.glyph.alertText, lead := copied s.message.lead, follow := copied s.message.follow }

/-- The image of a panel (R169): that of its shown entry as the SPONSOR table holds it, else its default image. -/
def imageShown (s : State) (x : Panel) : Image :=
  match x.shown with
  | some e => (s.sponsor.entries.get e).image
  | none => x.defaultImage

/-- A frame start of zone `z` (R50, R56, R57, R58): the zone's own part with REGAINED out of LOST, then the consumers in
unit order: the compositor, the player with PAUSED_BY_ALERT, the sponsor unit's latches, the message unit with
its reports; and the content latch, which takes the crawl as the message unit leaves it. What the compositor and
the player become, ActiveSets and PlayerPacing say. -/
def FrameStarted (z : Fin 4) (s t : State) : Prop :=
  let zone := s.zone z
  let opened := (s.setZone z
    { zone with
      state := .scanning, frameNumber := zone.frameNumber + 1, coverage := []
      lossTimer := some 0 }).offer
    (if zone.state = .lost then
      [s.report .zoneTiming 0 .regained z.val (bytesOf 4 (zone.frameNumber + 1))] else [])
  ∃ (paused : List Report) (panels : Tab PanelLatch 8) (crawled : State),
    (PausedByAlert z s → paused = [pausedReport s]) ∧ (¬ PausedByAlert z s → paused = []) ∧
    (∀ p, panels.get p =
      { entry := (s.panel p).shown, image := imageShown s (s.panel p)
        showing := (s.panel p).showing }) ∧
    CrawlStarted z
      ((((opened.withComp t.comp).withPlayer t.player).offer paused).withSponsor
        { s.sponsor with latches := s.sponsor.latches.set z panels }) crawled ∧
    t = crawled.withGlyph
      { s.glyph with latches := s.glyph.latches.set z (some (contentOf crawled)) }

/-! ### Zone pulses -/

/-- R49 to R52, R56, R57. An edge against the sense, and any edge of an IDLE zone, does nothing; an early pulse in
IGNORE_EARLY is refused, reported unless the level is NONE, and counted; every other pulse starts a frame, and
each consumer latches for that zone what it shows: the alert, the player's slot, the panels, the content. In
SCANNING the open frame is closed first. The reports stand in the order of R58: FRAME and the zone's
COUNTER_HALF or REGAINED, those of the close, then those of the start. That a close discards the crawl record of its
zone whatever its frame is the model's reading (assumption log 35). -/
def Obligations.ZonePulses : Prop :=
  ∀ (z : Fin 4) (edge : Edge) (s : State), s.Running →
    let zone := s.zone z
    let pinned := s.withPins (pulsePins z edge s)
    (edge ≠ zone.sense ∨ zone.state = .idle → exec (.zonePulse z edge) s = .next pinned) ∧
    (edge = zone.sense → zone.state = .scanning → zone.mode = .ignoreEarly → ¬ Covered zone →
      exec (.zonePulse z edge) s = .next (count (zoneCounter z 2)
        (if zone.level = .none then pinned
         else pinned.offer [s.report .zoneTiming 0 .syncError z.val
          (bytesOf 4 zone.frameNumber ++ leBytes 2 zone.coverage.length)]))) ∧
    (StartsFrame z edge s → ∃ (complete : Bool) (closed t : State),
      exec (.zonePulse z edge) s = .next t ∧
      (complete = true ↔ Covered zone) ∧
      (zone.state = .scanning → CloseTaken z (frameCounted z complete false pinned) closed) ∧
      (zone.state ≠ .scanning → closed = pinned) ∧
      FrameStarted z closed t ∧
      t.zones = s.zones.set z
        { zone with
          state := .scanning, frameNumber := zone.frameNumber + 1, coverage := []
          lossTimer := some 0 } ∧
      t.pins = pulsePins z edge s ∧ t.pending = s.pending ∧ t.timing = s.timing ∧
      t.capture = s.capture ∧
      t.comp.alertLatch = s.comp.alertLatch.set z s.alertInForce ∧
      t.comp.staged = s.comp.staged ∧
      t.player.latched = s.player.latched.set z t.player.selection ∧
      (∀ p, (t.sponsor.latches.get z).get p =
        { entry := (t.panel p).shown, image := imageShown t (t.panel p)
          showing := (t.panel p).showing }) ∧
      t.glyph = { s.glyph with latches := s.glyph.latches.set z (some (contentOf t)) })

/-- R54, R58, R59, R82, R174 to R180, R195. What a frame closed by a pulse counts: FRAMES, and SHORT when a line was not covered;
OCCLUDED of a panel whose windows were not clear and wholly served, and of every panel in an alert frame; and
EXPOSED of an entry, once for each panel that showed it clear and wholly served, and once when it was mentioned.
The close moves the counts of the panels, decides their rotation and latches fulfilled flags as CloseTaken says,
with the reports of FRAME, COUNTER_HALF and ENTRY_FULFILLED in the order of R58 and R179, and the frame start that
follows adds its own. The record names every SPONSOR and CRAWL window of the frame (R82), and the mentions are those
of the crawl record of that zone and frame (R195); that the close discards the record of its zone whatever its frame
is the model's reading (assumption log 35). -/
def Obligations.FrameCloseAccounting : Prop :=
  ∀ (z : Fin 4) (edge : Edge) (s : State), StartsFrame z edge s → (s.zone z).state = .scanning →
    ∃ (complete : Bool) (closed t : State), exec (.zonePulse z edge) s = .next t ∧
      let record := s.closeRecord z
      let onStrip := fun (c : CrawlRecord) (i : CrawlItem) =>
        0 < i.travel ∧ i.travel < c.crawlWidth + i.width
      (complete = true ↔ Covered (s.zone z)) ∧
      CloseTaken z (frameCounted z complete false (s.withPins (pulsePins z edge s))) closed ∧
      t.sponsor = { closed.sponsor with latches := t.sponsor.latches } ∧
      t.counters = closed.counters ∧
      (∃ started : List Report, t.cmd = (closed.offer started).cmd ∧
        t.bus = (closed.offer started).bus ∧
        ∀ r ∈ started, r.unit = .player ∨ r.unit = .message) ∧
      record.zone = z ∧ record.alert = s.comp.alertLatch.get z ∧
      (∀ c, c ∈ record.marks ↔ ∃ marks, s.comp.frameRecord.get z = some marks ∧ ∃ m ∈ marks, ∃ w,
        (s.comp.active.get z).get m.window = some w ∧
        c = { window := m.window, kind := w.kind, panel := w.panel, clear := m.clear
              served := decide (∀ k, k < w.height → w.top + k ∈ m.lines) }) ∧
      (∀ e, e ∈ s.mentionList z record ↔ ∃ c, s.message.record = some c ∧ c.zone = z ∧
        c.frame = (s.zone z).frameNumber ∧ record.alert = false ∧
        (∃ m ∈ record.marks, m.kind = .crawl ∧ m.clear = true ∧ m.served = true) ∧
        ∃ i ∈ c.items, i.sponsor = some e ∧ onStrip c i) ∧
      let bump := Counter.bump s.cmd.saturate
      let exposes := fun p => record.alert = false ∧
        ∃ m ∈ record.ofPanel p, m.clear = true ∧ m.served = true
      t.counters.get (zoneCounter z 0) = bump (s.counters.get (zoneCounter z 0)) ∧
      (Covered (s.zone z) →
        t.counters.get (zoneCounter z 1) = s.counters.get (zoneCounter z 1)) ∧
      (¬ Covered (s.zone z) →
        t.counters.get (zoneCounter z 1) = bump (s.counters.get (zoneCounter z 1))) ∧
      (∀ y k, y ≠ z ∨ 2 ≤ k.val →
        t.counters.get (zoneCounter y k) = s.counters.get (zoneCounter y k)) ∧
      t.counters.path = s.counters.path ∧
      (∀ p, record.ofPanel p = [] ∨ exposes p →
        t.counters.get (.occluded p) = s.counters.get (.occluded p)) ∧
      (∀ p, record.ofPanel p ≠ [] → ¬ exposes p →
        t.counters.get (.occluded p) = bump (s.counters.get (.occluded p))) ∧
      (∀ (e : Fin 128) (showing : List (Fin 8)), showing.Nodup →
        (∀ p, p ∈ showing ↔
          exposes p ∧ ((s.sponsor.latches.get z).get p).entry = some e) →
        t.counters.get (.exposed e) =
          bump^[showing.length + if e ∈ s.mentionList z record then 1 else 0]
            (s.counters.get (.exposed e)))

/-- A window bounded to a zone's lines and width, inert when it lies outside them (R68). -/
def bounded (zone : Zone) (w : Window) : Window :=
  if w.top < zone.lines ∧ w.left < zone.width then
    { w with height := min w.height (zone.lines - w.top)
             width := min w.width (zone.width - w.left) }
  else { w with height := 0, width := 0 }

/-- R67, R68, R69, R71, R80. At a frame start the zone takes the staged windows that name it when an APPLY is pending, and keeps those
it took when none is; every window is bounded to the zone as it stands; and the record marks each enabled SPONSOR
and CRAWL window that is not inert, clear when no window that counts and ranks above it shares a line and a column
with it. The staged windows and the ALERT_ON flag stay, and the zone latches the alert in force. That the bounds are taken afresh from the height and width deposited, so that in a zone grown since a window
regains what an earlier frame start cut from it, is the model's reading (assumption log 16). -/
def Obligations.ActiveSets : Prop :=
  ∀ (z : Fin 4) (edge : Edge) (s : State), StartsFrame z edge s →
    ∃ (t : State) (marks : List FrameMark), exec (.zonePulse z edge) s = .next t ∧
      t.comp.staged = s.comp.staged ∧ t.comp.alertOn = s.comp.alertOn ∧
      t.comp.alertLatch = s.comp.alertLatch.set z s.alertInForce ∧
      t.comp.applyPending = s.comp.applyPending.set z false ∧
      t.comp.frameRecord.get z = some marks ∧
      (∀ y, y ≠ z → t.comp.taken.get y = s.comp.taken.get y ∧
        t.comp.active.get y = s.comp.active.get y ∧
        t.comp.frameRecord.get y = s.comp.frameRecord.get y) ∧
      (∀ i, (t.comp.taken.get z).get i =
        if s.comp.applyPending.get z = true then
          if (s.comp.staged.get i).zone = z then some (s.comp.staged.get i) else none
        else (s.comp.taken.get z).get i) ∧
      (∀ i, (t.comp.active.get z).get i =
        ((t.comp.taken.get z).get i).map (bounded (s.zone z))) ∧
      (∀ i, (∃ m ∈ marks, m.window = i) ↔
        ∃ w, (t.comp.active.get z).get i = some w ∧ w.enabled = true ∧ w.height ≠ 0 ∧
          w.width ≠ 0 ∧ (w.kind = .sponsor ∨ w.kind = .crawl)) ∧
      (∀ m ∈ marks, m.lines = [] ∧
        ∀ w, (t.comp.active.get z).get m.window = some w →
          (m.clear = true ↔ ∀ j v, (t.comp.active.get z).get j = some v → v.enabled = true →
            v.height ≠ 0 → v.width ≠ 0 → (v.kind = .alert → s.alertInForce = true) →
            w.kind.rank < v.kind.rank ∨ (v.kind = w.kind ∧ j < m.window) →
            v.top + v.height ≤ w.top ∨ w.top + w.height ≤ v.top ∨
              v.left + v.width ≤ w.left ∨ w.left + w.width ≤ v.left))

/-- The fields of a PROBE report in packing order, what is absent all ones (R84): zone, line, granule, beat, outcome, source
window, address, the first three windows of the glyph list, and the alert latch. -/
def probeFields (zone : Option (Fin 4)) (place : Option ReadPlace) (outcome : Nat)
    (source : Option (Fin 16)) (address : Option Nat) (glyphs : List (Fin 16)) (latch : Bool) :
    List (Nat × Nat) :=
  let number := fun (w : Nat) (o : Option Nat) =>
    (w, match o with
      | some v => v
      | none => 256 ^ w - 1)
  [orOnes 1 zone, number 2 (place.map ReadPlace.line), number 2 (place.map ReadPlace.granule),
   number 1 (place.map ReadPlace.beat), (1, outcome), orOnes 1 source, number 5 address,
   orOnes 1 glyphs[0]?, orOnes 1 glyphs[1]?, orOnes 1 glyphs[2]?, flag latch]

/-- R66, R69, R70, R83, R84. APPLY sets every zone's flag; ALERT_ON, ALERT_OFF and a change of ALERT_IN post ALERT_CHANGE
exactly when the alert in force changes, which it is while ALERT_IN is high or the flag is set. PROBE answers one report of 17 bytes and changes nothing, and refuses an
address beyond the address space RANGE; its fields are those of the beat that holds the address, as stages 1 to 3
compose it: OUTSIDE in the control area and outside every enabled zone, else PADDING, ORIGINAL, TRANSLATED or FILL
in the lowest-numbered enabled zone that holds it. -/
def Obligations.AlertApplyProbe : Prop :=
  ∀ (h : Header) (level : Bool) (address : BitVec 40) (s : State), s.Running →
    let changed := fun (tag : BitVec 16) (t : State) =>
      if t.alertInForce = s.alertInForce then t
      else t.offer [s.report .compositor tag .alertChange 0
        [if t.alertInForce then 1 else 0, if t.pins.alertIn then 1 else 0,
          if t.comp.alertOn then 1 else 0]]
    (∀ t : State, t.alertInForce = true ↔ t.pins.alertIn = true ∨ t.comp.alertOn = true) ∧
    exec (.apply h) s = .next
      ((s.withComp { s.comp with applyPending := Tab.fill 4 true }).done 0x10 .compositor h false
        []) ∧
    exec (.alertOn h) s = .next
      ((changed h.tag (s.withComp { s.comp with alertOn := true })).done 0x11 .compositor h false
        []) ∧
    exec (.alertOff h) s = .next
      ((changed h.tag (s.withComp { s.comp with alertOn := false })).done 0x12 .compositor h false
        []) ∧
    exec (.alertInChange level) s = .next
      (changed 0 (s.withPins { s.pins with alertIn := level })) ∧
    (0x1000000000 ≤ address.toNat →
      exec (.probe h address) s = .next (s.refuse 0x13 .compositor h .range)) ∧
    (address.toNat < 0x1000000000 →
      let a := address.toNat / 8 * 8
      let result := s.probe a
      result.bytes.length = 17 ∧
      (AreaHolds a s ∨ (∀ z, ¬ ZoneHolds z a s) →
        result.bytes = packed (probeFields none none 0 none none [] false)) ∧
      (∀ z, ¬ AreaHolds a s → ZoneHolds z a s → (∀ y, y < z → ¬ ZoneHolds y a s) →
        let p := placeOf (s.zone z) a
        let latch := s.comp.alertLatch.get z
        ((s.zone z).width ≤ p.granule →
          result.bytes = packed (probeFields (some z) (some p) 1 none (some a) [] latch)) ∧
        (p.granule < (s.zone z).width → ∃ (l : List Placed) (source : Option (Placed × Image)),
          ListsGlyphs s z p l ∧ SourceChosen s z p source ∧
          let glyphs := l.map Prod.fst
          (source = none →
            result.bytes = packed (probeFields (some z) (some p) 2 none (some a) glyphs latch)) ∧
          (∀ i w image, source = some ((i, w), image) →
            ∃ target : Option Nat, Translates w image p 1 target ∧
              (∀ b, target = some b → result.bytes = packed
                (probeFields (some z) (some p) 3 (some i) (some b) glyphs latch)) ∧
              (target = none → result.bytes = packed
                (probeFields (some z) (some p) 4 (some i) none glyphs latch))))) ∧
      exec (.probe h address) s = .next
        (s.offer [s.report .compositor h.tag .probe 0 result.bytes]))

/-! ## The millisecond pulse -/

/-- The next pulse takes the zone LOST (R55). -/
abbrev LossDue (z : Zone) : Prop := z.state = .scanning ∧ z.lossTimeout ≤ z.lossTimer.getD 0 + 1

/-- The loss of zone `z` (R54, R55, R58): the open frame is counted as not complete with cause LOSS, then LOST; LOST is
posted, the zone goes LOST, and the consumers take the close. -/
def FrameLost (z : Fin 4) (s t : State) : Prop :=
  let zone := s.zone z
  CloseTaken z
    (((count (zoneCounter z 3) (frameCounted z false true s)).offer
      [s.report .zoneTiming 0 .lost z.val
        (bytesOf 4 zone.frameNumber ++ leBytes 2 zone.coverage.length)]).setZone z
      { zone with state := .lost, coverage := [], lossTimer := none }) t

/-- The millisecond pulse at zone `z` (R55). -/
def ZonePulsed (z : Fin 4) (s t : State) : Prop :=
  let zone := s.zone z
  (LossDue zone → FrameLost z s t) ∧
  (zone.state = .scanning → ¬ LossDue zone →
    t = s.setZone z { zone with lossTimer := some (zone.lossTimer.getD 0 + 1) }) ∧
  (zone.state ≠ .scanning → t = s)

/-- The clock moved from `before` to `after` across a mark that is enabled and has not fired (R120). -/
def MarkFires (mode : ClockMode) (before after : Nat) (m : Mark) : Prop :=
  m.enabled = true ∧ m.fired = false ∧
    if mode = .down then m.value < before ∧ after ≤ m.value
    else before < m.value ∧ m.value ≤ after

/-- Mark `i` at a pulse in which the game clock moved from `before` (R120, R173): MARK, then the action, a horn trigger or
a moment on the mark's panel for its frames. -/
def MarkTaken (before : Nat) (i : Fin 4) (s t : State) : Prop :=
  let u := s.timing
  let m := u.marks.get i
  let marked := { u with marks := u.marks.set i { m with fired := true } }
  let posted := fun v : TimingUnit => (s.withTiming v).offer
    [s.report .timing 0 .mark i.val
      (leBytes 4 m.value ++ leBytes 1 m.action.number ++ leBytes 4 u.value)]
  (¬ MarkFires u.mode before u.value m → t = s) ∧
  (MarkFires u.mode before u.value m →
    (m.action = .report → t = posted marked) ∧
    (m.action = .reportHorn →
      t = posted { marked with hornG := { u.hornG with remaining := u.hornG.duration } }) ∧
    (∀ (p : Fin 8) (e : Fin 128), m.action = .moment → m.panel = p.val → m.entry = e.val →
      t = (posted marked).setPanel p (forcedPanel e m.frames (s.panel p))))

/-- A message has reached its expiry at an uptime count (R194). -/
def Reached (m : Message) (uptime : Count) : Prop := (uptime - m.expiry).toNat < 2 ^ 31

/-- Expiry at place `i` of the store (R194): a message off the crawl leaves with EXPIRED, one on it is marked, unless it
is withdrawing. -/
def ExpiryTaken (i : Fin 64) (s t : State) : Prop :=
  (∀ m, s.message.store.get i = some m → Reached m s.timing.uptime →
    (m.state = .assembling ∨ m.state = .queued →
      t = (messageRemoved i s).offer [expiredReport m s]) ∧
    (m.state = .lead ∨ m.state = .follow → t = s.withMessage
      { s.message with
        store := s.message.store.set i
          (some { m with expiring := if m.withdrawing = true then m.expiring else true }) })) ∧
  ((∀ m, s.message.store.get i = some m → ¬ Reached m s.timing.uptime) → t = s)

/-- The message unit at a millisecond pulse (R104, R194, R196, R197): expiry place by place, the test of the hold state,
and the hold timer, which is set again with QUEUE_HOLD when it runs out. -/
def MessagesPulsed (s t : State) : Prop :=
  ∃ expired : State, InOrder ExpiryTaken (List.finRange 64) s expired ∧
    let tested := holdTested 0 expired
    let u := tested.message
    (u.hold = none → t = tested) ∧
    (∀ n, u.hold = some n → 1 < n → t = tested.withMessage { u with hold := some (n - 1) }) ∧
    (∀ n, u.hold = some n → n ≤ 1 →
      t = (tested.withMessage
        { u with hold := some ((u.config.holdTime - u.config.margin) * 1000) }).offer
        [s.report .message 0 .queueHold 0
          (leBytes 2 u.config.holdTime ++ leBytes 2 u.occupancy)])

/-- R103, R104, R111, R116, R118, R120, R124, R54, R55, R58, R194, R197. What one millisecond pulse does, in the order of
R104 and with its reports: the zones in number order, a loss with its close and its counters FRAMES, SHORT and LOST; the
game and possession clocks with EXPIRED, POSS_EXPIRED and STOPPED, cause POSSESSION; the marks with MARK and their
actions; the message unit. Its timing unit and its zones are said outright besides, and what it leaves alone.
MS_PULSE is the cycles up to the next pulse and that pulse, and a step on an empty queue is one REFCLK cycle (the
model's choices, assumption logs 2 and 3); that the reports of a pulse carry the advanced uptime count (assumption
log 33), and that a close discards the crawl record of its zone whatever its frame (assumption log 35), are its
readings. -/
def Obligations.MillisecondPulse : Prop :=
  ∀ s : State, s.Running →
    let u := s.timing
    let was := u.state = .running
    let value :=
      if was then (if u.mode = .down then u.value - 1 else min 5999000 (u.value + 1))
      else u.value
    let expires := was ∧ value = (if u.mode = .down then 0 else 5999000)
    let counts := was ∧ u.possEnabled = true ∧ 0 < u.possValue
    let runsOut := counts ∧ u.possValue = 1
    let halts := runsOut ∧ u.stopGame = true ∧ ¬ expires
    let fires := fun i => was ∧ MarkFires u.mode u.value value (u.marks.get i)
    (u.value ≤ 5999000 → ∃ t : State, exec .msPulse s = .next t ∧
      (∃ zoned timed marked : State,
        let begun := s.withTiming
          { u with uptime := t.timing.uptime, accumulator := t.timing.accumulator }
        InOrder ZonePulsed (List.finRange 4) begun zoned ∧
        timed = (zoned.withTiming
          { begun.timing with
            value := value, captured := t.timing.captured, possValue := t.timing.possValue
            state := t.timing.state, hornP := t.timing.hornP
            hornG := { u.hornG with
              remaining := if expires then u.hornG.duration else u.hornG.remaining - 1 } }).offer
          ((if expires then
              [begun.report .timing 0 .expired 0
                ((if u.mode = .down then [0] else [1]) ++ leBytes 4 value)] else []) ++
            (if runsOut then
              [begun.report .timing 0 .possExpired 0
                (leBytes 4 value ++ [if expires then 2 else 1])] else []) ++
            if halts then [begun.report .timing 0 .stopped 0 (leBytes 4 value ++ [2])] else []) ∧
        (was → InOrder (MarkTaken u.value) (List.finRange 4) timed marked) ∧
        (¬ was → marked = timed) ∧
        MessagesPulsed marked t) ∧
      t.timing.uptime = u.uptime + 1 ∧
      t.timing.accumulator =
        u.accumulator + 1000 * max 1 ((u.refRate - u.accumulator + 999) / 1000) - u.refRate ∧
      t.timing.value = value ∧
      t.timing.state = (if expires then .expired else if halts then .stopped else u.state) ∧
      t.timing.captured = (if halts then value else u.captured) ∧
      t.timing.possValue = (if counts then u.possValue - 1 else u.possValue) ∧
      (expires ∨ (∃ i, fires i ∧ (u.marks.get i).action = .reportHorn) →
        t.timing.hornG = { u.hornG with remaining := u.hornG.duration }) ∧
      (¬ expires → (∀ i, fires i → (u.marks.get i).action ≠ .reportHorn) →
        t.timing.hornG = { u.hornG with remaining := u.hornG.remaining - 1 }) ∧
      t.timing.hornP =
        { u.hornP with
          remaining := if runsOut then u.hornP.duration else u.hornP.remaining - 1 } ∧
      (∀ i, (fires i → t.timing.marks.get i = { u.marks.get i with fired := true }) ∧
        (¬ fires i → t.timing.marks.get i = u.marks.get i)) ∧
      t.timing =
        { u with
          uptime := t.timing.uptime, accumulator := t.timing.accumulator, value := t.timing.value
          state := t.timing.state, captured := t.timing.captured
          possValue := t.timing.possValue, hornG := t.timing.hornG, hornP := t.timing.hornP
          marks := t.timing.marks } ∧
      (∀ z, t.zone z =
        if LossDue (s.zone z) then
          { s.zone z with state := .lost, coverage := [], lossTimer := none }
        else if (s.zone z).state = .scanning then
          { s.zone z with lossTimer := some ((s.zone z).lossTimer.getD 0 + 1) }
        else s.zone z) ∧
      (∀ z k, t.counters.get (zoneCounter z k) =
        if LossDue (s.zone z) ∧ k ≠ 2 then (s.counters.get (zoneCounter z k)).bump s.cmd.saturate
        else s.counters.get (zoneCounter z k)) ∧
      t.pending = s.pending ∧ t.pins = s.pins ∧ t.glyph = s.glyph ∧ t.capture = s.capture ∧
      t.player = s.player ∧ t.free = s.free ∧ t.comp.staged = s.comp.staged ∧
      t.comp.taken = s.comp.taken ∧ t.comp.active = s.comp.active ∧ t.comp.alertOn = s.comp.alertOn) ∧
    (s.pending = [] → u.accumulator + 1000 < u.refRate →
      step s = .next (s.withTiming { u with accumulator := u.accumulator + 1000 })) ∧
    (s.pending = [] → u.refRate ≤ u.accumulator + 1000 → step s = exec .msPulse s)

/-- R55, R111, R116, R118, R194, R196, R197. An expiry row is the millisecond pulse in which the timer runs out, and does nothing
while that is not the next one (the model's choice, assumption logs 4 and 5). At a pulse an expired message that
is not on the crawl leaves the store and one on the crawl is marked expiring; the hold timer counts down and is
set again when it runs out. MessagesPulsed says the message unit's whole part, with EXPIRED and QUEUE_HOLD, under the advanced uptime
count (the model's reading, assumption log 33). -/
def Obligations.ExpiryRows : Prop :=
  ∀ (z : Fin 4) (which : HornId) (i : Fin 64) (s : State), s.Running →
    let u := s.timing
    let horn := match which with
      | .game => u.hornG
      | .possession => u.hornP
    let gameDue := u.state = .running ∧
      (if u.mode = .down then u.value ≤ 1 else 5999000 ≤ u.value + 1)
    let possDue := u.state = .running ∧ u.possEnabled = true ∧ u.possValue = 1
    (LossDue (s.zone z) → exec (.zoneLoss z) s = exec .msPulse s) ∧
    (¬ LossDue (s.zone z) → exec (.zoneLoss z) s = .next s) ∧
    (u.value ≤ 5999000 → gameDue → exec .gameClockExpire s = exec .msPulse s) ∧
    (u.value ≤ 5999000 → ¬ gameDue → exec .gameClockExpire s = .next s) ∧
    (possDue → exec .possExpire s = exec .msPulse s) ∧
    (¬ possDue → exec .possExpire s = .next s) ∧
    (horn.remaining = 1 → exec (.hornExpire which) s = exec .msPulse s) ∧
    (horn.remaining ≠ 1 → exec (.hornExpire which) s = .next s) ∧
    ((∃ m, s.message.store.get i = some m ∧ Reached m (u.uptime + 1)) →
      exec (.messageExpire i) s = exec .msPulse s) ∧
    ((∀ m, s.message.store.get i = some m → ¬ Reached m (u.uptime + 1)) →
      exec (.messageExpire i) s = .next s) ∧
    ((∃ t, s.message.hold = some t ∧ t ≤ 1) →
      exec .holdTimerExpire s = exec .msPulse s) ∧
    ((∀ t, s.message.hold = some t → 1 < t) → exec .holdTimerExpire s = .next s) ∧
    (∃ t : State, exec .msPulse s = .next t ∧
      (∃ marked : State,
        marked.message = { s.message with record := marked.message.record } ∧
        marked.timing.uptime = u.uptime + 1 ∧ MessagesPulsed marked t) ∧
      (∀ j m, s.message.store.get j = some m →
        (¬ Reached m (u.uptime + 1) → t.message.store.get j = some m) ∧
        (Reached m (u.uptime + 1) → m.state = .assembling ∨ m.state = .queued →
          t.message.store.get j = none) ∧
        (Reached m (u.uptime + 1) → m.state = .lead ∨ m.state = .follow →
          t.message.store.get j = some
            { m with expiring := if m.withdrawing = true then m.expiring else true })) ∧
      (∀ n, s.message.hold = some n → s.message.config.low < t.message.occupancy →
        t.message.hold =
          some (if n ≤ 1 then (s.message.config.holdTime - s.message.config.margin) * 1000
            else n - 1)) ∧
      (s.message.hold = none → t.message.occupancy < s.message.config.high →
        t.message.hold = none))

/-! ## The timing unit -/

/-- R106, R109, R110, R114, R115. CLOCK_START and CLOCK_STOP by the clock's state, BREAK_ON and BREAK_OFF, CLOCK_MODE, and
CLOCK_CONFIG with its ranges, which restarts the accumulator for a new reference rate alone. -/
def Obligations.ClockCommands : Prop :=
  ∀ (h : Header) (refRate threshold duration : BitVec 32) (mode startSense stopSense : Byte)
    (s : State), s.Running →
    let u := s.timing
    let startable := u.state = .stopped ∧ (if u.mode = .down then 0 < u.value else u.value < 5999000)
    (startable → exec (.clockStart h) s = .next
      ((s.withTiming { u with state := .running, breakFlag := false }).done 0x21 .timing h false
        [])) ∧
    (¬ startable → exec (.clockStart h) s = .next (s.refuse 0x21 .timing h .state)) ∧
    (u.state = .running → exec (.clockStop h) s = .next
      (((s.withTiming { u with state := .stopped, captured := u.value }).offer
        [s.report .timing h.tag .stopped 0 (leBytes 4 u.value ++ [1])]).done 0x22 .timing h false
        [])) ∧
    (u.state ≠ .running → exec (.clockStop h) s = .next (s.refuse 0x22 .timing h .state)) ∧
    (u.state = .running → exec (.breakOn h) s = .next (s.refuse 0x26 .timing h .state)) ∧
    (u.state ≠ .running → exec (.breakOn h) s = .next
      ((s.withTiming { u with breakFlag := true }).done 0x26 .timing h false [])) ∧
    exec (.breakOff h) s = .next
      ((s.withTiming { u with breakFlag := false }).done 0x27 .timing h false []) ∧
    (1 < mode.toNat → exec (.clockMode h mode) s = .next (s.refuse 0x25 .timing h .unknown)) ∧
    (mode.toNat ≤ 1 → u.state ≠ .stopped →
      exec (.clockMode h mode) s = .next (s.refuse 0x25 .timing h .state)) ∧
    (mode.toNat ≤ 1 → u.state = .stopped → exec (.clockMode h mode) s = .next
      ((s.withTiming { u with mode := if mode = 0 then .down else .up }).done 0x25 .timing h false
        [])) ∧
    (1 < mode.toNat ∨ 2 < startSense.toNat ∨ 2 < stopSense.toNat →
      exec (.clockConfig h refRate mode startSense stopSense threshold duration) s =
        .next (s.refuse 0x20 .timing h .unknown)) ∧
    (∀ inputMode start stop, inputMode? mode.toNat = some inputMode →
      lineSense? startSense.toNat = some start → lineSense? stopSense.toNat = some stop →
      let f := max 1000000 (min 50000000 refRate.toNat)
      let tenths := min 100000 threshold.toNat
      let horn := max 100 (min 5000 duration.toNat)
      exec (.clockConfig h refRate mode startSense stopSense threshold duration) s = .next
        ((s.withTiming
          { u with
            refRate := f, accumulator := if f = u.refRate then u.accumulator else 0
            inputMode := inputMode, startSense := start, stopSense := stop, threshold := tenths
            hornG := { u.hornG with duration := horn } }).done 0x20 .timing h
          (decide (¬ (f = refRate.toNat ∧ tenths = threshold.toNat ∧ horn = duration.toNat))) []))

/-- The game clock set to `v` by the command `code`, acknowledged with the resulting value and state (R112). -/
def clockSetTo (code : Nat) (h : Header) (v : Nat) (clamped : Bool) (s : State) : State :=
  let u := s.timing
  let limit := if u.mode = .down then 0 else 5999000
  if u.state = .running ∧ v = limit then
    ((s.withTiming
      { u with
        value := v, state := .expired
        hornG := { u.hornG with remaining := u.hornG.duration } }).offer
      [s.report .timing h.tag .expired 0
        ((if u.mode = .down then [0] else [1]) ++ leBytes 4 v)]).done code .timing h clamped
      (leBytes 4 v ++ [2])
  else
    let state := if u.state = .expired ∧ v ≠ limit then .stopped else u.state
    (s.withTiming { u with value := v, state := state }).done code .timing h clamped
      (leBytes 4 v ++ leBytes 1 state.number)

/-- R112, R113. CLOCK_SET and CLOCK_ADJUST: the new value brought into 0 to 5,999,000 acts by the clock's state; one that
brings a RUNNING clock to its limit expires it with the horn and EXPIRED under the command's tag; no mark fires. -/
def Obligations.ClockSetAndAdjust : Prop :=
  ∀ (h : Header) (value delta : BitVec 32) (s : State), s.Running →
    let sum : Int := (s.timing.value : Int) + delta.toInt
    exec (.clockSet h value) s = .next
      (clockSetTo 0x23 h (min 5999000 value.toNat) (decide (5999000 < value.toNat)) s) ∧
    exec (.clockAdjust h delta) s = .next
      (clockSetTo 0x24 h (max 0 (min 5999000 sum)).toNat (decide (sum < 0 ∨ 5999000 < sum)) s)

/-- R117. The possession commands, and an edge of PC_RESET, which loads the preset when it has the direction of its sense
and RESET_N is released. An enabled field above 1 is UNKNOWN (the model's reading, assumption log 12). -/
def Obligations.PossessionCommands : Prop :=
  ∀ (h : Header) (preset threshold duration value : BitVec 32) (stopGame sense enabled : Byte)
    (edge : Edge) (s : State),
    let u := s.timing
    let pinned := s.withPins { s.pins with pcReset := decide (edge = .rising) }
    (s.Running → 1 < stopGame.toNat ∨ 2 < sense.toNat →
      exec (.possConfig h preset threshold stopGame sense duration) s =
        .next (s.refuse 0x28 .timing h .unknown)) ∧
    (∀ stops line, s.Running → yesNo? stopGame.toNat = some stops →
      lineSense? sense.toNat = some line →
      let load := max 1000 (min 99000 preset.toNat)
      let text := min 99000 threshold.toNat
      let horn := max 100 (min 5000 duration.toNat)
      exec (.possConfig h preset threshold stopGame sense duration) s = .next
        ((s.withTiming
          { u with
            possPreset := load, possThreshold := text, stopGame := stops, pcSense := line
            hornP := { u.hornP with duration := horn } }).done 0x28 .timing h
          (decide (¬ (load = preset.toNat ∧ text = threshold.toNat ∧ horn = duration.toNat)))
          [])) ∧
    (s.Running → 1 < enabled.toNat →
      exec (.possEnable h enabled) s = .next (s.refuse 0x29 .timing h .unknown)) ∧
    (s.Running → enabled.toNat ≤ 1 → exec (.possEnable h enabled) s = .next
      ((s.withTiming { u with possEnabled := decide (enabled = 1) }).done 0x29 .timing h false
        [])) ∧
    (s.Running → exec (.possReset h) s = .next
      ((s.withTiming { u with possValue := u.possPreset }).done 0x2A .timing h false [])) ∧
    (s.Running → exec (.possSet h value) s = .next
      ((s.withTiming { u with possValue := min 99000 value.toNat }).done 0x2B .timing h
        (decide (99000 < value.toNat)) [])) ∧
    (s.Running → u.pcSense = some edge →
      exec (.pcReset edge) s = .next (pinned.withTiming { u with possValue := u.possPreset })) ∧
    (s.pins.resetAsserted = true ∨ u.pcSense ≠ some edge →
      exec (.pcReset edge) s = .next pinned)

/-- R116, R123. HORN triggers or silences the named horn; the score commands bring the result into 0 to 999 or 0 to 99 and
answer it. The lines HORN_G and HORN_P are asserted exactly while their horn has time left. That a record gives the
field number 1 byte is the model's reading (assumption log 40). -/
def Obligations.HornAndScore : Prop :=
  (∀ t : State, (t.hornGLine = true ↔ 0 < t.timing.hornG.remaining) ∧
    (t.hornPLine = true ↔ 0 < t.timing.hornP.remaining)) ∧
  ∀ (h : Header) (which action side field : Byte) (value : BitVec 16) (delta : BitVec 32)
    (s : State), s.Running →
    let u := s.timing
    let scored := fun (code : Nat) (t : TimingUnit) (clamped : Bool) (v : Nat) =>
      (s.withTiming t).done code .timing h clamped (leBytes 2 v)
    let brought := fun (top : Nat) (sum : Int) => (max 0 (min (top : Int) sum)).toNat
    (1 < which.toNat ∨ 1 < action.toNat →
      exec (.horn h which action) s = .next (s.refuse 0x2C .timing h .unknown)) ∧
    (which = 0 → action.toNat ≤ 1 → exec (.horn h which action) s = .next
      ((s.withTiming
        { u with
          hornG := { u.hornG with
            remaining := if action = 0 then u.hornG.duration else 0 } }).done 0x2C .timing h false
        [])) ∧
    (which = 1 → action.toNat ≤ 1 → exec (.horn h which action) s = .next
      ((s.withTiming
        { u with
          hornP := { u.hornP with
            remaining := if action = 0 then u.hornP.duration else 0 } }).done 0x2C .timing h false
        [])) ∧
    (1 < side.toNat →
      exec (.scoreSet h side value) s = .next (s.refuse 0x30 .timing h .unknown) ∧
      exec (.scoreAdd h side delta) s = .next (s.refuse 0x31 .timing h .unknown)) ∧
    (side = 0 →
      exec (.scoreSet h side value) s = .next (scored 0x30 { u with home := min 999 value.toNat }
        (decide (999 < value.toNat)) (min 999 value.toNat)) ∧
      (let sum : Int := (u.home : Int) + delta.toInt
       exec (.scoreAdd h side delta) s = .next (scored 0x31 { u with home := brought 999 sum }
        (decide (sum < 0 ∨ 999 < sum)) (brought 999 sum)))) ∧
    (side = 1 →
      exec (.scoreSet h side value) s = .next (scored 0x30 { u with guest := min 999 value.toNat }
        (decide (999 < value.toNat)) (min 999 value.toNat)) ∧
      (let sum : Int := (u.guest : Int) + delta.toInt
       exec (.scoreAdd h side delta) s = .next (scored 0x31 { u with guest := brought 999 sum }
        (decide (sum < 0 ∨ 999 < sum)) (brought 999 sum)))) ∧
    (7 < field.toNat →
      exec (.fieldSet h field value) s = .next (s.refuse 0x32 .timing h .range) ∧
      exec (.fieldAdd h field delta) s = .next (s.refuse 0x33 .timing h .range)) ∧
    (∀ i : Fin 8, field.toNat = i.val →
      exec (.fieldSet h field value) s = .next
        (scored 0x32 { u with fields := u.fields.set i (min 99 value.toNat) }
          (decide (99 < value.toNat)) (min 99 value.toNat)) ∧
      (let sum : Int := (u.fields.get i : Int) + delta.toInt
       exec (.fieldAdd h field delta) s = .next
        (scored 0x33 { u with fields := u.fields.set i (brought 99 sum) }
          (decide (sum < 0 ∨ 99 < sum)) (brought 99 sum))))

/-- A line start (R109): a STOPPED, startable clock runs and the break flag is cleared. -/
def lineStarted (s : State) : State :=
  let u := s.timing
  if u.state = .stopped ∧ (if u.mode = .down then 0 < u.value else u.value < 5999000) then
    s.withTiming { u with state := .running, breakFlag := false }
  else s

/-- A line stop (R110): a RUNNING clock stops, is captured, and STOPPED is posted with cause LINE and tag 0. -/
def lineStopped (s : State) : State :=
  let u := s.timing
  if u.state = .running then
    (s.withTiming { u with state := .stopped, captured := u.value }).offer
      [s.report .timing 0 .stopped 0 (leBytes 4 u.value ++ [0])]
  else s

/-- R107, R108. What an edge of a console line is: a line start, a line stop or nothing, by the input mode and the senses;
while RESET_N is asserted the level of the line alone changes. That the rows carry the edge of the line, so that
LINE_STOP of GC_START is LINE_START, is the model's reading (assumption log 23). -/
def Obligations.ConsoleLines : Prop :=
  ∀ (edge : Edge) (s : State),
    let u := s.timing
    let started := s.withPins { s.pins with gcStart := decide (edge = .rising) }
    let stopped := s.withPins { s.pins with gcStop := decide (edge = .rising) }
    exec (.lineStop .gcStart edge) s = exec (.lineStart edge) s ∧
    (s.pins.resetAsserted = true ∨ u.startSense = none →
      exec (.lineStart edge) s = .next started) ∧
    (s.Running → u.startSense = some edge →
      exec (.lineStart edge) s = .next (lineStarted started)) ∧
    (∀ sense, s.Running → u.startSense = some sense → sense ≠ edge → u.inputMode = .level →
      exec (.lineStart edge) s = .next (lineStopped started)) ∧
    (∀ sense, s.Running → u.startSense = some sense → sense ≠ edge → u.inputMode = .edgePair →
      exec (.lineStart edge) s = .next started) ∧
    (s.Running → u.inputMode = .edgePair → u.stopSense = some edge →
      exec (.lineStop .gcStop edge) s = .next (lineStopped stopped)) ∧
    (s.pins.resetAsserted = true ∨ u.inputMode = .level ∨ u.stopSense ≠ some edge →
      exec (.lineStop .gcStop edge) s = .next stopped)

/-- A row of codes shows a number in two digits, the tens a space when they are 0. -/
def ShowsTwo (tens units : Code) (n : Nat) : Prop :=
  n < 100 ∧ units.val = 48 + n % 10 ∧ tens.val = if n < 10 then 32 else 48 + n / 10

/-- R121, R122. The two clock texts, of 5 and 4 codes: minutes and seconds, DOWN rounded up; tenths below the threshold,
truncated; the possession text blank while disabled and, in DOWN mode, while it exceeds the game clock value. -/
def Obligations.DisplayTexts : Prop :=
  ∀ u : TimingUnit, u.value ≤ 5999000 → u.possValue ≤ 99000 → u.threshold ≤ 100000 →
    (0 < u.threshold → u.value < u.threshold → ∃ tens units tenth : Code,
      u.gameText = [32, tens, units, 46, tenth] ∧ ShowsTwo tens units (u.value / 1000) ∧
      tenth.val = 48 + u.value / 100 % 10) ∧
    (u.threshold = 0 ∨ u.threshold ≤ u.value → ∃ minTens minUnits secTens secUnits : Code,
      let whole := if u.mode = .down then (u.value + 999) / 1000 else u.value / 1000
      u.gameText = [minTens, minUnits, 58, secTens, secUnits] ∧
      ShowsTwo minTens minUnits (whole / 60) ∧ secTens.val = 48 + whole % 60 / 10 ∧
      secUnits.val = 48 + whole % 60 % 10) ∧
    (u.possEnabled = false ∨ (u.mode = .down ∧ u.value < u.possValue) →
      u.possText = [32, 32, 32, 32]) ∧
    (u.possEnabled = true → u.mode = .up ∨ u.possValue ≤ u.value →
      (u.possThreshold ≤ u.possValue → ∃ tens units : Code,
        u.possText = [32, 32, tens, units] ∧ ShowsTwo tens units ((u.possValue + 999) / 1000)) ∧
      (u.possValue < u.possThreshold → ∃ tens units tenth : Code,
        u.possText = [tens, units, 46, tenth] ∧ ShowsTwo tens units (u.possValue / 1000) ∧
        tenth.val = 48 + u.possValue / 100 % 10))

/-! ## Replay -/

/-- R129, R130, R131, R133, R135, R138, R141, R143. The recorder: an edge of RFP by its sense and the recorder state, the slot
it opens, the verdict of the slot it closes, the clip that slot joins, with SLOT_PARTIAL before CLIP_LIMIT;
RECORD_ARM with its conditions in order; RECORD_STOP, which leaves an OPEN or CLOSING clip CLOSED. That a pulse opens
nothing in a state in which every slot is held, which the law of holds rules out, is the model's choice (assumption
log 22). -/
def Obligations.RecorderCommands : Prop :=
  ∀ (h : Header) (edge : Edge) (s : State), s.Running →
    let c := s.capture
    let r := c.source
    let pinned := s.withPins { s.pins with rfp := decide (edge = .rising) }
    let ready := r.slotCount ≠ 0 ∧ r.lines ≠ 0 ∧ r.width ≠ 0 ∧
      r.base + r.lines * r.pitch ≤ 0x1000000000 ∧ r.lines * r.pitch ≤ r.stride ∧
      r.ringBase + r.slotCount * r.stride ≤ 0x1000000000
    (edge ≠ r.sense ∨ c.recorder = .off →
      exec (.recordFramePulse edge) s = .next pinned) ∧
    (∀ k, edge = r.sense → c.recorder = .armed → r.slotCount ≤ 1024 → FirstUnheld c k →
      ∃ d : Capture, SlotOpened k s.timing.value { c with recorder := .recording } d ∧
        exec (.recordFramePulse edge) s = .next (pinned.withCapture d)) ∧
    (∀ k, edge = r.sense → c.recorder = .recording → c.newest = some k → r.slotCount ≤ 1024 →
      let slot := s.slot k
      let complete := decide (slot.lines.length = r.lines ∧ slot.dropped = false)
      ∃ (joined : Capture) (clipped : List Report),
        ClipOffered 0 k s { c with slots := c.slots.set k (slotClosed slot complete) } joined
          clipped ∧
        let reports := closeReports 0 0 k complete s ++ clipped
        (∀ m, FirstUnheld joined m → ∃ d : Capture, SlotOpened m s.timing.value joined d ∧
          exec (.recordFramePulse edge) s = .next ((pinned.withCapture d).offer reports)) ∧
        ((∀ m : Fin 1024, m.val < r.slotCount → (joined.slots.get m).held = true) →
          exec (.recordFramePulse edge) s =
            .next ((pinned.withCapture joined).offer reports))) ∧
    (∀ k, edge = r.sense → c.recorder = .recording → c.newest = some k →
      ∃ t : State, exec (.recordFramePulse edge) s = .next t ∧
        t.capture.recorder = .recording ∧
        (t.capture.newest ≠ some k →
          (t.slot k).verdict = (slotClosed (s.slot k)
            (decide ((s.slot k).lines.length = r.lines ∧ (s.slot k).dropped = false))).verdict ∧
          (t.slot k).state = (slotClosed (s.slot k)
            (decide ((s.slot k).lines.length = r.lines ∧
              (s.slot k).dropped = false))).state)) ∧
    (c.recorder ≠ .off → exec (.recordArm h) s = .next (s.refuse 0x40 .capture h .state)) ∧
    (c.recorder = .off → ¬ ready →
      exec (.recordArm h) s = .next (s.refuse 0x40 .capture h .range)) ∧
    (c.recorder = .off → ready → exec (.recordArm h) s = .next
      ((s.withCapture { c with recorder := .armed }).done 0x40 .capture h false [])) ∧
    (c.recorder = .off → exec (.recordStop h) s = .next (s.refuse 0x41 .capture h .state)) ∧
    (c.recorder = .armed → exec (.recordStop h) s = .next
      ((s.withCapture { c with recorder := .off }).done 0x41 .capture h false [0xFF, 0xFF])) ∧
    (∀ k, c.recorder = .recording → c.newest = some k →
      let slot := s.slot k
      let complete := decide (slot.lines.length = r.lines ∧ slot.dropped = false)
      ∃ (joined ended : Capture) (clipped : List Report),
        ClipOffered h.tag k s { c with slots := c.slots.set k (slotClosed slot complete) } joined
          clipped ∧
        ClipEnded joined ended ∧
        exec (.recordStop h) s = .next
          (((s.withCapture { ended with recorder := .off }).offer
            (closeReports h.tag 1 k complete s ++ clipped)).done 0x41 .capture h false
            (leBytes 2 k.val)))

/-- A closed slot (R132). -/
abbrev SlotIsClosed (t : Slot) : Prop :=
  t.state = .settling ∨ t.state = .complete ∨ t.state = .partialState

/-- `l` is what a walk of at most `n` slots along `link` passes, from `start` on, up to the end of the chain. -/
def Walks (link : Fin 1024 → Option (Fin 1024)) (n : Nat) (start : Option (Fin 1024))
    (l : List (Fin 1024)) : Prop :=
  l.head? = (if n = 0 then none else start) ∧
    ∀ i k, l[i]? = some k → l[i + 1]? = if i + 1 < n then link k else none

/-- How the chain is read (R132, R137, R139, R146, R150): a run goes along the next links; the newest closed slot is the
newest of the chain, or while RECORDING the one before it; the held slots are those a clip or the player holds. -/
def ChainRead (c : Capture) : Prop :=
  (∀ n start, Walks (fun k => (c.slots.get k).next) n start (c.run n start)) ∧
  (c.recorder ≠ .recording → c.newestClosed = c.newest) ∧
  (c.recorder = .recording → c.newest = none → c.newestClosed = none) ∧
  (∀ k, c.recorder = .recording → c.newest = some k →
    c.newestClosed = (c.slots.get k).previous) ∧
  c.heldCount = ((List.finRange 1024).filter fun k =>
    (c.slots.get k).clipHolds ≠ 0 ∨ (c.slots.get k).playerHold = true).length

/-- R139, R140, R142. CLIP_IN holds the newest closed slots back along the chain as far as the pre-roll, the chain and the
law of holds allow; CLIP_OUT takes the OPEN clip to CLOSING; CLIP_FREE takes one clip hold from each slot of the
clip, which runs along the next links. -/
def Obligations.ClipCommands : Prop :=
  ∀ (h : Header) (tag preRoll : BitVec 16) (clip : Byte) (s : State), s.Running →
    let c := s.capture
    let joinable := ∃ i, (c.clips.get i).state = .opened ∨ (c.clips.get i).state = .closing
    ChainRead c ∧
    (joinable ∨ c.recorder ≠ .recording →
      exec (.clipIn h tag preRoll) s = .next (s.refuse 0x42 .capture h .state)) ∧
    (¬ joinable → c.recorder = .recording → (∀ i, (c.clips.get i).state ≠ .free) →
      exec (.clipIn h tag preRoll) s = .next (s.refuse 0x42 .capture h .full)) ∧
    (∀ i, ¬ joinable → c.recorder = .recording → (c.clips.get i).state = .free →
      (∀ j, j < i → (c.clips.get j).state ≠ .free) →
      ∃ (slots : List (Fin 1024)) (d : Capture),
        exec (.clipIn h tag preRoll) s = .next ((s.withCapture d).done 0x42 .capture h
          (decide (slots.length ≠ preRoll.toNat)) (leBytes 1 i.val ++ leBytes 2 slots.length)) ∧
        slots.length ≤ min 255 preRoll.toNat ∧
        (∀ k, slots.head? = some k → c.newestClosed = some k) ∧
        (∀ j k, slots[j + 1]? = some k →
          ∃ m, slots[j]? = some m ∧ (c.slots.get m).previous = some k) ∧
        d = { c with slots := d.slots, clips := d.clips } ∧
        (∀ k, d.slots.get k =
          { c.slots.get k with clipHolds := (c.slots.get k).clipHolds + slots.count k }) ∧
        (∀ j, j ≠ i → d.clips.get j = c.clips.get j) ∧
        d.clips.get i =
          { state := .opened, tag := tag, first := slots.getLast?, length := slots.length
            clock := match slots.getLast? with
              | some k => (c.slots.get k).clock
              | none => 0 } ∧
        (c.HoldsLawful → d.HoldsLawful) ∧
        (slots.Nodup → slots.length = min 255 preRoll.toNat ∨
          (let next := match slots.getLast? with
              | some l => (c.slots.get l).previous
              | none => c.newestClosed
           next = none ∨ ∃ m, next = some m ∧ (c.slots.get m).held = false ∧
            c.source.slotCount - 1 ≤ d.heldCount))) ∧
    ((∀ i, (c.clips.get i).state ≠ .opened) →
      exec (.clipOut h) s = .next (s.refuse 0x43 .capture h .state)) ∧
    (∀ i, (c.clips.get i).state = .opened → (∀ j, j < i → (c.clips.get j).state ≠ .opened) →
      exec (.clipOut h) s = .next
        ((s.withCapture
          { c with clips := c.clips.set i { c.clips.get i with state := .closing } }).done 0x43
          .capture h false (leBytes 1 i.val))) ∧
    (31 < clip.toNat → exec (.clipFree h clip) s = .next (s.refuse 0x44 .capture h .range)) ∧
    (∀ i : Fin 32, clip.toNat = i.val → (c.clips.get i).state = .free →
      exec (.clipFree h clip) s = .next (s.refuse 0x44 .capture h .absent)) ∧
    (∀ i : Fin 32, clip.toNat = i.val → (c.clips.get i).state ≠ .free →
      let held := c.run (c.clips.get i).length (c.clips.get i).first
      ∃ slots : Tab Slot 1024,
        (∀ k, slots.get k =
          { c.slots.get k with clipHolds := (c.slots.get k).clipHolds - held.count k }) ∧
        exec (.clipFree h clip) s = .next
          ((s.withCapture
            { c with
              slots := slots
              clips := c.clips.set i
                { state := .free, tag := 0, first := none, length := 0, clock := 0 } }).done 0x44
            .capture h false []))

/-- R147, R152, R153, R154, R155, R156. The player's transport: each command answers the status after its effect, and is
refused STATE where its rule says so. That PLAY clears a pending step is the model's reading of R160 (assumption
log 17). -/
def Obligations.PlayerTransport : Prop :=
  ∀ (h : Header) (paceZone endMode skip policy : Byte) (newRate : BitVec 16) (s : State),
    s.Running →
    let p := s.player
    let answered := fun (code : Nat) (q : Player) (clamped : Bool) =>
      (s.withPlayer q).done code .player h clamped (packPlayer q)
    (∀ q : Player, packPlayer q = packed
      [(1, q.state.number), (1, q.cause.number), orOnes 2 q.first, (2, q.length), (2, q.position),
       (2, q.rate), orOnes 2 q.selection, (1, q.paceZone.val), (1, q.endMode.number),
       flag q.partialSkip]) ∧
    (1 < endMode.toNat ∨ 1 < skip.toNat ∨ 2 < policy.toNat →
      exec (.playerConfig h paceZone endMode skip policy) s =
        .next (s.refuse 0x50 .player h .unknown)) ∧
    (∀ mode skips alert, endMode? endMode.toNat = some mode → yesNo? skip.toNat = some skips →
      alertPolicy? policy.toNat = some alert →
      (3 < paceZone.toNat → exec (.playerConfig h paceZone endMode skip policy) s =
        .next (s.refuse 0x50 .player h .range)) ∧
      (∀ z : Fin 4, paceZone.toNat = z.val →
        let q := { p with paceZone := z, endMode := mode, partialSkip := skips, policy := alert }
        exec (.playerConfig h paceZone endMode skip policy) s = .next
          ((s.withPlayer q).done 0x50 .player h false (packPlayer q ++ [policy])))) ∧
    (p.state = .cued ∨ p.state = .paused →
      exec (.play h) s = .next (answered 0x54
        { p with state := .playing, cause := .none, stepPending := false } false)) ∧
    (p.state = .ended → exec (.play h) s = .next (answered 0x54
      { p with
        state := .playing, cause := .none, stepPending := false, position := 0
        shownPosition := 0 } false)) ∧
    (p.state = .idle ∨ p.state = .playing →
      exec (.play h) s = .next (s.refuse 0x54 .player h .state)) ∧
    (p.state = .playing → exec (.pause h) s = .next (answered 0x55
      { p with state := .paused, cause := .command, position := p.shownPosition } false)) ∧
    (p.state ≠ .playing → exec (.pause h) s = .next (s.refuse 0x55 .player h .state)) ∧
    (p.state = .paused → exec (.step h) s = .next (answered 0x56
      { p with
        position := min ((p.position / 16 + 1) * 16) (16 * (p.length - 1))
        stepPending := true } false)) ∧
    (p.state ≠ .paused → exec (.step h) s = .next (s.refuse 0x56 .player h .state)) ∧
    (let rate := max 1 (min 32 newRate.toNat)
     exec (.rate h newRate) s = .next
      (answered 0x57 { p with rate := rate } (decide (rate ≠ newRate.toNat)))) ∧
    (∃ slots : Tab Slot 1024,
      (∀ k, slots.get k = { s.slot k with playerHold := false }) ∧
      exec (.stop h) s = .next
        (((s.withCapture { s.capture with slots := slots }).withPlayer (playerStopped p)).done 0x58
          .player h false (packPlayer (playerStopped p))))

/-- The answer to a cue of `n` slots from `first` on by the command `code` (R137, R148): refused RANGE when one is not
closed, FULL beyond the law of holds; otherwise the player holds exactly those slots and is CUED at the first. -/
def CueAnswer (code : Nat) (h : Header) (first : Fin 1024) (n : Nat) (clamped : Bool)
    (extra : List Byte) (s : State) (t : State) : Prop :=
  let c := s.capture
  let named := c.run n (some first)
  let closed := fun k => SlotIsClosed (c.slots.get k)
  let held := ((List.finRange 1024).filter fun k =>
    (c.slots.get k).clipHolds ≠ 0 ∨ k ∈ named).length
  let q := { s.player with
    first := some first, length := n, position := 0, shownPosition := 0, stepPending := false
    cause := .none, selection := some first, state := .cued }
  ((∃ k ∈ named, ¬ closed k) → t = s.refuse code .player h .range) ∧
  ((∀ k ∈ named, closed k) → c.source.slotCount - 1 < held →
    t = s.refuse code .player h .full) ∧
  ((∀ k ∈ named, closed k) → held ≤ c.source.slotCount - 1 → ∃ slots : Tab Slot 1024,
    (∀ k, slots.get k = { c.slots.get k with playerHold := decide (k ∈ named) }) ∧
    t = ((s.withCapture { c with slots := slots }).withPlayer q).done code .player h clamped
      (packPlayer q ++ extra))

/-- R148, R149, R150, R151. The three cues: which slots they name, and when they are refused ABSENT or RANGE before the
request for the holds is made. CUE_CLOCK takes the newest slot of the value's tenth of a second, else the newest of
the nearest. The search passes the chain back by the previous links from the newest closed slot, and keeps the closed
slots with verdict COMPLETE: with a lawful chain, every one there is. That the closed slots of a range are counted
along the next links is the model's reading (assumption log 32); with a lawful chain they are the slots from the first
to the newest closed slot, both counted. -/
def Obligations.Cues : Prop :=
  ∀ (h : Header) (clip : Byte) (first length : BitVec 16) (value : BitVec 32) (s : State),
    s.Running →
    let c := s.capture
    let far := fun (v : Nat) (j : Fin 1024) => ((s.slot j).clock - v) + (v - (s.slot j).clock)
    ChainRead c ∧
    (∃ back, Walks (fun k => (c.slots.get k).previous) 1024 c.newestClosed back ∧
      c.completeSlots = back.filter fun k =>
        SlotIsClosed (c.slots.get k) ∧ (c.slots.get k).verdict = .complete) ∧
    (∀ k, c.closedFrom k =
      ((c.run 1024 (some k)).filter fun j => SlotIsClosed (c.slots.get j)).length) ∧
    (c.ChainLawful →
      (∀ k, k ∈ c.completeSlots ↔
        SlotIsClosed (c.slots.get k) ∧ (c.slots.get k).verdict = .complete) ∧
      (∀ k, SlotIsClosed (c.slots.get k) → ∃ l : List (Fin 1024), c.closedFrom k = l.length ∧
        l.Nodup ∧ (∀ j ∈ l, SlotIsClosed (c.slots.get j)) ∧ l.getLast? = c.newestClosed ∧
        Walks (fun j => (c.slots.get j).next) l.length (some k) l)) ∧
    (31 < clip.toNat → exec (.cueClip h clip) s = .next (s.refuse 0x51 .player h .range)) ∧
    (∀ i : Fin 32, clip.toNat = i.val →
      ((c.clips.get i).state ≠ .closed →
        exec (.cueClip h clip) s = .next (s.refuse 0x51 .player h .absent)) ∧
      ((c.clips.get i).state = .closed → (c.clips.get i).length = 0 ∨ (c.clips.get i).first = none →
        exec (.cueClip h clip) s = .next (s.refuse 0x51 .player h .range)) ∧
      (∀ k, (c.clips.get i).state = .closed → (c.clips.get i).length ≠ 0 →
        (c.clips.get i).first = some k → ∃ t, exec (.cueClip h clip) s = .next t ∧
          CueAnswer 0x51 h k (c.clips.get i).length false [] s t)) ∧
    (1023 < first.toNat ∨ (∃ k : Fin 1024, first.toNat = k.val ∧ ¬ SlotIsClosed (s.slot k)) →
      exec (.cueRange h first length) s = .next (s.refuse 0x52 .player h .range)) ∧
    (∀ k : Fin 1024, first.toNat = k.val → SlotIsClosed (s.slot k) →
      let n := min (c.closedFrom k) (max 1 length.toNat)
      ∃ t, exec (.cueRange h first length) s = .next t ∧
        CueAnswer 0x52 h k n (decide (n ≠ length.toNat)) [] s t) ∧
    (c.completeSlots = [] →
      exec (.cueClock h value length) s = .next (s.refuse 0x53 .player h .absent)) ∧
    (c.completeSlots ≠ [] → ∃ newer k older, c.completeSlots = newer ++ k :: older ∧
      let v := min 5999000 value.toNat
      let n := min (c.closedFrom k) (max 1 length.toNat)
      (∃ t, exec (.cueClock h value length) s = .next t ∧
        CueAnswer 0x53 h k n (decide (v ≠ value.toNat ∨ n ≠ length.toNat))
          (leBytes 4 (s.slot k).clock) s t) ∧
      ((∃ j ∈ c.completeSlots, (s.slot j).clock / 100 = v / 100) →
        (s.slot k).clock / 100 = v / 100 ∧ ∀ j ∈ newer, (s.slot j).clock / 100 ≠ v / 100) ∧
      ((∀ j ∈ c.completeSlots, (s.slot j).clock / 100 ≠ v / 100) →
        (∀ j ∈ newer, far v k < far v j) ∧ ∀ j ∈ older, far v k ≤ far v j))

/-- Steps 2 and 3 of R158 for index `i` of the source, which runs from the first slot along the next links (R146): partial skip keeps a selection over a PARTIAL verdict. -/
def chosenSlot (s : State) (i : Nat) : Option (Fin 1024) :=
  match s.sourceSlot i with
  | none => none
  | some k =>
    if s.player.partialSkip = true ∧ (s.slot k).verdict = .partialVerdict ∧
      s.player.selection ≠ none then s.player.selection else some k

/-- R157, R158, R159, R160. What a frame start does to the player: every zone latches the selection, and the pace zone
drives it by state, end mode and alert policy. A pause by the alert posts PAUSED_BY_ALERT, behind the reports of
the zone and of a close and before those of the crawl, and nothing else posts it. -/
def Obligations.PlayerPacing : Prop :=
  ∀ (z : Fin 4) (edge : Edge) (s : State), StartsFrame z edge s →
    ∃ t : State, exec (.zonePulse z edge) s = .next t ∧
      let p := s.player
      let latched := fun q : Player => { q with latched := q.latched.set z q.selection }
      let shows := fun (i : Nat) (q : Player) => { q with selection := chosenSlot s i }
      let alert := s.alertInForce = true
      let pauses := alert ∧ p.policy = .pause
      let past := p.length ≤ p.position / 16
      let ends := p.endMode = .hold ∨ (alert ∧ p.policy = .finish)
      let q := p.position % (16 * p.length)
      (∀ i l, Walks (fun k => (s.slot k).next) (i + 1) p.first l → s.sourceSlot i = l[i]?) ∧
      (∃ before paused after : List Report,
        t.cmd = (s.offer (before ++ paused ++ after)).cmd ∧
        t.bus = (s.offer (before ++ paused ++ after)).bus ∧
        (PausedByAlert z s → paused = [pausedReport s]) ∧ (¬ PausedByAlert z s → paused = []) ∧
        (∀ r ∈ before, r.unit = .zoneTiming ∨ r.unit = .sponsor) ∧ ∀ r ∈ after, r.unit = .message) ∧
      (p.paceZone ≠ z ∨ p.state = .idle ∨ p.state = .ended ∨
          (p.state = .paused ∧ p.stepPending = false) → t.player = latched p) ∧
      (p.paceZone = z → p.state = .cued →
        t.player = latched (shows (p.position / 16) { p with shownPosition := p.position })) ∧
      (p.paceZone = z → p.state = .paused → p.stepPending = true →
        t.player = latched (shows (p.position / 16)
          { p with shownPosition := p.position, stepPending := false })) ∧
      (p.paceZone = z → p.state = .playing → pauses → p.stepPending = false →
        t.player = latched
          { p with state := .paused, cause := .alert, position := p.shownPosition }) ∧
      (p.paceZone = z → p.state = .playing → ¬ pauses → ¬ past →
        t.player = latched (shows (p.position / 16)
          { p with shownPosition := p.position, position := p.position + p.rate })) ∧
      (p.paceZone = z → p.state = .playing → ¬ pauses → past → ends →
        t.player = latched (shows (p.length - 1)
          { p with state := .ended, shownPosition := p.position })) ∧
      (p.paceZone = z → p.state = .playing → ¬ pauses → past → ¬ ends →
        t.player = latched (shows (q / 16) { p with shownPosition := q, position := q + p.rate }))

/-! ## Sponsors and messages -/

/-- R168, R170, R171, R172, R173. The panel commands, each answered with the panel status: PANEL_START searches the list from
the position, PANEL_STOP ends whatever the panel shows, PANEL_HOLD toggles ROTATING and HELD, and PANEL_FORCE shows
an entry for a number of frames, saving what the panel did unless a moment already runs. That the showing number
advances once at PANEL_START and not at PANEL_HOLD is the model's reading (assumption log 34). -/
def Obligations.PanelCommands : Prop :=
  ∀ (h : Header) (panel entry : Byte) (frames : BitVec 16) (s : State), s.Running →
    (∀ (p : Fin 8) (k : Fin 32) (e : Fin 256), e.val = 32 * p.val + k.val →
      s.listed p k = s.sponsor.lists.get e) ∧
    let answered := fun (code : Nat) (p : Fin 8) (x : Panel) (clamped : Bool) =>
      (s.setPanel p x).done code .sponsor h clamped
        (leBytes 1 x.state.number ++ leBytes 1 x.position.val ++ optionalIndex 1 x.shown ++
          leBytes 2 x.count)
    (7 < panel.toNat →
      exec (.panelStart h panel) s = .next (s.refuse 0x60 .sponsor h .range) ∧
      exec (.panelStop h panel) s = .next (s.refuse 0x61 .sponsor h .range) ∧
      exec (.panelHold h panel) s = .next (s.refuse 0x62 .sponsor h .range)) ∧
    (7 < panel.toNat ∨ 127 < entry.toNat →
      exec (.panelForce h panel entry frames) s = .next (s.refuse 0x63 .sponsor h .range)) ∧
    (∀ p : Fin 8, panel.toNat = p.val →
      let x := s.panel p
      let n := x.listLength
      let start := if x.position.val < n then x.position.val else 0
      (x.state ≠ .stopped →
        exec (.panelStart h panel) s = .next (s.refuse 0x60 .sponsor h .state)) ∧
      (x.state = .stopped → n ≤ 32 → (∀ k : Fin 32, k.val < n → ¬ Eligible s p (s.listed p k)) →
        exec (.panelStart h panel) s = .next (answered 0x60 p
          { x with state := .rotating, shown := none, count := 0, showing := x.showing + 1 }
          false)) ∧
      (∀ j (k : Fin 32), x.state = .stopped → n ≤ 32 → j < n → k.val = (start + j) % n →
        Eligible s p (s.listed p k) →
        (∀ i (m : Fin 32), i < j → m.val = (start + i) % n → ¬ Eligible s p (s.listed p m)) →
        exec (.panelStart h panel) s = .next (answered 0x60 p
          { x with
            state := .rotating, position := k, shown := some (s.listed p k), count := 0
            showing := x.showing + 1 } false)) ∧
      exec (.panelStop h panel) s = .next (answered 0x61 p
        (panelStopped x) false) ∧
      (x.state = .rotating → exec (.panelHold h panel) s =
        .next (answered 0x62 p { x with state := .held } false)) ∧
      (x.state = .held → exec (.panelHold h panel) s =
        .next (answered 0x62 p { x with state := .rotating } false)) ∧
      (x.state = .stopped ∨ x.state = .moment →
        exec (.panelHold h panel) s = .next (s.refuse 0x62 .sponsor h .state)) ∧
      (∀ e : Fin 128, entry.toNat = e.val →
        exec (.panelForce h panel entry frames) s = .next (answered 0x63 p
          (forcedPanel e (max 1 frames.toNat) x) (decide (frames = 0)))))

/-- R183, R186, R196. QUEUE_CONFIG brings each field into its range, the low mark and the margin against the high mark and
the hold time as brought; MSG_OPEN puts a new message in the lowest empty place, refused in the order UNKNOWN, RANGE,
DUPLICATE, FULL; both test the hold state, whose test takes the occupancy, the number of messages in the store, against
the marks; QHOLD is asserted exactly while the state it leaves is HOLDING. -/
def Obligations.QueueConfigAndOpen : Prop :=
  ∀ (h : Header) (paceZone final cls colour sponsor : Byte)
    (width speed gap scale high low holdTime margin id length repeats lifetime : BitVec 16)
    (s : State), s.Running →
    let u := s.message
    (∀ v : MessageUnit,
      v.occupancy = ((List.finRange 64).filter fun i => v.store.get i ≠ none).length) ∧
    (∀ t : State, t.qhold = true ↔ t.message.hold ≠ none) ∧
    (1 < final.toNat →
      exec (.queueConfig h paceZone width speed gap scale high low holdTime margin final) s =
        .next (s.refuse 0x70 .message h .unknown)) ∧
    (final.toNat ≤ 1 → 3 < paceZone.toNat →
      exec (.queueConfig h paceZone width speed gap scale high low holdTime margin final) s =
        .next (s.refuse 0x70 .message h .range)) ∧
    (∀ z : Fin 4, final.toNat ≤ 1 → paceZone.toNat = z.val →
      let config : QueueConfig :=
        { paceZone := z, width := max 16 (min 16384 width.toNat)
          speed := max 1 (min 16 speed.toNat), gap := min 4095 gap.toNat
          scale := max 1 (min 8 scale.toNat), high := max 1 (min 64 high.toNat)
          low := min (max 1 (min 64 high.toNat) - 1) low.toNat
          holdTime := max 2 (min 600 holdTime.toNat)
          margin := min (max 2 (min 600 holdTime.toNat) - 1) margin.toNat
          finalNotice := decide (final = 1) }
      let given := config.width = width.toNat ∧ config.speed = speed.toNat ∧
        config.gap = gap.toNat ∧ config.scale = scale.toNat ∧ config.high = high.toNat ∧
        config.low = low.toNat ∧ config.holdTime = holdTime.toNat ∧ config.margin = margin.toNat
      exec (.queueConfig h paceZone width speed gap scale high low holdTime margin final) s =
        .next ((holdTested h.tag (s.withMessage { u with config := config })).done 0x70 .message h
          (decide (¬ given)) []) ∧
      ∀ t, exec (.queueConfig h paceZone width speed gap scale high low holdTime margin final) s =
          .next t →
        (t.qhold = true ↔
          config.high ≤ u.occupancy ∨ (s.qhold = true ∧ config.low < u.occupancy))) ∧
    (2 < cls.toNat → exec (.msgOpen h id cls length repeats lifetime colour sponsor) s =
      .next (s.refuse 0x71 .message h .unknown)) ∧
    (∀ c, msgClass? cls.toNat = some c →
      let badIndex := (16 ≤ colour.toNat ∧ colour.toNat ≤ 254) ∨
        (128 ≤ sponsor.toNat ∧ sponsor.toNat ≤ 254)
      let present := ∃ i m, u.store.get i = some m ∧ m.id = id
      (badIndex → exec (.msgOpen h id cls length repeats lifetime colour sponsor) s =
        .next (s.refuse 0x71 .message h .range)) ∧
      (¬ badIndex → present → exec (.msgOpen h id cls length repeats lifetime colour sponsor) s =
        .next (s.refuse 0x71 .message h .duplicate)) ∧
      (¬ badIndex → ¬ present → (∀ i, u.store.get i ≠ none) →
        exec (.msgOpen h id cls length repeats lifetime colour sponsor) s =
          .next (s.refuse 0x71 .message h .full)) ∧
      (∀ i, ¬ badIndex → ¬ present → u.store.get i = none → (∀ j, j < i → u.store.get j ≠ none) →
        let l := max 1 (min 160 length.toNat)
        let r := max 1 (min 15 repeats.toNat)
        let seconds := max 1 (min 3600 lifetime.toNat)
        ∃ (textColour : Option (Fin 16)) (entry : Option (Fin 128)),
          (∀ k, textColour = some k → colour.toNat = k.val) ∧
          (textColour = none → colour = 255) ∧
          (∀ e, entry = some e → sponsor.toNat = e.val) ∧ (entry = none → sponsor = 255) ∧
          exec (.msgOpen h id cls length repeats lifetime colour sponsor) s = .next
            ((holdTested h.tag (s.withMessage
              { u with
                store := u.store.set i (some
                  { id := id, cls := c, state := .assembling, length := l
                    text := Tab.fill 160 0, repeats := r, lifetime := seconds
                    expiry := s.timing.uptime + BitVec.ofNat 32 (1000 * seconds)
                    colour := textColour, sponsor := entry, order := 0, travel := 0
                    expiring := false, withdrawing := false }) })).done 0x71 .message h
              (decide (¬ (l = length.toNat ∧ r = repeats.toNat ∧ seconds = lifetime.toNat)))
              (leBytes 1 i.val))))

/-- R187, R188, R189. MSG_TEXT writes the codes at their offset into a message being assembled; MSG_POST puts it at the
tail of its class queue with the next order number; MSG_WITHDRAW removes a message not on the crawl at once and
marks one that is. Codes above 127 are refused first (R44; the model's reading, assumption log 19); a code list
of another length than 23 is no command record and faults (the model's choice, assumption log 27). -/
def Obligations.TextPostWithdraw : Prop :=
  ∀ (h : Header) (id offset : BitVec 16) (count : Byte) (codes : List Byte) (s : State),
    s.Running →
    let u := s.message
    let bad := ∃ b ∈ codes.take count.toNat, 128 ≤ b.toNat
    (codes.length ≠ 23 → exec (.msgText h id offset count codes) s = .fault .illFormed) ∧
    (codes.length = 23 → bad →
      exec (.msgText h id offset count codes) s = .next (s.refuse 0x72 .message h .range)) ∧
    ((∀ i m, u.store.get i = some m → m.id ≠ id) →
      (codes.length = 23 → ¬ bad → exec (.msgText h id offset count codes) s =
        .next (s.refuse 0x72 .message h .absent)) ∧
      exec (.msgPost h id) s = .next (s.refuse 0x73 .message h .absent) ∧
      exec (.msgWithdraw h id) s = .next (s.refuse 0x74 .message h .absent)) ∧
    (∀ i m, u.store.get i = some m → m.id = id →
      (∀ j n, j < i → u.store.get j = some n → n.id ≠ id) →
      let fits := 1 ≤ count.toNat ∧ count.toNat ≤ 20 ∧ offset.toNat + count.toNat ≤ m.length
      (m.state ≠ .assembling →
        (codes.length = 23 → ¬ bad → exec (.msgText h id offset count codes) s =
          .next (s.refuse 0x72 .message h .state)) ∧
        exec (.msgPost h id) s = .next (s.refuse 0x73 .message h .state)) ∧
      (m.state = .assembling →
        (codes.length = 23 → ¬ bad → ¬ fits → exec (.msgText h id offset count codes) s =
          .next (s.refuse 0x72 .message h .range)) ∧
        (codes.length = 23 → ¬ bad → fits → ∃ text : Tab Code 160,
          exec (.msgText h id offset count codes) s = .next
            ((s.withMessage { u with store := u.store.set i (some { m with text := text }) }).done
              0x72 .message h false []) ∧
          ∀ k : Fin 160, (text.get k).val =
            if offset.toNat ≤ k.val ∧ k.val < offset.toNat + count.toNat then
              fieldAt 1 codes (k.val - offset.toNat)
            else (m.text.get k).val) ∧
        (let queued := some { m with state := .queued, order := u.orderCounter + 1 }
         exec (.msgPost h id) s = .next
          ((s.withMessage
            { u.setQueue m.cls (u.queue m.cls ++ [i]) with
              store := u.store.set i queued, orderCounter := u.orderCounter + 1 }).done 0x73
            .message h false (bytesOf 4 (u.orderCounter + 1))))) ∧
      (m.state = .assembling ∨ m.state = .queued → exec (.msgWithdraw h id) s = .next
        ((holdTested h.tag
          ((s.withMessage
            { u with
              store := u.store.set i none, announce := u.announce.filter (· ≠ i)
              featured := u.featured.filter (· ≠ i), fan := u.fan.filter (· ≠ i) }).offer
            [s.report .message h.tag .withdrawn m.id.toNat
              (leBytes 1 m.cls.number ++ leBytes 1 m.state.number ++ [0])])).done 0x74 .message h
          false [0])) ∧
      (m.state = .lead ∨ m.state = .follow → m.withdrawing = true →
        exec (.msgWithdraw h id) s = .next (s.refuse 0x74 .message h .state)) ∧
      (m.state = .lead ∨ m.state = .follow → m.withdrawing = false →
        exec (.msgWithdraw h id) s = .next
          ((s.withMessage
            { u with store := u.store.set i (some { m with withdrawing := true }) }).done 0x74
            .message h false [1])))

/-- R190, R191, R192, R193, R195. The message unit at a frame start, step by step, with its reports (CrawlStarted):
withdrawals, suspension, advance and promotion, the finish of a LEAD by expiry, retirement or repeat, admission and
the crawl record. Among them, at a frame start of its pace zone: an empty crawl takes the head of the highest
non-empty class; a LEAD advances by the speed, with a FOLLOW behind it once it is clear of the entry by the gap;
under an alert the crawl is emptied and its message stands at the head of its queue again. -/
def Obligations.CrawlFrames : Prop :=
  ∀ (z : Fin 4) (edge : Edge) (s : State), StartsFrame z edge s →
    ∃ t : State, exec (.zonePulse z edge) s = .next t ∧
      let u := s.message
      let pace := u.config.paceZone = z
      let alert := s.alertInForce = true
      let head := Heads u
      let record := fun (items : List CrawlItem) => some
        { zone := z, frame := (s.zone z).frameNumber + 1, alert := s.alertInForce
          crawlWidth := u.config.width, items := items }
      let wide := wide s
      (∃ before crawled : State, CrawlStarted z before crawled ∧
        before.message = { u with record := before.message.record } ∧
        before.comp.alertLatch.get z = s.alertInForce ∧
        (before.zone z).frameNumber = (s.zone z).frameNumber + 1 ∧ before.timing = s.timing ∧
        t = { crawled with glyph := t.glyph } ∧
        ∃ earlier : List Report, before.cmd = (s.offer earlier).cmd ∧
          before.bus = (s.offer earlier).bus ∧ ∀ r ∈ earlier, r.unit ≠ .message) ∧
      t.message.config = u.config ∧
      (¬ pace → t.message = { u with record := t.message.record }) ∧
      (pace → alert → t.message.lead = none ∧ t.message.follow = none) ∧
      (∀ i m, pace → alert → u.lead = some i → u.follow = none → u.store.get i = some m →
        m.withdrawing = false → m.expiring = false →
        t.message =
          { u.setQueue m.cls (i :: u.queue m.cls) with
            store := u.store.set i (some { m with state := .queued, travel := 0 })
            lead := none, follow := none, record := record [] }) ∧
      (∀ c j rest m, pace → ¬ alert → u.lead = none → u.follow = none → head c j rest →
        u.store.get j = some m →
        t.message =
          { u.setQueue c rest with
            store := u.store.set j (some { m with state := .lead, travel := 0 })
            lead := some j, follow := none
            record := record [{ sponsor := m.sponsor, travel := 0, width := wide m }] }) ∧
      (∀ i m, pace → ¬ alert → u.lead = some i → u.follow = none → u.store.get i = some m →
        m.withdrawing = false → m.travel + u.config.speed < u.config.width + wide m →
        let moved := { m with travel := m.travel + u.config.speed }
        let item : CrawlItem :=
          { sponsor := m.sponsor, travel := moved.travel, width := wide m }
        (moved.travel < wide m + u.config.gap ∨ (∀ c, u.queue c = []) →
          t.message =
            { u with store := u.store.set i (some moved), record := record [item] }) ∧
        (∀ c j rest n, wide m + u.config.gap ≤ moved.travel → head c j rest → j ≠ i →
          u.store.get j = some n →
          t.message =
            { u.setQueue c rest with
              store := (u.store.set i (some moved)).set j
                (some { n with state := .follow, travel := 0 })
              follow := some j
              record := record
                [item, { sponsor := n.sponsor, travel := 0, width := wide n }] }))

/-! ## Invariants, from every state that has them -/

/-- The law of the clocks and every range of chapter 6 (R103, R105, R106, R116, R117, R119, R123). -/
def Obligations.TimingStaysLawful : Prop :=
  ∀ s t : State, s.timing.Lawful → step s = .next t → t.timing.Lawful

/-- The capacities of the bus path's queues (R10, R11, R14, R16, R17). -/
def Obligations.BusPathStaysLawful : Prop :=
  ∀ s t : State, s.bus.Lawful → step s = .next t → t.bus.Lawful

/-- The law of the report ring: N, P, C and the report writes agree, never more than 63 unacknowledged, and no report waits
that could move (R26 to R29). -/
def Obligations.ReportRingStaysLawful : Prop :=
  ∀ s t : State, s.RingLawful → step s = .next t → t.RingLawful

/-- An enabled zone keeps a usable geometry and an open frame its coverage of the zone's lines (R45 to R55), and a zone's
active set holds the windows it took, of that zone alone and no larger than they were taken, with a record for an
open frame alone (R62 to R68, R82). That the windows as taken are kept beside the active set is the model's reading
(assumption log 16). -/
def Obligations.ZonesAndWindowsStayLawful : Prop :=
  ∀ s t : State, (∀ z, (s.zone z).Lawful) → s.WindowsLawful → step s = .next t →
    (∀ z, (t.zone z).Lawful) ∧ t.WindowsLawful

/-- The law of holds (R138); and, under it, the law of the capture chain (R132, R134): its previous and next links agree, it
holds each slot that is not EMPTY once, and its newest slot is WRITING exactly while RECORDING, held by nothing. -/
def Obligations.HoldsStayLawful : Prop :=
  (∀ s t : State, s.capture.HoldsLawful → step s = .next t → t.capture.HoldsLawful) ∧
  ∀ s t : State, s.capture.HoldsLawful → s.capture.ChainLawful → step s = .next t →
    t.capture.ChainLawful

/-- The ranges of the player record, which has a source in every state but IDLE, and a pause cause and a pending step in
PAUSED alone (R146, R157, R160). That PLAY clears a pending step, so that PLAYING has none, is the model's reading
(assumption log 17). -/
def Obligations.PlayerStaysLawful : Prop :=
  ∀ s t : State, s.player.Lawful → step s = .next t → t.player.Lawful

/-- The saved fields of a panel are in use in MOMENT alone, and a STOPPED panel shows nothing (R165, R171, R173, R176). -/
def Obligations.PanelsStayLawful : Prop :=
  ∀ s t : State, (∀ p, (s.panel p).Lawful) → step s = .next t → ∀ p, (t.panel p).Lawful

/-- The marks stand in order, a RELEASED store below the high mark and a HOLDING one above the low mark with time left
(R183, R196, R197), so that QHOLD tells on which side of the marks the store stands. And the law of the message store
and the crawl (R184, R185, R188 to R194): no two messages with one id, a message LEAD or FOLLOW exactly at the place the
crawl names, and each class queue with exactly the QUEUED messages of its class, each once. -/
def Obligations.QueueHoldStaysLawful : Prop :=
  (∀ s t : State, s.message.HoldLawful → step s = .next t →
    t.message.HoldLawful ∧
    (t.qhold = true → t.message.config.low < t.message.occupancy) ∧
    (t.qhold = false → t.message.occupancy < t.message.config.high)) ∧
  ∀ s t : State, s.message.StoreLawful → step s = .next t → t.message.StoreLawful

/-- The state after reset has every invariant. -/
def Obligations.ResetIsLawful : Prop := State.reset.Lawful
end

