-- ==== Sys2Proof/Laws/State.lean ====
section
/-! SUPPORT. Each block of the state after each replacement of one block: the block replaced is the new one,
every other is as it was. -/

namespace Sys2Proof.Machine

@[simp] theorem State.withPending_pending (s : State) (x : List Instr) :
    (s.withPending x).pending = x := rfl
@[simp] theorem State.withPending_pins (s : State) (x : List Instr) :
    (s.withPending x).pins = s.pins := rfl
@[simp] theorem State.withPending_bus (s : State) (x : List Instr) :
    (s.withPending x).bus = s.bus := rfl
@[simp] theorem State.withPending_cmd (s : State) (x : List Instr) :
    (s.withPending x).cmd = s.cmd := rfl
@[simp] theorem State.withPending_counters (s : State) (x : List Instr) :
    (s.withPending x).counters = s.counters := rfl
@[simp] theorem State.withPending_zones (s : State) (x : List Instr) :
    (s.withPending x).zones = s.zones := rfl
@[simp] theorem State.withPending_comp (s : State) (x : List Instr) :
    (s.withPending x).comp = s.comp := rfl
@[simp] theorem State.withPending_glyph (s : State) (x : List Instr) :
    (s.withPending x).glyph = s.glyph := rfl
@[simp] theorem State.withPending_timing (s : State) (x : List Instr) :
    (s.withPending x).timing = s.timing := rfl
@[simp] theorem State.withPending_capture (s : State) (x : List Instr) :
    (s.withPending x).capture = s.capture := rfl
@[simp] theorem State.withPending_player (s : State) (x : List Instr) :
    (s.withPending x).player = s.player := rfl
@[simp] theorem State.withPending_sponsor (s : State) (x : List Instr) :
    (s.withPending x).sponsor = s.sponsor := rfl
@[simp] theorem State.withPending_message (s : State) (x : List Instr) :
    (s.withPending x).message = s.message := rfl
@[simp] theorem State.withPending_free (s : State) (x : List Instr) :
    (s.withPending x).free = s.free := rfl
@[simp] theorem State.withPins_pending (s : State) (x : Pins) :
    (s.withPins x).pending = s.pending := rfl
@[simp] theorem State.withPins_pins (s : State) (x : Pins) :
    (s.withPins x).pins = x := rfl
@[simp] theorem State.withPins_bus (s : State) (x : Pins) :
    (s.withPins x).bus = s.bus := rfl
@[simp] theorem State.withPins_cmd (s : State) (x : Pins) :
    (s.withPins x).cmd = s.cmd := rfl
@[simp] theorem State.withPins_counters (s : State) (x : Pins) :
    (s.withPins x).counters = s.counters := rfl
@[simp] theorem State.withPins_zones (s : State) (x : Pins) :
    (s.withPins x).zones = s.zones := rfl
@[simp] theorem State.withPins_comp (s : State) (x : Pins) :
    (s.withPins x).comp = s.comp := rfl
@[simp] theorem State.withPins_glyph (s : State) (x : Pins) :
    (s.withPins x).glyph = s.glyph := rfl
@[simp] theorem State.withPins_timing (s : State) (x : Pins) :
    (s.withPins x).timing = s.timing := rfl
@[simp] theorem State.withPins_capture (s : State) (x : Pins) :
    (s.withPins x).capture = s.capture := rfl
@[simp] theorem State.withPins_player (s : State) (x : Pins) :
    (s.withPins x).player = s.player := rfl
@[simp] theorem State.withPins_sponsor (s : State) (x : Pins) :
    (s.withPins x).sponsor = s.sponsor := rfl
@[simp] theorem State.withPins_message (s : State) (x : Pins) :
    (s.withPins x).message = s.message := rfl
@[simp] theorem State.withPins_free (s : State) (x : Pins) :
    (s.withPins x).free = s.free := rfl
@[simp] theorem State.withBus_pending (s : State) (x : BusPath) :
    (s.withBus x).pending = s.pending := rfl
@[simp] theorem State.withBus_pins (s : State) (x : BusPath) :
    (s.withBus x).pins = s.pins := rfl
@[simp] theorem State.withBus_bus (s : State) (x : BusPath) :
    (s.withBus x).bus = x := rfl
@[simp] theorem State.withBus_cmd (s : State) (x : BusPath) :
    (s.withBus x).cmd = s.cmd := rfl
@[simp] theorem State.withBus_counters (s : State) (x : BusPath) :
    (s.withBus x).counters = s.counters := rfl
@[simp] theorem State.withBus_zones (s : State) (x : BusPath) :
    (s.withBus x).zones = s.zones := rfl
@[simp] theorem State.withBus_comp (s : State) (x : BusPath) :
    (s.withBus x).comp = s.comp := rfl
@[simp] theorem State.withBus_glyph (s : State) (x : BusPath) :
    (s.withBus x).glyph = s.glyph := rfl
@[simp] theorem State.withBus_timing (s : State) (x : BusPath) :
    (s.withBus x).timing = s.timing := rfl
@[simp] theorem State.withBus_capture (s : State) (x : BusPath) :
    (s.withBus x).capture = s.capture := rfl
@[simp] theorem State.withBus_player (s : State) (x : BusPath) :
    (s.withBus x).player = s.player := rfl
@[simp] theorem State.withBus_sponsor (s : State) (x : BusPath) :
    (s.withBus x).sponsor = s.sponsor := rfl
@[simp] theorem State.withBus_message (s : State) (x : BusPath) :
    (s.withBus x).message = s.message := rfl
@[simp] theorem State.withBus_free (s : State) (x : BusPath) :
    (s.withBus x).free = s.free := rfl
@[simp] theorem State.withCmd_pending (s : State) (x : CommandUnit) :
    (s.withCmd x).pending = s.pending := rfl
@[simp] theorem State.withCmd_pins (s : State) (x : CommandUnit) :
    (s.withCmd x).pins = s.pins := rfl
@[simp] theorem State.withCmd_bus (s : State) (x : CommandUnit) :
    (s.withCmd x).bus = s.bus := rfl
@[simp] theorem State.withCmd_cmd (s : State) (x : CommandUnit) :
    (s.withCmd x).cmd = x := rfl
@[simp] theorem State.withCmd_counters (s : State) (x : CommandUnit) :
    (s.withCmd x).counters = s.counters := rfl
@[simp] theorem State.withCmd_zones (s : State) (x : CommandUnit) :
    (s.withCmd x).zones = s.zones := rfl
@[simp] theorem State.withCmd_comp (s : State) (x : CommandUnit) :
    (s.withCmd x).comp = s.comp := rfl
@[simp] theorem State.withCmd_glyph (s : State) (x : CommandUnit) :
    (s.withCmd x).glyph = s.glyph := rfl
@[simp] theorem State.withCmd_timing (s : State) (x : CommandUnit) :
    (s.withCmd x).timing = s.timing := rfl
@[simp] theorem State.withCmd_capture (s : State) (x : CommandUnit) :
    (s.withCmd x).capture = s.capture := rfl
@[simp] theorem State.withCmd_player (s : State) (x : CommandUnit) :
    (s.withCmd x).player = s.player := rfl
@[simp] theorem State.withCmd_sponsor (s : State) (x : CommandUnit) :
    (s.withCmd x).sponsor = s.sponsor := rfl
@[simp] theorem State.withCmd_message (s : State) (x : CommandUnit) :
    (s.withCmd x).message = s.message := rfl
@[simp] theorem State.withCmd_free (s : State) (x : CommandUnit) :
    (s.withCmd x).free = s.free := rfl
@[simp] theorem State.withCounters_pending (s : State) (x : Counters) :
    (s.withCounters x).pending = s.pending := rfl
@[simp] theorem State.withCounters_pins (s : State) (x : Counters) :
    (s.withCounters x).pins = s.pins := rfl
@[simp] theorem State.withCounters_bus (s : State) (x : Counters) :
    (s.withCounters x).bus = s.bus := rfl
@[simp] theorem State.withCounters_cmd (s : State) (x : Counters) :
    (s.withCounters x).cmd = s.cmd := rfl
@[simp] theorem State.withCounters_counters (s : State) (x : Counters) :
    (s.withCounters x).counters = x := rfl
@[simp] theorem State.withCounters_zones (s : State) (x : Counters) :
    (s.withCounters x).zones = s.zones := rfl
@[simp] theorem State.withCounters_comp (s : State) (x : Counters) :
    (s.withCounters x).comp = s.comp := rfl
@[simp] theorem State.withCounters_glyph (s : State) (x : Counters) :
    (s.withCounters x).glyph = s.glyph := rfl
@[simp] theorem State.withCounters_timing (s : State) (x : Counters) :
    (s.withCounters x).timing = s.timing := rfl
@[simp] theorem State.withCounters_capture (s : State) (x : Counters) :
    (s.withCounters x).capture = s.capture := rfl
@[simp] theorem State.withCounters_player (s : State) (x : Counters) :
    (s.withCounters x).player = s.player := rfl
@[simp] theorem State.withCounters_sponsor (s : State) (x : Counters) :
    (s.withCounters x).sponsor = s.sponsor := rfl
@[simp] theorem State.withCounters_message (s : State) (x : Counters) :
    (s.withCounters x).message = s.message := rfl
@[simp] theorem State.withCounters_free (s : State) (x : Counters) :
    (s.withCounters x).free = s.free := rfl
@[simp] theorem State.withZones_pending (s : State) (x : Tab Zone 4) :
    (s.withZones x).pending = s.pending := rfl
@[simp] theorem State.withZones_pins (s : State) (x : Tab Zone 4) :
    (s.withZones x).pins = s.pins := rfl
@[simp] theorem State.withZones_bus (s : State) (x : Tab Zone 4) :
    (s.withZones x).bus = s.bus := rfl
@[simp] theorem State.withZones_cmd (s : State) (x : Tab Zone 4) :
    (s.withZones x).cmd = s.cmd := rfl
@[simp] theorem State.withZones_counters (s : State) (x : Tab Zone 4) :
    (s.withZones x).counters = s.counters := rfl
@[simp] theorem State.withZones_zones (s : State) (x : Tab Zone 4) :
    (s.withZones x).zones = x := rfl
@[simp] theorem State.withZones_comp (s : State) (x : Tab Zone 4) :
    (s.withZones x).comp = s.comp := rfl
@[simp] theorem State.withZones_glyph (s : State) (x : Tab Zone 4) :
    (s.withZones x).glyph = s.glyph := rfl
@[simp] theorem State.withZones_timing (s : State) (x : Tab Zone 4) :
    (s.withZones x).timing = s.timing := rfl
@[simp] theorem State.withZones_capture (s : State) (x : Tab Zone 4) :
    (s.withZones x).capture = s.capture := rfl
@[simp] theorem State.withZones_player (s : State) (x : Tab Zone 4) :
    (s.withZones x).player = s.player := rfl
@[simp] theorem State.withZones_sponsor (s : State) (x : Tab Zone 4) :
    (s.withZones x).sponsor = s.sponsor := rfl
@[simp] theorem State.withZones_message (s : State) (x : Tab Zone 4) :
    (s.withZones x).message = s.message := rfl
@[simp] theorem State.withZones_free (s : State) (x : Tab Zone 4) :
    (s.withZones x).free = s.free := rfl
@[simp] theorem State.withComp_pending (s : State) (x : Compositor) :
    (s.withComp x).pending = s.pending := rfl
@[simp] theorem State.withComp_pins (s : State) (x : Compositor) :
    (s.withComp x).pins = s.pins := rfl
@[simp] theorem State.withComp_bus (s : State) (x : Compositor) :
    (s.withComp x).bus = s.bus := rfl
@[simp] theorem State.withComp_cmd (s : State) (x : Compositor) :
    (s.withComp x).cmd = s.cmd := rfl
@[simp] theorem State.withComp_counters (s : State) (x : Compositor) :
    (s.withComp x).counters = s.counters := rfl
@[simp] theorem State.withComp_zones (s : State) (x : Compositor) :
    (s.withComp x).zones = s.zones := rfl
@[simp] theorem State.withComp_comp (s : State) (x : Compositor) :
    (s.withComp x).comp = x := rfl
@[simp] theorem State.withComp_glyph (s : State) (x : Compositor) :
    (s.withComp x).glyph = s.glyph := rfl
@[simp] theorem State.withComp_timing (s : State) (x : Compositor) :
    (s.withComp x).timing = s.timing := rfl
@[simp] theorem State.withComp_capture (s : State) (x : Compositor) :
    (s.withComp x).capture = s.capture := rfl
@[simp] theorem State.withComp_player (s : State) (x : Compositor) :
    (s.withComp x).player = s.player := rfl
@[simp] theorem State.withComp_sponsor (s : State) (x : Compositor) :
    (s.withComp x).sponsor = s.sponsor := rfl
@[simp] theorem State.withComp_message (s : State) (x : Compositor) :
    (s.withComp x).message = s.message := rfl
@[simp] theorem State.withComp_free (s : State) (x : Compositor) :
    (s.withComp x).free = s.free := rfl
@[simp] theorem State.withGlyph_pending (s : State) (x : GlyphRenderer) :
    (s.withGlyph x).pending = s.pending := rfl
@[simp] theorem State.withGlyph_pins (s : State) (x : GlyphRenderer) :
    (s.withGlyph x).pins = s.pins := rfl
@[simp] theorem State.withGlyph_bus (s : State) (x : GlyphRenderer) :
    (s.withGlyph x).bus = s.bus := rfl
@[simp] theorem State.withGlyph_cmd (s : State) (x : GlyphRenderer) :
    (s.withGlyph x).cmd = s.cmd := rfl
@[simp] theorem State.withGlyph_counters (s : State) (x : GlyphRenderer) :
    (s.withGlyph x).counters = s.counters := rfl
@[simp] theorem State.withGlyph_zones (s : State) (x : GlyphRenderer) :
    (s.withGlyph x).zones = s.zones := rfl
@[simp] theorem State.withGlyph_comp (s : State) (x : GlyphRenderer) :
    (s.withGlyph x).comp = s.comp := rfl
@[simp] theorem State.withGlyph_glyph (s : State) (x : GlyphRenderer) :
    (s.withGlyph x).glyph = x := rfl
@[simp] theorem State.withGlyph_timing (s : State) (x : GlyphRenderer) :
    (s.withGlyph x).timing = s.timing := rfl
@[simp] theorem State.withGlyph_capture (s : State) (x : GlyphRenderer) :
    (s.withGlyph x).capture = s.capture := rfl
@[simp] theorem State.withGlyph_player (s : State) (x : GlyphRenderer) :
    (s.withGlyph x).player = s.player := rfl
@[simp] theorem State.withGlyph_sponsor (s : State) (x : GlyphRenderer) :
    (s.withGlyph x).sponsor = s.sponsor := rfl
@[simp] theorem State.withGlyph_message (s : State) (x : GlyphRenderer) :
    (s.withGlyph x).message = s.message := rfl
@[simp] theorem State.withGlyph_free (s : State) (x : GlyphRenderer) :
    (s.withGlyph x).free = s.free := rfl
@[simp] theorem State.withTiming_pending (s : State) (x : TimingUnit) :
    (s.withTiming x).pending = s.pending := rfl
@[simp] theorem State.withTiming_pins (s : State) (x : TimingUnit) :
    (s.withTiming x).pins = s.pins := rfl
@[simp] theorem State.withTiming_bus (s : State) (x : TimingUnit) :
    (s.withTiming x).bus = s.bus := rfl
@[simp] theorem State.withTiming_cmd (s : State) (x : TimingUnit) :
    (s.withTiming x).cmd = s.cmd := rfl
@[simp] theorem State.withTiming_counters (s : State) (x : TimingUnit) :
    (s.withTiming x).counters = s.counters := rfl
@[simp] theorem State.withTiming_zones (s : State) (x : TimingUnit) :
    (s.withTiming x).zones = s.zones := rfl
@[simp] theorem State.withTiming_comp (s : State) (x : TimingUnit) :
    (s.withTiming x).comp = s.comp := rfl
@[simp] theorem State.withTiming_glyph (s : State) (x : TimingUnit) :
    (s.withTiming x).glyph = s.glyph := rfl
@[simp] theorem State.withTiming_timing (s : State) (x : TimingUnit) :
    (s.withTiming x).timing = x := rfl
@[simp] theorem State.withTiming_capture (s : State) (x : TimingUnit) :
    (s.withTiming x).capture = s.capture := rfl
@[simp] theorem State.withTiming_player (s : State) (x : TimingUnit) :
    (s.withTiming x).player = s.player := rfl
@[simp] theorem State.withTiming_sponsor (s : State) (x : TimingUnit) :
    (s.withTiming x).sponsor = s.sponsor := rfl
@[simp] theorem State.withTiming_message (s : State) (x : TimingUnit) :
    (s.withTiming x).message = s.message := rfl
@[simp] theorem State.withTiming_free (s : State) (x : TimingUnit) :
    (s.withTiming x).free = s.free := rfl
@[simp] theorem State.withCapture_pending (s : State) (x : Capture) :
    (s.withCapture x).pending = s.pending := rfl
@[simp] theorem State.withCapture_pins (s : State) (x : Capture) :
    (s.withCapture x).pins = s.pins := rfl
@[simp] theorem State.withCapture_bus (s : State) (x : Capture) :
    (s.withCapture x).bus = s.bus := rfl
@[simp] theorem State.withCapture_cmd (s : State) (x : Capture) :
    (s.withCapture x).cmd = s.cmd := rfl
@[simp] theorem State.withCapture_counters (s : State) (x : Capture) :
    (s.withCapture x).counters = s.counters := rfl
@[simp] theorem State.withCapture_zones (s : State) (x : Capture) :
    (s.withCapture x).zones = s.zones := rfl
@[simp] theorem State.withCapture_comp (s : State) (x : Capture) :
    (s.withCapture x).comp = s.comp := rfl
@[simp] theorem State.withCapture_glyph (s : State) (x : Capture) :
    (s.withCapture x).glyph = s.glyph := rfl
@[simp] theorem State.withCapture_timing (s : State) (x : Capture) :
    (s.withCapture x).timing = s.timing := rfl
@[simp] theorem State.withCapture_capture (s : State) (x : Capture) :
    (s.withCapture x).capture = x := rfl
@[simp] theorem State.withCapture_player (s : State) (x : Capture) :
    (s.withCapture x).player = s.player := rfl
@[simp] theorem State.withCapture_sponsor (s : State) (x : Capture) :
    (s.withCapture x).sponsor = s.sponsor := rfl
@[simp] theorem State.withCapture_message (s : State) (x : Capture) :
    (s.withCapture x).message = s.message := rfl
@[simp] theorem State.withCapture_free (s : State) (x : Capture) :
    (s.withCapture x).free = s.free := rfl
@[simp] theorem State.withPlayer_pending (s : State) (x : Player) :
    (s.withPlayer x).pending = s.pending := rfl
@[simp] theorem State.withPlayer_pins (s : State) (x : Player) :
    (s.withPlayer x).pins = s.pins := rfl
@[simp] theorem State.withPlayer_bus (s : State) (x : Player) :
    (s.withPlayer x).bus = s.bus := rfl
@[simp] theorem State.withPlayer_cmd (s : State) (x : Player) :
    (s.withPlayer x).cmd = s.cmd := rfl
@[simp] theorem State.withPlayer_counters (s : State) (x : Player) :
    (s.withPlayer x).counters = s.counters := rfl
@[simp] theorem State.withPlayer_zones (s : State) (x : Player) :
    (s.withPlayer x).zones = s.zones := rfl
@[simp] theorem State.withPlayer_comp (s : State) (x : Player) :
    (s.withPlayer x).comp = s.comp := rfl
@[simp] theorem State.withPlayer_glyph (s : State) (x : Player) :
    (s.withPlayer x).glyph = s.glyph := rfl
@[simp] theorem State.withPlayer_timing (s : State) (x : Player) :
    (s.withPlayer x).timing = s.timing := rfl
@[simp] theorem State.withPlayer_capture (s : State) (x : Player) :
    (s.withPlayer x).capture = s.capture := rfl
@[simp] theorem State.withPlayer_player (s : State) (x : Player) :
    (s.withPlayer x).player = x := rfl
@[simp] theorem State.withPlayer_sponsor (s : State) (x : Player) :
    (s.withPlayer x).sponsor = s.sponsor := rfl
@[simp] theorem State.withPlayer_message (s : State) (x : Player) :
    (s.withPlayer x).message = s.message := rfl
@[simp] theorem State.withPlayer_free (s : State) (x : Player) :
    (s.withPlayer x).free = s.free := rfl
@[simp] theorem State.withSponsor_pending (s : State) (x : Sponsor) :
    (s.withSponsor x).pending = s.pending := rfl
@[simp] theorem State.withSponsor_pins (s : State) (x : Sponsor) :
    (s.withSponsor x).pins = s.pins := rfl
@[simp] theorem State.withSponsor_bus (s : State) (x : Sponsor) :
    (s.withSponsor x).bus = s.bus := rfl
@[simp] theorem State.withSponsor_cmd (s : State) (x : Sponsor) :
    (s.withSponsor x).cmd = s.cmd := rfl
@[simp] theorem State.withSponsor_counters (s : State) (x : Sponsor) :
    (s.withSponsor x).counters = s.counters := rfl
@[simp] theorem State.withSponsor_zones (s : State) (x : Sponsor) :
    (s.withSponsor x).zones = s.zones := rfl
@[simp] theorem State.withSponsor_comp (s : State) (x : Sponsor) :
    (s.withSponsor x).comp = s.comp := rfl
@[simp] theorem State.withSponsor_glyph (s : State) (x : Sponsor) :
    (s.withSponsor x).glyph = s.glyph := rfl
@[simp] theorem State.withSponsor_timing (s : State) (x : Sponsor) :
    (s.withSponsor x).timing = s.timing := rfl
@[simp] theorem State.withSponsor_capture (s : State) (x : Sponsor) :
    (s.withSponsor x).capture = s.capture := rfl
@[simp] theorem State.withSponsor_player (s : State) (x : Sponsor) :
    (s.withSponsor x).player = s.player := rfl
@[simp] theorem State.withSponsor_sponsor (s : State) (x : Sponsor) :
    (s.withSponsor x).sponsor = x := rfl
@[simp] theorem State.withSponsor_message (s : State) (x : Sponsor) :
    (s.withSponsor x).message = s.message := rfl
@[simp] theorem State.withSponsor_free (s : State) (x : Sponsor) :
    (s.withSponsor x).free = s.free := rfl
@[simp] theorem State.withMessage_pending (s : State) (x : MessageUnit) :
    (s.withMessage x).pending = s.pending := rfl
@[simp] theorem State.withMessage_pins (s : State) (x : MessageUnit) :
    (s.withMessage x).pins = s.pins := rfl
@[simp] theorem State.withMessage_bus (s : State) (x : MessageUnit) :
    (s.withMessage x).bus = s.bus := rfl
@[simp] theorem State.withMessage_cmd (s : State) (x : MessageUnit) :
    (s.withMessage x).cmd = s.cmd := rfl
@[simp] theorem State.withMessage_counters (s : State) (x : MessageUnit) :
    (s.withMessage x).counters = s.counters := rfl
@[simp] theorem State.withMessage_zones (s : State) (x : MessageUnit) :
    (s.withMessage x).zones = s.zones := rfl
@[simp] theorem State.withMessage_comp (s : State) (x : MessageUnit) :
    (s.withMessage x).comp = s.comp := rfl
@[simp] theorem State.withMessage_glyph (s : State) (x : MessageUnit) :
    (s.withMessage x).glyph = s.glyph := rfl
@[simp] theorem State.withMessage_timing (s : State) (x : MessageUnit) :
    (s.withMessage x).timing = s.timing := rfl
@[simp] theorem State.withMessage_capture (s : State) (x : MessageUnit) :
    (s.withMessage x).capture = s.capture := rfl
@[simp] theorem State.withMessage_player (s : State) (x : MessageUnit) :
    (s.withMessage x).player = s.player := rfl
@[simp] theorem State.withMessage_sponsor (s : State) (x : MessageUnit) :
    (s.withMessage x).sponsor = s.sponsor := rfl
@[simp] theorem State.withMessage_message (s : State) (x : MessageUnit) :
    (s.withMessage x).message = x := rfl
@[simp] theorem State.withMessage_free (s : State) (x : MessageUnit) :
    (s.withMessage x).free = s.free := rfl
@[simp] theorem State.withFree_pending (s : State) (x : Nat) :
    (s.withFree x).pending = s.pending := rfl
@[simp] theorem State.withFree_pins (s : State) (x : Nat) :
    (s.withFree x).pins = s.pins := rfl
@[simp] theorem State.withFree_bus (s : State) (x : Nat) :
    (s.withFree x).bus = s.bus := rfl
@[simp] theorem State.withFree_cmd (s : State) (x : Nat) :
    (s.withFree x).cmd = s.cmd := rfl
@[simp] theorem State.withFree_counters (s : State) (x : Nat) :
    (s.withFree x).counters = s.counters := rfl
@[simp] theorem State.withFree_zones (s : State) (x : Nat) :
    (s.withFree x).zones = s.zones := rfl
@[simp] theorem State.withFree_comp (s : State) (x : Nat) :
    (s.withFree x).comp = s.comp := rfl
@[simp] theorem State.withFree_glyph (s : State) (x : Nat) :
    (s.withFree x).glyph = s.glyph := rfl
@[simp] theorem State.withFree_timing (s : State) (x : Nat) :
    (s.withFree x).timing = s.timing := rfl
@[simp] theorem State.withFree_capture (s : State) (x : Nat) :
    (s.withFree x).capture = s.capture := rfl
@[simp] theorem State.withFree_player (s : State) (x : Nat) :
    (s.withFree x).player = s.player := rfl
@[simp] theorem State.withFree_sponsor (s : State) (x : Nat) :
    (s.withFree x).sponsor = s.sponsor := rfl
@[simp] theorem State.withFree_message (s : State) (x : Nat) :
    (s.withFree x).message = s.message := rfl
@[simp] theorem State.withFree_free (s : State) (x : Nat) :
    (s.withFree x).free = x := rfl

end Sys2Proof.Machine
end

