-- ==== Sys2Proof/Laws/Reports.lean ====
section
/-! SUPPORT. What the report path operations can do, once: each leaves the state as it was but for the report
path. -/

namespace Sys2Proof.Machine

theorem withReportPath_self (s : State) : s.withReportPath s.reportPath = s := rfl

@[simp] theorem withReportPath_twice (s : State) (p q : ReportPath) :
    (s.withReportPath p).withReportPath q = s.withReportPath q := rfl

@[simp] theorem sansReports_withReportPath (s : State) (p : ReportPath) :
    (s.withReportPath p).sansReports = s.sansReports := rfl

section fields
variable (s : State) (p : ReportPath)
@[simp] theorem withReportPath_pending : (s.withReportPath p).pending = s.pending := rfl
@[simp] theorem withReportPath_pins : (s.withReportPath p).pins = s.pins := rfl
@[simp] theorem withReportPath_counters : (s.withReportPath p).counters = s.counters := rfl
@[simp] theorem withReportPath_zones : (s.withReportPath p).zones = s.zones := rfl
@[simp] theorem withReportPath_comp : (s.withReportPath p).comp = s.comp := rfl
@[simp] theorem withReportPath_glyph : (s.withReportPath p).glyph = s.glyph := rfl
@[simp] theorem withReportPath_timing : (s.withReportPath p).timing = s.timing := rfl
@[simp] theorem withReportPath_capture : (s.withReportPath p).capture = s.capture := rfl
@[simp] theorem withReportPath_player : (s.withReportPath p).player = s.player := rfl
@[simp] theorem withReportPath_sponsor : (s.withReportPath p).sponsor = s.sponsor := rfl
@[simp] theorem withReportPath_message : (s.withReportPath p).message = s.message := rfl
@[simp] theorem withReportPath_free : (s.withReportPath p).free = s.free := rfl
end fields

/-- One move changes the report path alone. -/
theorem moveReport_shape (s : State) : ∃ p, moveReport s = s.withReportPath p := by
  unfold moveReport
  split
  · exact ⟨s.reportPath, rfl⟩
  · exact ⟨⟨_, _, _, _, _⟩, rfl⟩

theorem moveUpTo_shape (n : Nat) (s : State) : ∃ p, moveUpTo n s = s.withReportPath p := by
  induction n generalizing s with
  | zero => exact ⟨s.reportPath, rfl⟩
  | succ n ih =>
    simp only [moveUpTo]
    split
    · obtain ⟨p, hp⟩ := moveReport_shape s
      obtain ⟨q, hq⟩ := ih (moveReport s)
      exact ⟨q, by rw [hq, hp]; rfl⟩
    · exact ⟨s.reportPath, rfl⟩

theorem moveReports_shape (s : State) : ∃ p, moveReports s = s.withReportPath p :=
  moveUpTo_shape _ s

theorem enqueue_shape (r : Report) (s : State) : ∃ p, enqueue r s = s.withReportPath p := by
  unfold enqueue
  split
  · simp only []
    split
    · obtain ⟨p, hp⟩ := moveReports_shape (s.withCmd { s.cmd with queue := s.cmd.queue ++ [r] })
      exact ⟨p, by rw [hp]; rfl⟩
    · exact ⟨⟨_, _, _, _, _⟩, rfl⟩
  · exact ⟨⟨_, _, _, _, _⟩, rfl⟩

theorem offer_shape (rs : List Report) (s : State) : ∃ p, s.offer rs = s.withReportPath p := by
  induction rs generalizing s with
  | nil => exact ⟨s.reportPath, rfl⟩
  | cons r rs ih =>
    obtain ⟨p, hp⟩ := enqueue_shape r s
    obtain ⟨q, hq⟩ := ih (enqueue r s)
    exact ⟨q, by simp only [State.offer, List.foldl_cons] at hq ⊢; rw [hq, hp]; rfl⟩

theorem enqueuePair_shape (r₁ r₂ : Report) (s : State) :
    ∃ p, enqueuePair r₁ r₂ s = s.withReportPath p := by
  unfold enqueuePair
  split
  · obtain ⟨p, hp⟩ := offer_shape [r₁, r₂] s
    exact ⟨p, hp⟩
  · exact ⟨⟨_, _, _, _, _⟩, rfl⟩

theorem post_shape (unit : UnitId) (tag : BitVec 16) (kind : ReportKind) (code subject : Nat)
    (payload : List Byte) (s : State) :
    ∃ p, post unit tag kind code subject payload s = s.withReportPath p := enqueue_shape _ s

/-- A report with code 0 is posted as the one `State.report` describes. -/
theorem post_eq_offer (unit : UnitId) (tag : BitVec 16) (kind : ReportKind) (subject : Nat)
    (payload : List Byte) (s : State) :
    post unit tag kind 0 subject payload s = s.offer [s.report unit tag kind subject payload] := rfl

/-- Reports offered in two lots are offered in one. -/
theorem offer_append (s : State) (l m : List Report) : (s.offer l).offer m = s.offer (l ++ m) := by
  simp [State.offer, List.foldl_append]

/-! ## What the report path neither sees nor touches -/

/-- A change of the state that the report path neither sees nor touches. -/
structure Aside (f : State → State) : Prop where
  cmd : ∀ s, (f s).cmd = s.cmd
  bus : ∀ s, (f s).bus = s.bus
  withCmd : ∀ s x, f (s.withCmd x) = (f s).withCmd x
  withBus : ∀ s x, f (s.withBus x) = (f s).withBus x

theorem Aside.moveReport {f : State → State} (h : Aside f) (s : State) :
    Machine.moveReport (f s) = f (Machine.moveReport s) := by
  unfold Machine.moveReport
  rw [h.cmd, h.bus]
  split
  · rfl
  · rw [h.withCmd, h.withBus]

theorem Aside.moveUpTo {f : State → State} (h : Aside f) (n : Nat) (s : State) :
    Machine.moveUpTo n (f s) = f (Machine.moveUpTo n s) := by
  induction n generalizing s with
  | zero => rfl
  | succ n ih =>
    have hc : (f s).canMove = s.canMove := by unfold State.canMove; rw [h.cmd, h.bus]
    simp only [Machine.moveUpTo, hc]
    split
    · rw [h.moveReport, ih]
    · rfl

/-- Such a change and a report that is generated may change places. -/
theorem Aside.enqueue {f : State → State} (h : Aside f) (r : Report) (s : State) :
    Machine.enqueue r (f s) = f (Machine.enqueue r s) := by
  unfold Machine.enqueue
  simp only [h.cmd, ← h.withCmd, moveReports]
  split
  · split
    · exact h.moveUpTo _ _
    · rfl
  · rfl

theorem Aside.offer {f : State → State} (h : Aside f) (rs : List Report) (s : State) :
    (f s).offer rs = f (s.offer rs) := by
  induction rs generalizing s with
  | nil => rfl
  | cons r rs ih =>
    simp only [State.offer, List.foldl_cons] at ih ⊢
    rw [h.enqueue, ih]

section aside
variable (s : State) (rs : List Report)
theorem offer_withPins (x : Pins) : (s.withPins x).offer rs = (s.offer rs).withPins x :=
  Aside.offer (f := (·.withPins x))
    ⟨fun _ => rfl, fun _ => rfl, fun _ _ => rfl, fun _ _ => rfl⟩ rs s
theorem offer_withCounters (x : Counters) : (s.withCounters x).offer rs = (s.offer rs).withCounters x :=
  Aside.offer (f := (·.withCounters x))
    ⟨fun _ => rfl, fun _ => rfl, fun _ _ => rfl, fun _ _ => rfl⟩ rs s
theorem offer_withZones (x : Tab Zone 4) : (s.withZones x).offer rs = (s.offer rs).withZones x :=
  Aside.offer (f := (·.withZones x))
    ⟨fun _ => rfl, fun _ => rfl, fun _ _ => rfl, fun _ _ => rfl⟩ rs s
theorem offer_withComp (x : Compositor) : (s.withComp x).offer rs = (s.offer rs).withComp x :=
  Aside.offer (f := (·.withComp x))
    ⟨fun _ => rfl, fun _ => rfl, fun _ _ => rfl, fun _ _ => rfl⟩ rs s
theorem offer_withGlyph (x : GlyphRenderer) : (s.withGlyph x).offer rs = (s.offer rs).withGlyph x :=
  Aside.offer (f := (·.withGlyph x))
    ⟨fun _ => rfl, fun _ => rfl, fun _ _ => rfl, fun _ _ => rfl⟩ rs s
theorem offer_withTiming (x : TimingUnit) : (s.withTiming x).offer rs = (s.offer rs).withTiming x :=
  Aside.offer (f := (·.withTiming x))
    ⟨fun _ => rfl, fun _ => rfl, fun _ _ => rfl, fun _ _ => rfl⟩ rs s
theorem offer_withCapture (x : Capture) : (s.withCapture x).offer rs = (s.offer rs).withCapture x :=
  Aside.offer (f := (·.withCapture x))
    ⟨fun _ => rfl, fun _ => rfl, fun _ _ => rfl, fun _ _ => rfl⟩ rs s
theorem offer_withPlayer (x : Player) : (s.withPlayer x).offer rs = (s.offer rs).withPlayer x :=
  Aside.offer (f := (·.withPlayer x))
    ⟨fun _ => rfl, fun _ => rfl, fun _ _ => rfl, fun _ _ => rfl⟩ rs s
theorem offer_withSponsor (x : Sponsor) : (s.withSponsor x).offer rs = (s.offer rs).withSponsor x :=
  Aside.offer (f := (·.withSponsor x))
    ⟨fun _ => rfl, fun _ => rfl, fun _ _ => rfl, fun _ _ => rfl⟩ rs s
theorem offer_withMessage (x : MessageUnit) : (s.withMessage x).offer rs = (s.offer rs).withMessage x :=
  Aside.offer (f := (·.withMessage x))
    ⟨fun _ => rfl, fun _ => rfl, fun _ _ => rfl, fun _ _ => rfl⟩ rs s
end aside

/-- An increment changes its counter and the report path. -/
theorem count_shape (id : CounterId) (s : State) :
    ∃ p, count id s =
      (s.withCounters (s.counters.set id ((s.counters.get id).bump s.cmd.saturate))).withReportPath
        p := by
  unfold count
  simp only []
  split
  · exact post_shape _ _ _ _ _ _ _
  · exact ⟨State.reportPath _, rfl⟩

/-! ## Acknowledgement -/

theorem acknowledge_refuse (code : Nat) (unit : UnitId) (h : Header) (s : State) (c : RefusalCode) :
    acknowledge code unit h s (.refuse c) = s.refuse code unit h c := rfl

theorem acknowledge_done (code : Nat) (unit : UnitId) (h : Header) (s t : State) (clamped : Bool)
    (payload : List Byte) (atEnd : Bool) :
    acknowledge code unit h s (.done t clamped payload atEnd) =
      t.done code unit h clamped payload atEnd := by
  cases hq : h.quiet <;> simp [acknowledge, State.done, State.offer, hq]
  rfl

theorem acknowledge_ok (code : Nat) (unit : UnitId) (h : Header) (s t : State) :
    acknowledge code unit h s (.ok t) = t.done code unit h false [] :=
  acknowledge_done code unit h s t false [] false

theorem acknowledge_ack (code : Nat) (unit : UnitId) (h : Header) (s t : State) (clamped : Bool) :
    acknowledge code unit h s (.ack t clamped) = t.done code unit h clamped [] :=
  acknowledge_done code unit h s t clamped [] false

theorem acknowledge_data (code : Nat) (unit : UnitId) (h : Header) (s t : State) :
    acknowledge code unit h s (.data t) = t := rfl

/-- The state a reply comes to, before its acknowledgement. -/
def Reply.state (s : State) : Reply → State
  | .refuse _ => s
  | .done t _ _ _ => t
  | .data t => t

/-- An acknowledgement changes the report path of what the command came to, and nothing else. -/
theorem acknowledge_shape (code : Nat) (unit : UnitId) (h : Header) (s : State) (r : Reply) :
    ∃ p, acknowledge code unit h s r = (r.state s).withReportPath p := by
  cases r with
  | refuse c => exact post_shape _ _ _ _ _ _ _
  | done t clamped payload atEnd => rw [acknowledge_done]; exact offer_shape _ _
  | data t => exact ⟨t.reportPath, rfl⟩

/-- While RESET_N is released an effect takes place. -/
theorem whileRunning_running (effect : State → State) {s : State} (h : s.Running) :
    whileRunning effect s = effect s := by
  unfold whileRunning; rw [h]; rfl

/-- While it is asserted none does. -/
theorem whileRunning_asserted (effect : State → State) {s : State}
    (h : s.pins.resetAsserted = true) : whileRunning effect s = s := by
  unfold whileRunning; rw [h]; rfl

end Sys2Proof.Machine
end

