-- ==== Sys2Proof/Laws/Tab.lean ====
section
/-! SUPPORT. What reading a table gives after each way of writing one. -/

namespace Sys2Proof.Tab

variable {α β : Type} {n : Nat}

@[simp] theorem get_set_self (t : Tab α n) (i : Fin n) (x : α) : (t.set i x).get i = x := by
  simp [get, set]

theorem get_set_ne (t : Tab α n) {i j : Fin n} (x : α) (h : i ≠ j) :
    (t.set i x).get j = t.get j := by
  have hv : i.val ≠ j.val := fun e => h (Fin.ext e)
  simp [get, set, List.getElem_set_ne hv]

theorem get_set (t : Tab α n) (i j : Fin n) (x : α) :
    (t.set i x).get j = if i = j then x else t.get j := by
  split
  · subst_vars; simp
  · exact get_set_ne t x ‹_›

@[simp] theorem get_fill (x : α) (i : Fin n) : (fill n x).get i = x := by
  simp [get, fill]

@[simp] theorem get_map (f : α → β) (t : Tab α n) (i : Fin n) : (t.map f).get i = f (t.get i) := by
  simp [get, map]

@[simp] theorem get_modify_self (t : Tab α n) (i : Fin n) (f : α → α) :
    (t.modify i f).get i = f (t.get i) := by
  simp [modify]

theorem get_modify_ne (t : Tab α n) {i j : Fin n} (f : α → α) (h : i ≠ j) :
    (t.modify i f).get j = t.get j := get_set_ne t _ h

/-- Tables with the same entries are the same table. -/
theorem ext_get {t u : Tab α n} (h : ∀ i, t.get i = u.get i) : t = u := by
  cases t with
  | mk l hl =>
    cases u with
    | mk m hm =>
      have : l = m := by
        apply List.ext_getElem (hl.trans hm.symm)
        intro k h₁ _
        exact h ⟨k, hl ▸ h₁⟩
      subst this; rfl

@[simp] theorem set_get (t : Tab α n) (i : Fin n) : t.set i (t.get i) = t := by
  apply ext_get
  intro j
  rw [get_set]
  split
  · subst_vars; rfl
  · rfl

end Sys2Proof.Tab
end

