-- ==== Sys2Proof/Laws/Shapes.lean ====
section
/-! SUPPORT. For each shared operation, which blocks of the state it can change: `f s` is `s` with those blocks
replaced, so that any other field of `f s` is that of `s` by rfl after one rewrite. -/

namespace Sys2Proof.Machine

/-- Replacing blocks commutes with the report path, which no block operation reads. -/
theorem fold_shape {α β : Type} (put : State → β → State)
    (self : ∀ s, ∃ b, s = put s b) (twice : ∀ s a b, put (put s a) b = put s b)
    (f : State → α → State) (shape : ∀ s x, ∃ b, f s x = put s b) (l : List α) (s : State) :
    ∃ b, l.foldl f s = put s b := by
  induction l generalizing s with
  | nil => exact self s
  | cons x l ih =>
    obtain ⟨b, hb⟩ := shape s x
    obtain ⟨c, hc⟩ := ih (f s x)
    exact ⟨c, by rw [List.foldl_cons, hc, hb, twice]⟩

/-! ## Counters and horns -/

/-- What counting can change: the counters and the report path. -/
def State.counted (s : State) (x : Counters × ReportPath) : State :=
  (s.withCounters x.1).withReportPath x.2

theorem counted_intro {s t : State} (h : t = s.counted ⟨t.counters, t.reportPath⟩) : ∃ x, t = s.counted x := ⟨_, h⟩

theorem count_counted (id : CounterId) (s : State) : ∃ x, count id s = s.counted x := by
  obtain ⟨p, hp⟩ := count_shape id s
  exact ⟨⟨_, p⟩, hp⟩

/-- The counter an increment names takes the increment, and every other keeps its value. -/
theorem count_counters (id : CounterId) (s : State) :
    (count id s).counters = s.counters.set id ((s.counters.get id).bump s.cmd.saturate) := by
  obtain ⟨p, hp⟩ := count_shape id s
  rw [hp]; rfl

/-- Counting leaves the counter mode and everything of the command unit but the report path. -/
theorem count_saturate (id : CounterId) (s : State) :
    (count id s).cmd.saturate = s.cmd.saturate := by
  obtain ⟨p, hp⟩ := count_shape id s
  rw [hp]; rfl

theorem Counters.get_set_self (c : Counters) (id : CounterId) (x : Counter) :
    (c.set id x).get id = x := by
  cases id <;> simp [Counters.set, Counters.get]

theorem Counters.get_set_ne (c : Counters) {i j : CounterId} (x : Counter) (h : i ≠ j) :
    (c.set i x).get j = c.get j := by
  cases i <;> cases j <;> simp [Counters.set, Counters.get, Tab.get_set] at h ⊢ <;>
    intro e <;> exact absurd e h

theorem triggerHorn_shape (which : HornId) (s : State) :
    ∃ t, triggerHorn which s = s.withTiming t := by
  cases which <;> exact ⟨_, rfl⟩

/-! ## The sponsor unit -/

theorem search_shape (p : Fin 8) (first : Nat) (s : State) :
    ∃ x, search p first s = s.withSponsor x := by
  unfold search
  dsimp only
  split <;> exact ⟨_, rfl⟩

theorem startMoment_shape (p : Fin 8) (e : Fin 128) (frames : Nat) (s : State) :
    ∃ x, startMoment p e frames s = s.withSponsor x := ⟨_, rfl⟩

theorem progress_shape (showing : Count) (p : Fin 8) (s : State) :
    ∃ x, progress showing p s = s.withSponsor x := by
  unfold progress
  simp only []
  split
  · split
    · exact ⟨_, rfl⟩
    · exact ⟨_, rfl⟩
    · exact ⟨s.sponsor, rfl⟩
    · exact ⟨s.sponsor, rfl⟩
  · exact ⟨s.sponsor, rfl⟩

theorem rotateDecision_shape (p : Fin 8) (s : State) :
    ∃ x, rotateDecision p s = s.withSponsor x := by
  unfold rotateDecision
  dsimp only
  split
  · exact search_shape _ _ _
  · split
    · exact search_shape _ _ _
    · exact ⟨s.sponsor, rfl⟩

theorem decision_shape (p : Fin 8) (s : State) : ∃ x, decision p s = s.withSponsor x := by
  unfold decision
  split
  · exact ⟨s.sponsor, rfl⟩
  · exact ⟨s.sponsor, rfl⟩
  · exact rotateDecision_shape _ _
  · split
    · simp only []
      split
      · obtain ⟨x, hx⟩ := rotateDecision_shape p (endMoment p s)
        exact ⟨x, by rw [hx]; rfl⟩
      · exact ⟨_, rfl⟩
    · exact ⟨s.sponsor, rfl⟩

/-- What the accounting of a close can change. -/
def State.credited (s : State) (x : Sponsor × Counters × ReportPath) : State :=
  ((s.withSponsor x.1).withCounters x.2.1).withReportPath x.2.2

theorem credited_intro {s t : State} (h : t = s.credited ⟨t.sponsor, t.counters, t.reportPath⟩) : ∃ x, t = s.credited x := ⟨_, h⟩

theorem credited_self (s : State) : ∃ x, s = s.credited x :=
  ⟨⟨s.sponsor, s.counters, s.reportPath⟩, rfl⟩

theorem fulfil_shape (e : Fin 128) (cause : Nat) (p : Option (Fin 8)) (s : State) :
    ∃ x, fulfil e cause p s = s.credited x := by
  unfold fulfil postFulfilled
  split
  · obtain ⟨q, hq⟩ := post_shape .sponsor 0 .entryFulfilled 0 e.val
      (bytesOf 4 ((s.setEntry e { s.entry e with fulfilled := true }).counters.exposed.get e).value ++
        leBytes 4 ((s.setEntry e { s.entry e with fulfilled := true }).entry e).target ++
        leBytes 1 cause ++ optionalIndex 1 p)
      (s.setEntry e { s.entry e with fulfilled := true })
    exact ⟨⟨(s.setEntry e { s.entry e with fulfilled := true }).sponsor, s.counters, q⟩, by
      rw [hq]; rfl⟩
  · exact credited_self s

theorem expose_shape (e : Fin 128) (cause : Nat) (p : Option (Fin 8)) (s : State) :
    ∃ x, expose e cause p s = s.credited x := by
  obtain ⟨a, ha⟩ := count_shape (.exposed e) s
  obtain ⟨⟨x, c, q⟩, hx⟩ := fulfil_shape e cause p (count (.exposed e) s)
  exact ⟨⟨x, c, q⟩, by unfold expose; rw [hx, ha]; rfl⟩

theorem settlePanel_shape (z : Fin 4) (r : CloseRecord) (s : State) (p : Fin 8) :
    ∃ x, settlePanel z r s p = s.credited x := by
  unfold settlePanel
  simp only []
  split
  · exact credited_self s
  split
  · obtain ⟨a, ha⟩ := count_shape (.occluded p) s
    rw [ha]; exact credited_intro rfl
  split
  · have key : ∀ t : State, (∃ x, t = s.credited x) → ∀ g,
        ∃ x, decision p (progress g p t) = s.credited x := by
      rintro t ⟨⟨x, c, q⟩, rfl⟩ g
      obtain ⟨y, hy⟩ := progress_shape g p (s.credited ⟨x, c, q⟩)
      obtain ⟨w, hw⟩ := decision_shape p (progress g p (s.credited ⟨x, c, q⟩))
      exact ⟨⟨w, c, q⟩, by rw [hw, hy]; rfl⟩
    apply key
    split
    · exact expose_shape _ _ _ _
    · exact credited_self s
  · obtain ⟨a, ha⟩ := count_shape (.occluded p) s
    obtain ⟨w, hw⟩ := decision_shape p (count (.occluded p) s)
    rw [hw, ha]; exact credited_intro rfl

theorem settlePanels_shape (z : Fin 4) (r : CloseRecord) (s : State) :
    ∃ x, settlePanels z r s = s.credited x :=
  fold_shape State.credited credited_self (fun _ _ _ => rfl) _ (settlePanel_shape z r) _ s

theorem creditMentions_shape (l : List (Fin 128)) (s : State) :
    ∃ x, creditMentions l s = s.credited x := by
  refine fold_shape State.credited credited_self (fun _ _ _ => rfl) _ (fun t e => ?_) _ s
  split
  · exact expose_shape _ _ _ _
  · exact credited_self t

/-! ## Closes and starts of frames -/

theorem countClose_shape (z : Fin 4) (complete loss : Bool) (s : State) :
    ∃ x, countClose z complete loss s = s.counted x := by
  have key : ∀ t : State, (∃ p, t = s.withReportPath p) →
      ∃ x, (if complete then count (zoneCounter z 0) t
        else count (zoneCounter z 1) (count (zoneCounter z 0) t)) = s.counted x := by
    rintro t ⟨p, rfl⟩
    obtain ⟨a, ha⟩ := count_shape (zoneCounter z 0) (s.withReportPath p)
    obtain ⟨b, hb⟩ := count_shape (zoneCounter z 1) (count (zoneCounter z 0) (s.withReportPath p))
    split
    · rw [ha]; exact counted_intro rfl
    · rw [hb, ha]; exact counted_intro rfl
  unfold countClose
  apply key
  split
  · exact post_shape _ _ _ _ _ _ _
  · exact ⟨s.reportPath, rfl⟩

/-- What a frame close can change beside the zone: the counters, the sponsor unit, the zone's clear and served
record, the crawl record, and the report path. -/
def State.closedFrame (s : State)
    (x : Sponsor × Counters × Tab (Option (List FrameMark)) 4 × Option CrawlRecord × ReportPath) :
    State :=
  ((((s.withSponsor x.1).withCounters x.2.1).withComp
    { s.comp with frameRecord := x.2.2.1 }).withMessage
    { s.message with record := x.2.2.2.1 }).withReportPath x.2.2.2.2

theorem closedFrame_intro {s t : State}
    (h : t = s.closedFrame
      ⟨t.sponsor, t.counters, t.comp.frameRecord, t.message.record, t.reportPath⟩) :
    ∃ x, t = s.closedFrame x := ⟨_, h⟩

theorem closedFrame_path (s : State) (p : ReportPath) :
    s.closedFrame ⟨s.sponsor, s.counters, s.comp.frameRecord, s.message.record, p⟩ =
      s.withReportPath p := by
  unfold State.closedFrame
  dsimp only
  rw [show s.withSponsor s.sponsor = s from rfl, show s.withCounters s.counters = s from rfl,
    show s.withComp { s.comp with frameRecord := s.comp.frameRecord } = s from rfl,
    show s.withMessage { s.message with record := s.message.record } = s from rfl]

theorem closedFrame_self (s : State) :
    s.closedFrame ⟨s.sponsor, s.counters, s.comp.frameRecord, s.message.record, s.reportPath⟩ = s := by
  rw [closedFrame_path, withReportPath_self]

theorem closeReactions_shape (z : Fin 4) (s : State) :
    ∃ x, closeReactions z s = s.closedFrame x := by
  unfold closeReactions
  simp only []
  obtain ⟨⟨a, b, c⟩, h₁⟩ := settlePanels_shape z (s.closeRecord z) s
  obtain ⟨⟨d, e, f⟩, h₂⟩ := creditMentions_shape (s.mentionList z (s.closeRecord z))
    (settlePanels z (s.closeRecord z) s)
  rw [h₂, h₁]
  unfold discardRecord discardCrawlRecord
  split
  · exact closedFrame_intro rfl
  · split <;> exact closedFrame_intro rfl

theorem closeByPulse_shape (z : Fin 4) (s : State) : ∃ x, closeByPulse z s = s.closedFrame x := by
  unfold closeByPulse
  obtain ⟨⟨a, b⟩, h⟩ := countClose_shape z (s.zone z).covered false s
  obtain ⟨⟨c, d, e, f, g⟩, h'⟩ := closeReactions_shape z (countClose z (s.zone z).covered false s)
  exact ⟨⟨c, d, e, f, g⟩, by rw [h', h]; rfl⟩

/-! ## The player at a frame start -/

/-- What the player's reactions can change. -/
def State.played (s : State) (x : Player × ReportPath) : State :=
  (s.withPlayer x.1).withReportPath x.2

theorem played_intro {s t : State} (h : t = s.played ⟨t.player, t.reportPath⟩) : ∃ x, t = s.played x := ⟨_, h⟩

theorem select_shape (i : Nat) (s : State) : ∃ x, select i s = s.withPlayer x := ⟨_, rfl⟩

theorem endOrSelect_shape (latch : Bool) (s : State) : ∃ x, endOrSelect latch s = s.withPlayer x := by
  unfold endOrSelect
  simp only []
  split
  · exact ⟨_, rfl⟩
  · split <;> exact ⟨_, rfl⟩

theorem paceSelection_shape (latch : Bool) (s : State) :
    ∃ x, paceSelection latch s = s.withPlayer x := by
  unfold paceSelection
  split
  · exact ⟨s.player, rfl⟩
  · exact ⟨s.player, rfl⟩
  · exact ⟨_, rfl⟩
  · exact endOrSelect_shape _ _
  · split
    · exact ⟨_, rfl⟩
    · exact ⟨s.player, rfl⟩

theorem paceAdvance_shape (s : State) : ∃ x, paceAdvance s = s.withPlayer x := by
  unfold paceAdvance
  split
  · exact ⟨_, rfl⟩
  · exact ⟨s.player, rfl⟩

theorem applyAlertPolicy_shape (latch : Bool) (s : State) :
    ∃ x, applyAlertPolicy latch s = s.played x := by
  unfold applyAlertPolicy pauseByAlert
  split
  · obtain ⟨p, hp⟩ := post_shape .player 0 .pausedByAlert 0 0
      (packPlayer (s.withPlayer (s.player.pauseFor .alert)).player)
      (s.withPlayer (s.player.pauseFor .alert))
    rw [hp]; exact played_intro rfl
  · exact played_intro rfl

theorem playerFrameStart_shape (z : Fin 4) (s : State) :
    ∃ x, playerFrameStart z s = s.played x := by
  unfold playerFrameStart latchSlot
  split
  · obtain ⟨⟨a, p⟩, h₁⟩ := applyAlertPolicy_shape (s.comp.alertLatch.get z) s
    obtain ⟨b, h₂⟩ := paceSelection_shape (s.comp.alertLatch.get z)
      (applyAlertPolicy (s.comp.alertLatch.get z) s)
    obtain ⟨c, h₃⟩ := paceAdvance_shape (paceSelection (s.comp.alertLatch.get z)
      (applyAlertPolicy (s.comp.alertLatch.get z) s))
    rw [h₃, h₂, h₁]; exact played_intro rfl
  · exact played_intro rfl

/-! ## The message unit -/

/-- What the message unit's reactions can change. -/
def State.messaged (s : State) (x : MessageUnit × ReportPath) : State :=
  (s.withMessage x.1).withReportPath x.2

theorem messaged_intro {s t : State} (h : t = s.messaged ⟨t.message, t.reportPath⟩) : ∃ x, t = s.messaged x := ⟨_, h⟩

theorem messaged_self (s : State) : ∃ x, s = s.messaged x := ⟨⟨s.message, s.reportPath⟩, rfl⟩

/-- Reactions of the message unit one after the other. -/
theorem messaged_comp {s : State} {f : State → State} (hf : ∀ t, ∃ x, f t = t.messaged x) {t : State}
    (ht : ∃ x, t = s.messaged x) : ∃ x, f t = s.messaged x := by
  obtain ⟨x, rfl⟩ := ht
  obtain ⟨y, hy⟩ := hf (s.messaged x)
  exact ⟨y, by rw [hy]; rfl⟩

theorem testHold_shape (tag : BitVec 16) (s : State) : ∃ x, testHold tag s = s.messaged x := by
  unfold testHold postQueueHold
  simp only []
  split
  · split
    · obtain ⟨p, hp⟩ := post_shape .message tag .queueHold 0 0
        (leBytes 2 s.message.config.holdTime ++
          leBytes 2 (s.withMessage
            { s.message with hold := some s.message.config.holdPeriod }).message.occupancy)
        (s.withMessage { s.message with hold := some s.message.config.holdPeriod })
      rw [hp]; exact messaged_intro rfl
    · exact messaged_self s
  · split
    · split
      · obtain ⟨p, hp⟩ := post_shape .message tag .queueHold 0 0
          (leBytes 2 0 ++ leBytes 2 (s.withMessage { s.message with hold := none }).message.occupancy)
          (s.withMessage { s.message with hold := none })
        rw [hp]; exact messaged_intro rfl
      · exact messaged_intro rfl
    · exact messaged_self s

theorem pulseHoldTimer_shape (s : State) : ∃ x, pulseHoldTimer s = s.messaged x := by
  unfold pulseHoldTimer postQueueHold
  split
  · exact messaged_self s
  · split
    · obtain ⟨p, hp⟩ := post_shape .message 0 .queueHold 0 0
        (leBytes 2 s.message.config.holdTime ++
          leBytes 2 (s.withMessage
            { s.message with hold := some s.message.config.holdPeriod }).message.occupancy)
        (s.withMessage { s.message with hold := some s.message.config.holdPeriod })
      rw [hp]; exact messaged_intro rfl
    · exact messaged_intro rfl

theorem removeWith_shape (tag : BitVec 16) (i : Fin 64) (report : State → State)
    (hr : ∀ t, ∃ p, report t = t.withReportPath p) (s : State) :
    ∃ x, removeWith tag i report s = s.messaged x := by
  unfold removeWith
  refine messaged_comp (testHold_shape tag) ?_
  obtain ⟨p, hp⟩ := hr (s.withMessage (s.message.remove i))
  rw [hp]; exact messaged_intro rfl

theorem postMessageExpired_shape (m : Message) (s : State) :
    ∃ p, postMessageExpired m s = s.withReportPath p := post_shape _ _ _ _ _ _ _

theorem postRetired_shape (m : Message) (s : State) :
    ∃ p, postRetired m s = s.withReportPath p := post_shape _ _ _ _ _ _ _

theorem postWithdrawn_shape (tag : BitVec 16) (removal : Nat) (m : Message) (s : State) :
    ∃ p, postWithdrawn tag removal m s = s.withReportPath p := post_shape _ _ _ _ _ _ _

theorem promote_shape (s : State) : ∃ x, promote s = s.messaged x := by
  unfold promote
  split
  · exact messaged_intro rfl
  · exact messaged_self s

theorem withdrawAt_shape (place : Option (Fin 64)) (vacate : State → State)
    (hv : ∀ t, ∃ x, vacate t = t.messaged x) (s : State) :
    ∃ x, withdrawAt place vacate s = s.messaged x := by
  unfold withdrawAt
  split
  · exact messaged_self s
  · split
    · split
      · exact messaged_comp (removeWith_shape _ _ _ (postWithdrawn_shape _ _ _)) (hv s)
      · exact messaged_self s
    · exact messaged_self s

theorem clearLead_shape (s : State) : ∃ x, clearLead s = s.messaged x := messaged_intro rfl

theorem clearFollow_shape (s : State) : ∃ x, clearFollow s = s.messaged x :=
  messaged_intro rfl

theorem crawlWithdrawals_shape (s : State) : ∃ x, crawlWithdrawals s = s.messaged x := by
  unfold crawlWithdrawals
  exact messaged_comp promote_shape (messaged_comp
    (fun t => withdrawAt_shape _ _ clearFollow_shape t) (withdrawAt_shape _ _ clearLead_shape s))

theorem suspendExpiring_shape (place : Option (Fin 64)) (s : State) :
    ∃ x, suspendExpiring place s = s.messaged x := by
  unfold suspendExpiring
  split
  · exact messaged_self s
  · split
    · split
      · exact removeWith_shape _ _ _ (postMessageExpired_shape _) s
      · exact messaged_self s
    · exact messaged_self s

theorem returnToHead_shape (place : Option (Fin 64)) (s : State) :
    ∃ x, returnToHead place s = s.messaged x := by
  unfold returnToHead
  split
  · exact messaged_self s
  · split
    · exact messaged_intro rfl
    · exact messaged_self s

theorem suspendCrawl_shape (s : State) : ∃ x, suspendCrawl s = s.messaged x := by
  unfold suspendCrawl
  exact messaged_comp (returnToHead_shape _) (messaged_comp (returnToHead_shape _)
    (messaged_comp (suspendExpiring_shape _) (messaged_comp (suspendExpiring_shape _)
      (messaged_comp clearLead_shape (clearFollow_shape s)))))

theorem advanceAt_shape (place : Option (Fin 64)) (s : State) :
    ∃ x, advanceAt place s = s.messaged x := by
  unfold advanceAt
  split
  · exact messaged_self s
  · exact messaged_intro rfl

theorem finishLead_shape (s : State) : ∃ x, finishLead s = s.messaged x := by
  unfold finishLead
  split
  · exact messaged_self s
  · split
    · exact messaged_self s
    · split
      · simp only []
        split
        · exact messaged_comp promote_shape (messaged_comp
            (removeWith_shape _ _ _ (postMessageExpired_shape _)) (clearLead_shape s))
        · split
          · exact messaged_comp promote_shape (messaged_comp
              (removeWith_shape _ _ _ (postRetired_shape _)) (clearLead_shape s))
          · exact messaged_comp promote_shape (messaged_intro rfl)
      · exact messaged_self s

theorem crawlAdvance_shape (s : State) : ∃ x, crawlAdvance s = s.messaged x :=
  messaged_comp finishLead_shape (messaged_comp finishLead_shape
    (messaged_comp (advanceAt_shape _) (advanceAt_shape _ s)))

theorem crawlAdmit_shape (s : State) : ∃ x, crawlAdmit s = s.messaged x := by
  unfold crawlAdmit
  split
  · split
    · exact messaged_self s
    · split
      · exact messaged_self s
      · exact messaged_intro rfl
  · exact messaged_self s

theorem crawlFrameStart_shape (z : Fin 4) (s : State) :
    ∃ x, crawlFrameStart z s = s.messaged x := by
  unfold crawlFrameStart
  split
  · refine messaged_comp (f := takeCrawlRecord z) (fun t => messaged_intro rfl) ?_
    split
    · exact messaged_comp suspendCrawl_shape (crawlWithdrawals_shape s)
    · exact messaged_comp crawlAdmit_shape (messaged_comp crawlAdvance_shape
        (crawlWithdrawals_shape s))
  · exact messaged_self s

theorem expireAt_shape (s : State) (i : Fin 64) : ∃ x, expireAt i s = s.messaged x := by
  unfold expireAt
  split
  · exact messaged_self s
  · rename_i m _
    split
    · split
      · obtain ⟨p, hp⟩ := postMessageExpired_shape m (s.withMessage (s.message.remove i))
        rw [hp]; exact messaged_intro rfl
      · obtain ⟨p, hp⟩ := postMessageExpired_shape m (s.withMessage (s.message.remove i))
        rw [hp]; exact messaged_intro rfl
      · split
        · exact messaged_self s
        · exact messaged_intro rfl
      · split
        · exact messaged_self s
        · exact messaged_intro rfl
    · exact messaged_self s

theorem pulseMessages_shape (s : State) : ∃ x, pulseMessages s = s.messaged x :=
  messaged_comp pulseHoldTimer_shape (messaged_comp (testHold_shape 0)
    (fold_shape State.messaged messaged_self (fun _ _ _ => rfl) _ expireAt_shape _ s))

/-! ## The start of a frame as a whole -/

/-- The reactions to a frame start, block by block: what the compositor, the player, the sponsor unit, the
message unit and the renderer leave, with the report path. -/
theorem startReactions_shape (z : Fin 4) (s : State) : ∃ (player : Player) (u : MessageUnit)
    (p : ReportPath),
    (∃ q, playerFrameStart z (composerFrameStart z s) =
      (composerFrameStart z s).played ⟨player, q⟩) ∧
    (∃ q, crawlFrameStart z (latchPanels z (playerFrameStart z (composerFrameStart z s))) =
      (latchPanels z (playerFrameStart z (composerFrameStart z s))).messaged ⟨u, q⟩) ∧
    startReactions z s =
      let t := (((s.withComp (composerFrameStart z s).comp).withPlayer player).withSponsor
        (latchPanels z s).sponsor).withMessage u
      (t.withGlyph { s.glyph with latches := s.glyph.latches.set z (some t.content) }).withReportPath
        p := by
  obtain ⟨⟨a, p⟩, h₁⟩ := playerFrameStart_shape z (composerFrameStart z s)
  obtain ⟨⟨u, q⟩, h₂⟩ := crawlFrameStart_shape z
    (latchPanels z (playerFrameStart z (composerFrameStart z s)))
  refine ⟨a, u, q, ⟨p, h₁⟩, ⟨q, h₂⟩, ?_⟩
  unfold startReactions latchContent
  rw [h₂, h₁]
  rfl

theorem setZone_withReportPath (s : State) (z : Fin 4) (x : Zone) (p : ReportPath) :
    (s.withReportPath p).setZone z x = (s.setZone z x).withReportPath p := rfl

/-- An accepted pulse: the reactions to a frame start on a state whose zone has been opened, after what a close
can change when a frame was open, and after REGAINED when the zone was LOST. -/
theorem framePulse_accepted (z : Fin 4) (s : State)
    (h : (s.zone z).state = .waiting ∨ (s.zone z).state = .lost ∨
      ((s.zone z).state = .scanning ∧
        ((s.zone z).mode = .restart ∨ (s.zone z).covered = true))) :
    ∃ t, framePulse z s = startReactions z t ∧
      ((s.zone z).state = .scanning → t = openFrame z (closeByPulse z s)) ∧
      ((s.zone z).state ≠ .scanning →
        ∃ p, t = (s.setZone z (s.zone z).opened).withReportPath p) ∧
      ∃ x, t = (s.closedFrame x).setZone z (s.zone z).opened := by
  unfold framePulse
  dsimp only
  rcases h with h | h | ⟨h, hm⟩
  · rw [h]
    exact ⟨_, rfl, by simp, fun _ => ⟨s.reportPath, rfl⟩, _, by rw [closedFrame_self]; rfl⟩
  · rw [h]
    obtain ⟨p, hp⟩ : ∃ p, postRegained z (openFrame z s) = (openFrame z s).withReportPath p :=
      post_shape _ _ _ _ _ _ _
    exact ⟨_, rfl, by simp, fun _ => ⟨p, hp⟩, _, by
      rw [hp, closedFrame_path s p, setZone_withReportPath]; rfl⟩
  · rw [h]
    dsimp only
    rw [if_pos hm]
    obtain ⟨x, hx⟩ := closeByPulse_shape z s
    exact ⟨_, rfl, fun _ => rfl, by simp, x, by rw [hx]; rfl⟩

end Sys2Proof.Machine
end

