-- ==== Sys2Proof/Tests/Slice0.lean ====
section
/-! SUPPORT. Our own tests: which terms are refused as ill formed, command records written out byte by byte from
R43 and R44, worked values of the manual, and for each obligation with hypotheses a state and operands that meet
them, clause by clause. -/

namespace Sys2Proof.Tests

open Sys2Proof Sys2Proof.Machine

set_option Elab.async false

/-! ## Well-formedness, one ill-formed term for each check -/

def beatRead (a : Nat) (n : Nat) : Burst :=
  { addr := BitVec.ofNat 36 a, dir := .read, beats := n, tag := 5, data := [], enables := [] }

def beatWrite (a : Nat) (n : Nat) : Burst :=
  { addr := BitVec.ofNat 36 a, dir := .write, beats := n, tag := 5
    data := List.replicate (8 * n) 0xAB, enables := List.replicate (8 * n) true }

def hd : Header := { quiet := false, tag := 7 }

theorem test_wellFormed_bursts :
    (beatRead 64 8).wellFormed = true ∧ (beatWrite 8 1).wellFormed = true := by decide +kernel

theorem test_illFormed_address : (beatRead 4 1).wellFormed = false := by decide +kernel

theorem test_illFormed_beats : (beatRead 0 3).wellFormed = false := by decide +kernel

theorem test_illFormed_readData : ({ beatRead 0 1 with data := [1] } : Burst).wellFormed = false := by
  decide +kernel

theorem test_illFormed_writeData :
    ({ beatWrite 0 1 with data := [1] } : Burst).wellFormed = false := by decide +kernel

theorem test_illFormed_enables :
    ({ beatWrite 0 1 with enables := [true] } : Burst).wellFormed = false := by decide +kernel

theorem test_illFormed_terms :
    (Instr.requestWithhold (beatRead 4 1)).wellFormed = false ∧
    (Instr.burstAccept (beatRead 0 3)).wellFormed = false ∧
    (Instr.mpResponse [1, 2, 3]).wellFormed = false ∧
    (Instr.commandUnknown hd 0x01).wellFormed = false ∧
    (Instr.deposit hd (List.replicate 27 0)).wellFormed = false ∧
    (Instr.msgText hd 1 0 1 (List.replicate 22 0)).wellFormed = false := by decide +kernel

/-! ## Command records (R43, R44): little-endian fields from byte 4 on -/

theorem test_record_clockAdjust :
    decodeRecord ([0x24, 0x01, 0x02, 0x01, 0xFF, 0xFF, 0xFF, 0xFF] ++ List.replicate 24 0) =
      .clockAdjust { quiet := true, tag := 0x0102 } 0xFFFFFFFF := by decide +kernel

theorem test_record_select :
    decodeRecord ([3, 0, 5, 0, 4, 7, 0x0C, 0, 0] ++ List.replicate 23 0) =
      .select { quiet := false, tag := 5 } 4 0xC07 0 0 := by decide +kernel

theorem test_record_probe :
    decodeRecord ([0x13, 0, 0, 0, 0, 0x24, 0xA4, 0, 1] ++ List.replicate 23 0) =
      .probe { quiet := false, tag := 0 } 0x0100A42400 := by decide +kernel

theorem test_record_cueRange :
    decodeRecord ([0x52, 0xFE, 0x34, 0x12, 0x9A, 1, 0xF0, 0] ++ List.replicate 24 0xEE) =
      .cueRange { quiet := false, tag := 0x1234 } 410 240 := by decide +kernel

theorem test_record_panelForce :
    decodeRecord ([0x63, 1, 0, 0, 2, 0x0F, 0x58, 2] ++ List.replicate 24 0) =
      .panelForce { quiet := true, tag := 0 } 2 15 600 := by decide +kernel

theorem test_record_recordStop :
    decodeRecord ([0x41, 0, 9, 0] ++ List.replicate 28 0) =
      .recordStop { quiet := false, tag := 9 } := by decide +kernel

theorem test_record_fieldAdd :
    decodeRecord ([0x33, 0, 0, 0, 7, 0xFD, 0xFF, 0xFF, 0xFF] ++ List.replicate 23 0) =
      .fieldAdd { quiet := false, tag := 0 } 7 0xFFFFFFFD := by decide +kernel

theorem test_record_msgOpen :
    decodeRecord ([0x71, 0, 1, 0, 0x2A, 0, 2, 0x0A, 0, 3, 0, 0x3C, 0, 0xFF, 0x7F] ++
      List.replicate 17 0) =
      .msgOpen { quiet := false, tag := 1 } 42 2 10 3 60 0xFF 127 := by decide +kernel

theorem test_record_unknown :
    decodeRecord (List.replicate 32 0) = .commandUnknown { quiet := false, tag := 0 } 0 := by
  decide +kernel

/-! ## States -/

/-- Right after reset. -/
def r0 : State := State.reset

def after (c : Instr) (s : State) : State :=
  match exec c s with
  | .next t => t
  | _ => s

def at_ (p : Pointer) : State := r0.withCmd { r0.cmd with pointer := p }

def clocked (f : TimingUnit → TimingUnit) : State := r0.withTiming (f r0.timing)

def locked (s : State) : State := s.withPins { s.pins with tableLock := true }

def blank : Report :=
  { kind := .done, code := 255, lastOfTable := true, more := true, unit := .message, tag := 0xFFFF,
    subject := 65535, uptime := 9, payload := List.replicate 20 1 }

def ring (n p c : BitVec 6) (waiting writes : Nat) : State :=
  (r0.withCmd { r0.cmd with nextEntry := n, producer := p, consumer := c,
                            queue := List.replicate waiting blank }).withBus
    { r0.bus with reportWrites := List.replicate writes { entry := p, data := [] } }

/-- Operand bytes filled up to 28. -/
def ops (bytes : List Byte) : List Byte := bytes ++ List.replicate (28 - bytes.length) 0

/-! ## Records and reports -/

theorem witness_HostCommandsRoundTrip :
    (Instr.select hd 0xFF 0xFFFF 0xFF 0xFF).wellFormed = true ∧
    (encodeRecord (.select hd 0xFF 0xFFFF 0xFF 0xFF)).isSome = true ∧
    (Instr.msgText hd 0xFFFF 0 255 (List.replicate 23 0xFF)).wellFormed = true ∧
    (encodeRecord (.msgText hd 0xFFFF 0 255 (List.replicate 23 0xFF))).isSome = true ∧
    (Instr.commandUnknown hd 0x75).wellFormed = true ∧
    (encodeRecord (.commandUnknown hd 0x75)).isSome = true := by decide +kernel

/-- R43, R123: the record of FIELD_SET of field 7 to 99; the field number is 1 byte (assumption log 40). -/
theorem test_field_record :
    decodeRecord ([0x32, 0, 0x34, 0x12, 7, 99, 0] ++ List.replicate 25 0) =
      .fieldSet { quiet := false, tag := 0x1234 } 7 99 ∧
    decodeRecord ([0x33, 1, 0, 0, 1, 0xFD, 0xFF, 0xFF, 0xFF] ++ List.replicate 23 0) =
      .fieldAdd { quiet := true, tag := 0 } 1 0xFFFFFFFD := by decide +kernel

theorem witness_ReportRecordLayout :
    blank.payload.length ≤ 20 ∧ blank.subject < 65536 ∧ blank.code < 256 := by decide +kernel

theorem test_report_phase_and_lost :
    (bitsAt 1 (blank.bytes true true) 2) = 0b1111 ∧ (bitsAt 1 (blank.bytes false false) 2) = 0b0110 := by
  decide +kernel

theorem witness_ReportJoins :
    8 ≤ (ring 0 0 0 8 0).cmd.queue.length ∧
    ((ring 0 0 0 7 0).cmd.queue ≠ [] ∧ (ring 0 0 0 7 0).cmd.queue.length < 8) ∧
    ((ring 63 63 0 0 0).cmd.queue = [] ∧
      63 ≤ ((ring 63 63 0 0 0).cmd.nextEntry - (ring 63 63 0 0 0).cmd.consumer).toNat) ∧
    2 ≤ (ring 2 0 0 0 2).bus.reportWrites.length ∧
    ((ring 62 61 0 0 1).cmd.queue = [] ∧
      ((ring 62 61 0 0 1).cmd.nextEntry - (ring 62 61 0 0 1).cmd.consumer).toNat < 63 ∧
      (ring 62 61 0 0 1).bus.reportWrites.length < 2) := by decide +kernel

theorem witness_ReportsMoveInOrder :
    (ring 0 0 1 1 0).Running ∧ (ring 0 0 1 1 0).cmd.queue = [blank] ∧
    63 ≤ ((ring 0 0 1 1 0).cmd.nextEntry - (ring 0 0 1 1 0).cmd.consumer).toNat ∧
    (ring 5 5 5 1 1).cmd.queue = blank :: [] ∧
    ((ring 5 5 5 1 1).cmd.nextEntry - (ring 5 5 5 1 1).cmd.consumer).toNat < 63 ∧
    (ring 5 5 5 1 1).bus.reportWrites.length < 2 := by unfold State.Running; decide +kernel

/-- R28: the entry after 63 is 0, and its lap is the next one. -/
theorem test_report_lap :
    (after (.reportMove) (ring 63 63 63 1 0)).cmd.nextEntry = 0 ∧
    (after (.reportMove) (ring 63 63 63 1 0)).cmd.oddLap = true := by decide +kernel

/-- R28: of three reports waiting two move, to entries 63 and 0; LOST goes with the first and is cleared, PHASE with the
one on the even-numbered lap. -/
theorem test_reports_move :
    (let s := ring 63 63 20 3 0
     let t := moveReports (s.withCmd { s.cmd with lost := true })
     t.bus.reportWrites.map (fun w => (w.entry, w.data[2]?)) = [(63, some 15), (0, some 6)] ∧
     t.cmd.queue.length = 1 ∧ t.cmd.lost = false ∧ t.cmd.oddLap = true ∧ t.cmd.nextEntry = 1) ∧
    (moveReports (ring 62 62 0 2 0)).bus.reportWrites.length = 1 := by decide +kernel

/-- R30 on C = 62, P = 1: 62, 63, 0 and 1 are accepted, 2 and 61 and 64 are refused. -/
theorem witness_ReportAck :
    (ring 1 1 62 0 0).Running ∧
    ((1 : Byte).toNat ≤ 63 ∧ (1 + 64 - 62) % 64 ≤ (1 + 64 - 62) % 64) ∧
    ((62 : Byte).toNat ≤ 63 ∧ (62 + 64 - 62) % 64 ≤ (1 + 64 - 62) % 64) ∧
    (1 + 64 - 62) % 64 < (2 + 64 - 62) % 64 ∧ 63 < (64 : Byte).toNat := by
  unfold State.Running; decide +kernel

/-- R29: ATTN falls when C reaches P, and rises when P leaves C. -/
theorem test_attn :
    ([62, 0, 1, 2].map fun i : Byte => (after (.reportAck hd i) (ring 1 1 62 0 0)).attn) = [true, true, false, true] ∧
    (ring 1 0 0 0 1).attn = false ∧ (after .reportWriteGrant (ring 1 0 0 0 1)).attn = true := by decide +kernel

theorem test_reportAck :
    ([62, 63, 0, 1, 2, 61, 64].map fun i : Byte =>
      (after (.reportAck hd i) (ring 1 1 62 0 0)).cmd.consumer) = [62, 63, 0, 1, 62, 62, 62] := by
  decide +kernel

/-! ## The command unit -/

theorem witness_NopUnknownAndLock : r0.Running := rfl

theorem witness_SelectCommand :
    r0.Running ∧ (2 : Byte).toNat = (Pointer.activeWindow 3 15).table ∧
    (15 : BitVec 16).toNat = (Pointer.activeWindow 3 15).index ∧
    (4 : Byte).toNat = (Pointer.glyph 3071).table ∧ (3071 : BitVec 16).toNat = (Pointer.glyph 3071).index ∧
    15 < (16 : Byte).toNat ∧ 1 < (2 : Byte).toNat ∧ tableSize 4 ≤ (3072 : BitVec 16).toNat ∧
    3 < (4 : Byte).toNat := by unfold State.Running; decide +kernel

theorem test_select :
    (after (.select hd 2 15 1 3) r0).cmd.pointer = .activeWindow 3 15 ∧
    (after (.select hd 4 3071 9 9) r0).cmd.pointer = .glyph 3071 ∧
    (after (.select hd 4 3072 0 0) r0).cmd.pointer = .zone 0 ∧
    (after (.select hd 2 0 1 4) r0).cmd.pointer = .zone 0 := by decide +kernel

theorem test_pointer_steps :
    (Pointer.glyph 23).step = .glyph 23 ∧ (Pointer.glyph 24).step = .glyph 25 ∧
    (Pointer.colour 15).step = .colour 0 ∧ (Pointer.sponsor 127).step = .sponsor 127 ∧
    (Pointer.sponsor 127).staysAtEnd = true ∧ (Pointer.colour 15).staysAtEnd = false ∧
    (Pointer.activeWindow 2 15).step = .activeWindow 2 0 := by decide +kernel

theorem witness_ExamineAnswers :
    (at_ (.panel 7)).Running ∧ entrySize (at_ (.panel 7)).cmd.pointer.table = 24 ∧
    (ring 0 0 0 6 0).cmd.queue.length ≤ 6 ∧ 6 < (ring 0 0 0 7 0).cmd.queue.length ∧
    20 < entrySize (ring 0 0 0 7 0).cmd.pointer.table ∧
    entrySize (at_ (.alertText 0)).cmd.pointer.table ≤ 20 := by unfold State.Running; decide +kernel

/-! ## Deposits -/

theorem witness_ReadOnlyTablesRefuse :
    (at_ .clock).Running ∧ (ops []).length = 28 ∧ ([] : List Byte).length ≠ 28 ∧
    (at_ (.slot 1023)).cmd.pointer = .slot 1023 ∧ (at_ (.activeWindow 0 0)).cmd.pointer = .activeWindow 0 0 ∧
    (readWindow (ops [])).isSome = true := by unfold State.Running; decide +kernel

theorem witness_RendererDeposits :
    (at_ (.glyph 3071)).Running ∧ (ops [0xFF, 0xFF]).length = 28 ∧
    (∀ b ∈ (ops (List.replicate 20 127)).take 20, b.toNat < 128) ∧
    (∃ b ∈ (ops (List.replicate 20 128)).take 20, 128 ≤ b.toNat) := by
  unfold State.Running; decide +kernel

theorem test_deposit_alertText :
    ((after (.deposit hd (ops (List.replicate 20 127))) (at_ (.alertText 7))).glyph.alertText.get 159 = 127) ∧
    (after (.deposit hd (ops [0, 128])) (at_ (.alertText 7))).glyph.alertText = r0.glyph.alertText := by
  decide +kernel

theorem witness_LayoutAndMarkDeposits :
    (at_ (.layout 47)).Running ∧ (ops [2]).length = 28 ∧ 1 < fieldAt 1 (ops [2]) 0 ∧
    9 < fieldAt 1 (ops [0, 10]) 1 ∧ 1 < fieldAt 1 (ops [0, 0, 0, 0, 0, 2]) 5 ∧
    (let o := ops [1, 9, 0, 0, 4, 1, 16]
     yesNo? (fieldAt 1 o 0) = some true ∧ scoreSource? (fieldAt 1 o 1) = some (.field 7) ∧
     yesNo? (fieldAt 1 o 5) = some true ∧ 16 ≤ fieldAt 1 o 6 ∧ fieldAt 1 o 6 ≤ 254) ∧
    (let o := ops [1, 9, 0, 0, 0, 1, 255]
     scoreSource? (fieldAt 1 o 1) = some (.field 7) ∧ fieldAt 1 o 6 = 255) ∧
    2 < fieldAt 1 (ops [0, 0, 0, 0, 0, 3]) 5 ∧
    (let o := ops [1, 0, 0, 0, 0, 2, 8, 127]
     yesNo? (fieldAt 1 o 0) = some true ∧ markAction? (fieldAt 1 o 5) = some .moment ∧
     7 < fieldAt 1 o 6) ∧
    (let o := ops [1, 0, 0, 0, 0, 2, 7, 127]
     markAction? (fieldAt 1 o 5) = some .moment ∧ fieldAt 1 o 6 ≤ 7 ∧ fieldAt 1 o 7 ≤ 127) ∧
    (let o := ops [1, 0, 0, 0, 0, 1, 255, 255]
     markAction? (fieldAt 1 o 5) = some .reportHorn ∧ 7 < fieldAt 1 o 6) := by
  unfold State.Running; decide +kernel

/-- A ZONE deposit: base, pitch, lines, width, IGNORE_EARLY or RESTART, loss timeout 100, EVERY_FRAME. -/
def zoneOperands (enabled : Byte) (base pitch lines width : Nat) (mode : Byte) : List Byte :=
  ops ([enabled] ++ leBytes 5 base ++ leBytes 4 pitch ++ leBytes 2 lines ++ leBytes 2 width ++ [0, mode] ++
    leBytes 4 100 ++ [2])

theorem witness_ZoneDepositRules :
    (at_ (.zone 3)).Running ∧ (zoneOperands 1 0x1000 256 4 4 1).length = 28 ∧
    1 < fieldAt 1 (zoneOperands 2 0 0 0 0 0) 0 ∧
    (let o := zoneOperands 1 0xFFFFFFC00 256 4 4 1
     yesNo? (fieldAt 1 o 0) = some true ∧ edge? (fieldAt 1 o 14) = some .rising ∧
     pulseMode? (fieldAt 1 o 15) = some .ignoreEarly ∧ reportLevel? (fieldAt 1 o 20) = some .everyFrame ∧
     fieldAt 5 o 1 < 0x1000000000 ∧ ¬ 0x1000000000 < fieldAt 5 o 1 / 64 * 64 + 4 * 256 ∧
     0x1000000000 < fieldAt 5 o 1 / 64 * 64 + 5 * 256) ∧
    0x1000000000 ≤ fieldAt 5 (zoneOperands 1 0x1000000000 0 0 0 0) 1 ∧
    yesNo? (fieldAt 1 (zoneOperands 0 0 0 0 0 0) 0) = some false := by
  unfold State.Running; decide +kernel

theorem test_deposit_zone_bounds :
    ((after (.deposit hd (zoneOperands 1 0xFFFFFFC00 256 4 4 1)) (at_ (.zone 3))).zone 3).state = .waiting ∧
    ((after (.deposit hd (zoneOperands 1 0xFFFFFFC00 256 5 4 1)) (at_ (.zone 3))).zone 3).state = .idle ∧
    ((after (.deposit hd (zoneOperands 1 0 0 4 9 1)) (at_ (.zone 3))).zone 3).width = 1 := by
  decide +kernel

/-- Zone 0 at 1000h, 4 lines of 256 bytes, 3 granules wide, in state `st`. -/
def inZone0 (st : ZoneState) (mode : PulseMode) (covered : List Nat) : State :=
  r0.setZone 0
    { state := st, base := 0x1000, pitch := 256, lines := 4, width := 3, sense := .rising, mode := mode
      lossTimeout := 100, level := .everyFrame, frameNumber := 5, coverage := covered
      lossTimer := if st = .scanning then some 7 else none }

theorem witness_ZoneDepositRules_moves :
    let s := (inZone0 .scanning .restart []).withCmd (at_ (.zone 0)).cmd
    s.cmd.pointer = .zone 0 ∧ (s.zone 0).state ≠ .idle ∧ (s.zone 0).lines ≠ 5 := by decide +kernel

def windowOperands (kind zone : Byte) (top height left width : Nat) (binding foreground : Byte) : List Byte :=
  ops ([1, kind, zone] ++ leBytes 2 top ++ leBytes 2 height ++ leBytes 2 left ++ leBytes 2 width ++
    [binding, 0, 1, 0, foreground])

theorem witness_WindowDepositRules :
    (at_ (.stagedWindow 15)).Running ∧ (windowOperands 4 0 0 0 0 0 1 0).length = 28 ∧
    5 < fieldAt 1 (windowOperands 6 0 0 0 0 0 0 0) 1 ∧
    (fieldAt 1 (windowOperands 4 0 0 0 0 0 2 0) 1 = 4 ∧ 1 < fieldAt 1 (windowOperands 4 0 0 0 0 0 2 0) 11) ∧
    (let o := windowOperands 1 3 4095 4096 1023 1024 7 15
     windowKind? (fieldAt 1 o 1) = some .sponsor ∧ render? (fieldAt 1 o 12) = some .keyed ∧
     fieldAt 1 o 2 = 3 ∧ fieldAt 1 o 15 = 15 ∧ fieldAt 1 o 11 ≤ 7) ∧
    7 < fieldAt 1 (windowOperands 1 0 0 0 0 0 8 0) 11 ∧ 3 < fieldAt 1 (windowOperands 3 0 0 0 0 0 4 0) 11 ∧
    3 < fieldAt 1 (windowOperands 0 4 0 0 0 0 0 0) 2 ∧ 15 < fieldAt 1 (windowOperands 0 0 0 0 0 0 0 16) 15 := by
  unfold State.Running; decide +kernel

/-- R64: cut to the zone inside it; kept as deposited with the corner outside. -/
theorem test_deposit_window_cut :
    let s := (inZone0 .waiting .restart []).withCmd (at_ (.stagedWindow 2)).cmd
    ((after (.deposit hd (windowOperands 0 0 3 9 2 9 0 0)) s).comp.staged.get 2).height = 1 ∧
    ((after (.deposit hd (windowOperands 0 0 3 9 2 9 0 0)) s).comp.staged.get 2).width = 1 ∧
    ((after (.deposit hd (windowOperands 0 0 4 9 2 9 0 0)) s).comp.staged.get 2).height = 9 := by
  decide +kernel

def sponsorOperands (enabled cls : Byte) (base target : Nat) : List Byte :=
  ops ([enabled] ++ leBytes 5 base ++ leBytes 4 256 ++ leBytes 2 4 ++ leBytes 2 4 ++ leBytes 2 30 ++
    leBytes 4 target ++ [cls])

/-- EXPOSED of entry 127 stands at 12. -/
def exposed12 : State :=
  (at_ (.sponsor 127)).withCounters
    { r0.counters with exposed := r0.counters.exposed.set 127 { value := 12, half := false } }

theorem witness_SponsorDepositRules :
    exposed12.Running ∧ exposed12.cmd.pointer = .sponsor 127 ∧ (sponsorOperands 1 2 0 12).length = 28 ∧
    1 < fieldAt 1 (sponsorOperands 2 0 0 0) 0 ∧ 2 < fieldAt 1 (sponsorOperands 1 3 0 0) 20 ∧
    entryClass? (fieldAt 1 (sponsorOperands 1 2 0 12) 20) = some .duringBreak ∧
    (locked exposed12).pins.tableLock = true ∧ exposed12.pins.tableLock = false ∧
    0x1000000000 ≤ fieldAt 5 (sponsorOperands 1 0 0x1000000000 0) 1 ∧
    fieldAt 5 (sponsorOperands 1 0 0xFFFFFFFFF 0) 1 < 0x1000000000 := by
  unfold State.Running; decide +kernel

/-- R164: fulfilled exactly when the new target is not above the exposures so far. -/
theorem test_deposit_sponsor_target :
    ((after (.deposit hd (sponsorOperands 1 2 0 12)) exposed12).entry 127).fulfilled = true ∧
    ((after (.deposit hd (sponsorOperands 1 2 0 13)) exposed12).entry 127).fulfilled = false ∧
    ((after (.deposit hd (sponsorOperands 1 2 0 12)) (locked exposed12)).entry 127).enabled = false := by
  decide +kernel

def imageOperands (base : Nat) (rest : List Byte) : List Byte :=
  ops (leBytes 5 base ++ leBytes 4 256 ++ leBytes 2 4 ++ leBytes 2 4 ++ rest)

theorem witness_PanelDeposits :
    (at_ (.panel 7)).Running ∧ (imageOperands 0 [1, 33]).length = 28 ∧
    1 < fieldAt 1 (imageOperands 0 [2, 0]) 13 ∧ yesNo? (fieldAt 1 (imageOperands 0 [1, 33]) 13) = some true ∧
    0x1000000000 ≤ fieldAt 5 (imageOperands 0x1000000000 []) 0 ∧
    fieldAt 5 (imageOperands 0xFFFFFFFFF []) 0 < 0x1000000000 ∧
    127 < fieldAt 1 (ops [128]) 0 ∧ fieldAt 1 (ops [127]) 0 = (127 : Fin 128).val := by
  unfold State.Running; decide +kernel

/-- A RECORD deposit with the ring at 2000h, `slots` slots and stride `stride`. -/
def recordOperands (sense : Byte) (slots stride : Nat) : List Byte :=
  imageOperands 0x1000 ([sense] ++ leBytes 5 0x2000 ++ leBytes 2 slots ++ leBytes 4 stride ++ [1])

/-- A ring of 4 slots at 2000h for a source of 4 lines at 1000h; slots 0 and 1 are COMPLETE and chained. -/
def recorded : Capture :=
  { source :=
      { base := 0x1000, pitch := 256, lines := 4, width := 4, sense := .rising, ringBase := 0x2000
        slotCount := 4, stride := 1024, mirrorMode := .drop }
    recorder := .off
    slots := ((Tab.fill 1024 Slot.initial).set 0
      { Slot.initial with state := .complete, verdict := .complete, next := some 1, clock := 5000 }).set 1
      { Slot.initial with state := .complete, verdict := .complete, previous := some 0, clock := 4000 }
    clips := Tab.fill 32 Clip.initial, oldest := some 0, newest := some 1, captureNumber := 2
    lastOpened := some 1 }

/-- The same while RECORDING into slot 2. -/
def recording : Capture :=
  { recorded with
    recorder := .recording, newest := some 2, lastOpened := some 2
    slots := (recorded.slots.modify 1 fun t => { t with next := some 2 }).set 2
      { Slot.initial with state := .writing, previous := some 1, lines := [0] } }

def capturing (c : Capture) : State := r0.withCapture c

theorem witness_RecordDepositRules :
    (at_ .record).Running ∧ (recordOperands 0 1 0).length = 28 ∧ 1 < fieldAt 1 (recordOperands 2 2 0) 13 ∧
    edge? (fieldAt 1 (recordOperands 1 2 0) 13) = some .falling ∧
    mirrorMode? (fieldAt 1 (recordOperands 1 2 0) 25) = some .drop ∧
    fieldAt 5 (recordOperands 0 1 0) 14 < 0x1000000000 ∧
    (capturing recording).capture.recorder ≠ .off ∧
    (let slots := recorded.slots.modify 1 fun t => { t with outstanding := 1 }
     (slots.get 1).outstanding ≠ 0) := by
  unfold State.Running; decide +kernel

theorem test_deposit_record :
    (after (.deposit hd (recordOperands 0 1 0)) (at_ .record)).capture.source.slotCount = 2 ∧
    (after (.deposit hd (recordOperands 0 1 0)) (at_ .record)).capture.source.stride = 64 ∧
    (after (.deposit hd (recordOperands 1 4 1024)) ((capturing recorded).withCmd (at_ .record).cmd)).capture.newest =
      some 1 ∧
    (after (.deposit hd (recordOperands 1 5 1024)) ((capturing recorded).withCmd (at_ .record).cmd)).capture.newest =
      none := by
  decide +kernel

/-! ## Counters, resets -/

theorem witness_CounterCommands :
    r0.Running ∧ 4 < (5 : Byte).toNat ∧ (0 : Byte).toNat = 0 ∧
    [16, 128, 8, 4][(3 : Byte).toNat - 1]? = some 8 ∧
    ((locked (r0.withCmd { r0.cmd with clearOnSnapshot := true })).cmd.clearOnSnapshot = true ∧
      (locked (r0.withCmd { r0.cmd with clearOnSnapshot := true })).pins.tableLock = true) ∧
    8 < (7 : BitVec 16).toNat + (2 : BitVec 16).toNat ∧ 16 < (17 : BitVec 16).toNat ∧
    ((7 : BitVec 16).toNat + (1 : BitVec 16).toNat ≤ 8 ∧ [CounterId.occluded 7].length = (1 : BitVec 16).toNat ∧
      ∀ k (hk : k < [CounterId.occluded 7].length),
        [CounterId.occluded 7][k].group = (3 : Byte).toNat ∧
        [CounterId.occluded 7][k].index = (7 : BitVec 16).toNat + k) ∧
    1 < (2 : Byte).toNat := by
  refine ⟨rfl, by decide +kernel, by decide +kernel, by decide +kernel, by decide +kernel, by decide +kernel,
    by decide +kernel, ⟨by decide +kernel, by decide +kernel, ?_⟩, by decide +kernel⟩
  intro k hk
  obtain rfl : k = 0 := by simpa using hk
  exact ⟨rfl, rfl⟩

theorem test_counter_bump :
    (Counter.bump true { value := 0xFFFFFFFF, half := true }).value = 0xFFFFFFFF ∧
    (Counter.bump false { value := 0xFFFFFFFF, half := true }).value = 0 ∧
    (Counter.bump true { value := 0x7FFFFFFF, half := false }).half = true ∧
    (Counter.bump true { value := 0x7FFFFFFE, half := false }).half = false := by decide +kernel

theorem witness_SoftResetEffects :
    r0.Running ∧ 1 ≤ r0.message.config.high ∧
    ({ r0.comp with alertOn := true } : Compositor).alertOn = true ∧ r0.pins.alertIn = false ∧
    (capturing recorded).capture.recorder ≠ .recording ∧ (capturing recording).capture.recorder = .recording ∧
    (let c := { recording with clips := recording.clips.set 3 { Clip.initial with state := .opened } }
     (capturing c).capture.joinableClip = some 3) := by
  unfold State.Running; decide +kernel

theorem witness_ResetLine :
    (after .resetAssert r0).pins.resetAsserted = true ∧ (Instr.nop hd).wellFormed = true ∧
    IsHostCommand (.nop hd) ∧ (after .resetAssert r0).alertInForce = false ∧
    (after (.alertInChange true) (after .resetAssert r0)).alertInForce = true ∧ r0.Running := by
  unfold State.Running IsHostCommand; decide +kernel

/-- Rows of every kind are well formed and act on nothing but the levels of lines while RESET_N is asserted. -/
theorem test_asserted :
    let s := after .resetAssert r0
    let rows : List Instr := [.burstAccept (beatRead 0 1), .requestWithhold (beatRead 0 1), .forwardGrant, .mpResponse [1, 2],
      .responseReturn, .reportMove, .msPulse, .holdTimerExpire, .softReset hd]
    s.pins.resetAsserted = true ∧ s.pending = [] ∧ (∀ c ∈ rows, c.wellFormed = true ∧ exec c s = .next s) ∧
    step s = .next s ∧
    exec (.zonePulse 2 .rising) s = .next (s.withPins { s.pins with zfp := s.pins.zfp.set 2 true }) ∧
    exec (.lineStop .gcStop .rising) s = .next (s.withPins { s.pins with gcStop := true }) := by
  intro s rows
  refine ⟨rfl, rfl, ?_, rfl, rfl, rfl⟩
  intro c hc
  simp only [rows, List.mem_cons, List.not_mem_nil, or_false] at hc
  rcases hc with rfl | rfl | rfl | rfl | rfl | rfl | rfl | rfl | rfl <;> exact ⟨by decide +kernel, rfl⟩

/-- R21: CA_SEL 3 puts the control area at 3_FFFF_F000h. -/
theorem test_control_area :
    (after (.resetRelease 3) (after .resetAssert r0)).cmd.caBase = 0x3FFFFF000 := by decide +kernel

/-! ## The bus path -/

/-- Zone 0 SCANNING, the source of a RECORDING recorder at 8000h, `f` bursts, `m` copies and `n` responses queued. -/
def busy (mode : MirrorMode) (f m n : Nat) : State :=
  ((inZone0 .scanning .restart []).withCapture
    { recording with source := { recording.source with base := 0x8000, mirrorMode := mode } }).withBus
    { r0.bus with
      forward := List.replicate f (beatRead 0 1)
      mirrors := List.replicate m { burst := beatWrite 0x2000 1, slot := 2 }
      responses := List.replicate n { tag := 0, beats := 1, kind := .memory, data := [], complete := false } }

theorem presented_when_none {b : Burst} {s : State} (hb : b.wellFormed = true) (hs : s.bus.withheld = none) :
    Presented b s := ⟨hb, fun w hw => by simp [hs] at hw⟩

theorem room_of {b : Burst} {s : State} (hf : s.bus.forward.length < 16) (hr : s.bus.responses.length < 32) :
    Room b s := ⟨hf, fun _ => hr⟩

/-- The last command slot of the control area of CA_SEL 0, with both queues at their last free place. -/
theorem witness_WholeCommandWriteIsTaken :
    (busy .drop 15 0 31).Running ∧ Presented (beatWrite 0xFFFFF7E0 4) (busy .drop 15 0 31) ∧
    WholeCommand (beatWrite 0xFFFFF7E0 4) (busy .drop 15 0 31) ∧
    Room (beatWrite 0xFFFFF7E0 4) (busy .drop 15 0 31) := by
  refine ⟨rfl, presented_when_none (by decide +kernel) rfl, ?_, room_of (by decide +kernel) (by decide +kernel)⟩
  unfold WholeCommand InArea; decide +kernel

theorem witness_OtherBurstsPassThrough :
    Presented (beatRead 56 2) r0 ∧ Room (beatRead 56 2) r0 ∧ Stray (beatRead 56 2) ∧ ¬ Stray (beatRead 56 1) ∧
    InArea (beatRead 0xFFFFFFF8 1) r0 ∧ ¬ InArea (beatRead 0x100000000 1) r0 ∧
    (InArea (beatWrite 0xFFFFF800 4) r0 ∧ r0.cmd.caBase + 2048 ≤ (beatWrite 0xFFFFF800 4).addr.toNat) ∧
    (InArea (beatWrite 0xFFFFF000 1) r0 ∧ ¬ WholeCommand (beatWrite 0xFFFFF000 1) r0 ∧
      (beatWrite 0xFFFFF000 1).addr.toNat < r0.cmd.caBase + 2048) ∧
    ¬ InSource (beatWrite 0x8400 1) (busy .drop 0 0 0) ∧ (∀ z, ¬ InZone z (beatRead 0x1400 1) (busy .drop 0 0 0)) := by
  refine ⟨presented_when_none (by decide +kernel) rfl, room_of (by decide +kernel) (by decide +kernel), ?_⟩
  unfold Stray InArea WholeCommand InSource InZone InArea; decide +kernel

theorem test_stray_and_partial :
    ((after (.burstAccept (beatRead 56 2)) r0).counters.path.get 0).value = 1 ∧
    ((after (.burstAccept (beatWrite 0xFFFFF000 1)) r0).counters.path.get 1).value = 1 ∧
    (after (.burstAccept (beatWrite 0xFFFFF800 4)) r0).counters = r0.counters := by decide +kernel

theorem witness_LiveWrites :
    Presented (beatWrite 0x83F8 1) (busy .drop 15 31 0) ∧ Room (beatWrite 0x83F8 1) (busy .drop 15 31 0) ∧
    ¬ Stray (beatWrite 0x83F8 1) ∧ ¬ InArea (beatWrite 0x83F8 1) (busy .drop 15 31 0) ∧
    InSource (beatWrite 0x83F8 1) (busy .drop 15 31 0) ∧
    (busy .drop 15 31 0).capture.recorder = .recording ∧ (busy .drop 15 31 0).capture.newest = some 2 ∧
    (busy .drop 15 31 0).bus.mirrors.length < 32 ∧ 32 ≤ (busy .drop 0 32 0).bus.mirrors.length ∧
    (busy .drop 0 32 0).capture.source.mirrorMode = .drop ∧
    (capturing recorded).capture.recorder ≠ .recording := by
  refine ⟨presented_when_none (by decide +kernel) rfl, room_of (by decide +kernel) (by decide +kernel), ?_⟩
  unfold Stray InArea InSource; decide +kernel

/-- R14, R134: the copy of the source's last beat goes to the last beat of slot 2, 2000h + 2 × 400h + 3F8h. -/
theorem test_live_write :
    (after (.burstAccept (beatWrite 0x83F8 1)) (busy .drop 15 0 0)).bus.mirrors.map (·.burst.addr) = [0x2BF8] ∧
    ((after (.burstAccept (beatWrite 0x83F8 1)) (busy .drop 15 0 0)).slot 2).lines = [0, 3] ∧
    ((after (.burstAccept (beatWrite 0x83F8 1)) (busy .drop 0 32 0)).slot 2).dropped = true := by decide +kernel

/-- Zone 0 with an enabled opaque ALERT window over lines 1 and 2, latched, and a REPLAY window over line 3. -/
def windowed : State :=
  let s := inZone0 .scanning .restart []
  let w : Window := { Window.initial with
    enabled := true, kind := .alert, top := 1, height := 2, width := 3, render := .opaqueCells, scale := 1
    background := 4 }
  let v : Window := { Window.initial with enabled := true, kind := .replay, top := 3, height := 1, width := 1 }
  let narrow : Window := { w with top := 0, height := 1, width := 1, left := 1, render := .keyed }
  let set := (((Tab.fill 16 none).set 0 (some w)).set 1 (some v)).set 2 (some narrow)
  let t := s.withComp { s.comp with
    alertLatch := s.comp.alertLatch.set 0 true
    taken := s.comp.taken.set 0 set, active := s.comp.active.set 0 set }
  (t.withGlyph { t.glyph with latches := t.glyph.latches.set 0 (some t.content) }).withPlayer
    { t.player with latched := t.player.latched.set 0 (some 1) }

theorem witness_ZoneReads :
    Presented (beatRead 0x1100 8) windowed ∧ (beatRead 0x1100 8).dir = .read ∧ ¬ Stray (beatRead 0x1100 8) ∧
    ¬ InArea (beatRead 0x1100 8) windowed ∧ InZone 0 (beatRead 0x1100 8) windowed ∧
    (∀ y, y < 0 → ¬ InZone y (beatRead 0x1100 8) windowed) ∧ windowed.bus.responses.length < 32 ∧
    windowed.bus.forward.length < 16 ∧ windowed.compose 0 0x1100 8 = .synthesize (List.replicate 16 0) ∧
    windowed.compose 0 0x13C0 8 = .passThrough := by
  refine ⟨presented_when_none (by decide +kernel) rfl, rfl, ?_⟩
  unfold Stray InArea InZone; decide +kernel

/-- The same with a keyed CLOCK window over the REPLAY window; the left half of the space glyph's row 0 is set. -/
def keyed : State :=
  let s := windowed.withCapture recorded
  let over_ (w : Window) : Window :=
    { w with kind := .clock, top := 3, height := 1, width := 1, left := 0, foreground := 1 }
  (s.withComp { s.comp with
      active := s.comp.active.modify 0 fun t => t.modify 2 (Option.map over_) }).withGlyph
    { s.glyph with store := s.glyph.store.set ⟨32 * 24, by decide⟩ 0xFF00
                   colours := s.glyph.colours.set 1 9 }

/-- R75, R76: the REPLAY window at line 3 shows line 0 of slot 1, at 2000h + 400h. -/
theorem witness_ZoneReads_remap :
    (windowed.withCapture recorded).compose 0 0x1300 8 = .remap 0x2400 none ∧
    keyed.compose 0 0x1300 8 =
      .remap 0x2400 (some (List.replicate 8 (some 9) ++ List.replicate 8 none)) := by decide +kernel

theorem witness_ComposedPixels :
    (windowed.zone 0).width ≤ ((windowed.zone 0).place 0x10C0).granule ∧
    ((windowed.zone 0).place 0x1080).granule < (windowed.zone 0).width := by decide +kernel

theorem witness_RequestsWithheld :
    r0.Running ∧ (beatRead 4 1).wellFormed = false ∧
    (beatRead 0 1).wellFormed = true ∧
    ¬ Presented (beatRead 0 1) (r0.withBus { r0.bus with withheld := some { burst := beatRead 8 1, counted := false } }) ∧
    Presented (beatWrite 0x8000 1) (busy .stall 0 32 0) ∧ MirrorStalled (beatWrite 0x8000 1) (busy .stall 0 32 0) ∧
    ¬ MirrorStalled (beatWrite 0x8000 1) (busy .stall 16 31 0) ∧ QueueFull (beatWrite 0x8000 1) (busy .stall 16 31 0) ∧
    QueueFull (beatRead 0x1000 1) (busy .stall 0 0 32) ∧ ¬ QueueFull (beatRead 0x1000 1) (busy .stall 15 0 31) := by
  refine ⟨rfl, by decide +kernel, by decide +kernel, ?_, presented_when_none (by decide +kernel) rfl, ?_⟩
  · exact fun h => absurd (h.2 _ rfl) (by decide)
  · unfold MirrorStalled QueueFull Stray InArea InSource; decide +kernel

/-- R15: STALLS counts a stalled request once. -/
theorem test_stalls_once :
    let t := after (.burstAccept (beatWrite 0x8000 1)) (busy .stall 0 32 0)
    (t.counters.path.get 3).value = 1 ∧
    ((after (.requestWithhold (beatWrite 0x8000 1)) t).counters.path.get 3).value = 1 ∧
    t.bus.withheld = some { burst := beatWrite 0x8000 1, counted := true } := by decide +kernel

def waiting (f m w c : Nat) : State :=
  (busy .drop f m 0).withBus { (busy .drop f m 0).bus with
    reportWrites := List.replicate w { entry := 0, data := [] }, waitCount := c }

theorem witness_PortGrants :
    (waiting 1 23 1 63).Running ∧
    (¬ ((waiting 1 23 1 63).bus.reportWrites ≠ [] ∧ 64 ≤ (waiting 1 23 1 63).bus.waitCount) ∧
      (waiting 1 23 1 63).bus.mirrors.length < 24 ∧ (waiting 1 23 1 63).bus.forward = beatRead 0 1 :: []) ∧
    ((waiting 1 24 1 64).bus.reportWrites ≠ [] ∧ 64 ≤ (waiting 1 24 1 64).bus.waitCount) ∧
    (24 ≤ (waiting 1 24 0 0).bus.mirrors.length ∧ (waiting 1 24 0 0).bus.mirrors ≠ []) ∧
    ((waiting 0 1 1 63).bus.forward = [] ∧ (waiting 0 1 1 63).bus.mirrors ≠ []) ∧
    ((waiting 0 0 1 0).bus.mirrors = [] ∧ (waiting 0 0 1 0).bus.forward = [] ∧
      (waiting 0 0 1 0).bus.reportWrites = { entry := 0, data := [] } :: []) := by
  unfold State.Running; decide +kernel

theorem test_grants :
    (after .forwardGrant (waiting 1 23 1 63)).bus.waitCount = 64 ∧
    (after .forwardGrant (waiting 1 23 1 64)).bus.forward.length = 1 ∧
    (after .reportWriteGrant (waiting 1 23 1 64)).cmd.producer = 1 ∧
    (after .mirrorGrant (waiting 1 24 0 0)).bus.mirrors.length = 23 ∧
    ((after .reportWriteGrant (waiting 0 0 1 0)).bus.mpOut.map (·.addr)) = some 0xFFFFF800 := by decide +kernel

def answering (kind : ResponseKind) : State :=
  r0.withBus { r0.bus with responses :=
    [{ tag := 1, beats := 1, kind := .synth, data := [1, 1], complete := true },
     { tag := 2, beats := 1, kind := kind, data := [], complete := false }] }

theorem witness_Responses :
    (answering .memory).Running ∧ responseWellFormed [1, 2, 3] = false ∧ responseWellFormed [8, 9] = true ∧
    (∀ e ∈ r0.bus.responses, e.complete = true) ∧
    (answering (.merge [none, some 3])).bus.responses =
      [{ tag := 1, beats := 1, kind := .synth, data := [1, 1], complete := true }] ++
        { tag := 2, beats := 1, kind := .merge [none, some 3], data := [], complete := false } :: [] ∧
    (∀ e ∈ r0.bus.responses.head?, e.complete = false) := by
  unfold State.Running; decide +kernel

/-- R8, R12: the plan's colours take their places in the memory data; R13: the oldest entry leaves first. -/
theorem test_merge :
    ((after (.mpResponse [8, 9]) (answering (.merge [none, some 3]))).bus.responses.map (·.data)) =
      [[1, 1], [8, 3]] ∧
    (after .responseReturn (answering .memory)).bus.rpOut = some { tag := 1, data := [1, 1] } := by decide +kernel

/-! ## Zones and windows -/

theorem witness_ZonePulses :
    r0.Running ∧ (inZone0 .idle .restart []).Running ∧ Edge.falling ≠ ((inZone0 .waiting .restart []).zone 0).sense ∧
    (let s := inZone0 .scanning .ignoreEarly [0, 1, 3]
     Edge.rising = (s.zone 0).sense ∧ (s.zone 0).state = .scanning ∧ (s.zone 0).mode = .ignoreEarly ∧
     ¬ Covered (s.zone 0)) ∧
    StartsFrame 0 .rising (inZone0 .waiting .restart []) ∧ StartsFrame 0 .rising (inZone0 .lost .restart []) ∧
    StartsFrame 0 .rising (inZone0 .scanning .restart []) ∧
    StartsFrame 0 .rising (inZone0 .scanning .ignoreEarly [3, 1, 2, 0]) := by
  unfold StartsFrame State.Running Covered; decide +kernel

theorem test_zonePulse_early :
    ((after (.zonePulse 0 .rising) (inZone0 .scanning .ignoreEarly [0, 1, 3])).zone 0).frameNumber = 5 ∧
    ((after (.zonePulse 0 .rising) (inZone0 .scanning .ignoreEarly [3, 1, 2, 0])).zone 0).frameNumber = 6 ∧
    (after (.zonePulse 0 .rising) (inZone0 .scanning .ignoreEarly [0, 1, 3])).counters.zone.get 2 =
      { value := 1, half := false } := by decide +kernel

/-- Panel 2 shows entry 5 in zone 0, whose SPONSOR window over lines 0 and 1 was served in `lines`. -/
def showing (lines : List Nat) : State :=
  let s := inZone0 .scanning .restart [0, 1, 2]
  let w : Window := { Window.initial with
    enabled := true, kind := .sponsor, binding := 2, top := 0, height := 2, width := 3 }
  let t := s.withComp { s.comp with
    active := s.comp.active.set 0 ((Tab.fill 16 none).set 0 (some w))
    frameRecord := s.comp.frameRecord.set 0 (some [{ window := 0, clear := true, lines := lines }]) }
  t.withSponsor { t.sponsor with
    latches := t.sponsor.latches.modify 0 fun l => l.modify 2 fun p => { p with entry := some 5 } }

theorem witness_FrameCloseAccounting :
    StartsFrame 0 .rising (showing [1, 0]) ∧ ((showing [1, 0]).zone 0).state = .scanning ∧
    (((showing [1, 0]).closeRecord 0).alert = false ∧
      ∃ m ∈ ((showing [1, 0]).closeRecord 0).ofPanel 2, m.clear = true ∧ m.served = true) ∧
    ((showing [1]).closeRecord 0).ofPanel 2 ≠ [] ∧
    (∀ m ∈ ((showing [1]).closeRecord 0).ofPanel 2, m.served = false) ∧
    ((showing [1]).closeRecord 0).ofPanel 3 = [] ∧ ¬ Covered ((showing [1]).zone 0) ∧
    (((showing [1, 0]).sponsor.latches.get 0).get 2).entry = some 5 ∧ [(2 : Fin 8)].Nodup := by
  unfold StartsFrame State.Running Covered; decide +kernel

theorem test_frameClose_counts :
    (((after (.zonePulse 0 .rising) (showing [1, 0])).counters.exposed.get 5).value = 1 ∧
      ((after (.zonePulse 0 .rising) (showing [1, 0])).counters.occluded.get 2).value = 0) ∧
    (((after (.zonePulse 0 .rising) (showing [1])).counters.exposed.get 5).value = 0 ∧
      ((after (.zonePulse 0 .rising) (showing [1])).counters.occluded.get 2).value = 1) := by decide +kernel

theorem witness_ActiveSets :
    StartsFrame 0 .rising (after (.apply hd) (inZone0 .waiting .restart [])) ∧
    (after (.apply hd) (inZone0 .waiting .restart [])).comp.applyPending.get 0 = true ∧
    ((after (.apply hd) (inZone0 .waiting .restart [])).comp.staged.get 15).zone = 0 ∧
    (inZone0 .waiting .restart []).comp.applyPending.get 0 = false := by
  unfold StartsFrame State.Running Covered; decide +kernel

/-- R68: a window at line 2 that is 9 lines high keeps the zone's last 2 lines. -/
theorem test_clip :
    let s := inZone0 .waiting .restart []
    let w : Window := { Window.initial with top := 2, height := 9, left := 1, width := 9 }
    let t := after (.zonePulse 0 .rising)
      (after (.apply hd) (s.withComp { s.comp with staged := s.comp.staged.set 3 w }))
    ((t.comp.active.get 0).get 3).map (fun v => (v.height, v.width)) = some (2, 2) := by decide +kernel

/-- Zone 0 WAITING with `lines` lines; it took window 3, an enabled SPONSOR window of lines 4 to 6, columns 1 and 2, when it
had 4 lines. -/
def regrown (lines : Nat) : State :=
  let s := inZone0 .waiting .restart []
  let w : Window := { Window.initial with
    enabled := true, kind := .sponsor, top := 4, height := 3, left := 1, width := 2 }
  let t := after (.zonePulse 0 .rising)
    (after (.apply hd) (s.withComp { s.comp with staged := s.comp.staged.set 3 w }))
  t.setZone 0 { s.zone 0 with lines := lines }

/-- R68: inert in 4 lines, of 2 lines in 6 and whole in 9, without another APPLY; and marked when it is not inert. -/
theorem test_clip_afresh :
    [4, 5, 6, 7, 9].map (fun n => (((after (.zonePulse 0 .rising) (regrown n)).comp.active.get 0).get 3).map fun v =>
      (v.height, v.width)) = [some (0, 0), some (1, 2), some (2, 2), some (3, 2), some (3, 2)] ∧
    [4, 5].map (fun n => ((after (.zonePulse 0 .rising) (regrown n)).comp.frameRecord.get 0).map fun l =>
      l.map (·.window)) = [some [], some [3]] := by decide +kernel

theorem witness_ActiveSets_kept :
    StartsFrame 0 .rising (regrown 9) ∧ (regrown 9).comp.applyPending.get 0 = false ∧
    (((regrown 9).comp.taken.get 0).get 3).isSome = true ∧ (4 : Nat) < ((regrown 9).zone 0).lines := by
  unfold StartsFrame State.Running Covered; decide +kernel

/-- R69, R71: the ALERT_ON flag outlives the frame start that latches it. -/
theorem test_alert_flag_stays :
    let t := after (.zonePulse 0 .rising) (after (.alertOn hd) (inZone0 .waiting .restart []))
    t.comp.alertOn = true ∧ t.comp.alertLatch.get 0 = true := by decide +kernel

theorem witness_AlertApplyProbe :
    r0.Running ∧ 0x1000000000 ≤ (0x1000000000 : BitVec 40).toNat ∧
    (0xFFFFFFFFF : BitVec 40).toNat < 0x1000000000 ∧
    (r0.withComp { r0.comp with alertOn := true }).alertInForce ≠ r0.alertInForce := by
  unfold State.Running; decide +kernel

/-! ## The millisecond pulse -/

/-- A RUNNING clock at `v`. -/
def runningAt (mode : ClockMode) (v : Nat) : State :=
  clocked fun u => { u with state := .running, mode := mode, value := v }

theorem witness_MillisecondPulse :
    (runningAt .up 5999000).Running ∧ (runningAt .up 5999000).timing.value ≤ 5999000 ∧ r0.pending = [] ∧
    (clocked fun u => { u with accumulator := 9998999 }).timing.accumulator + 1000 < 10000000 ∧
    10000000 ≤ (clocked fun u => { u with accumulator := 9999000 }).timing.accumulator + 1000 ∧
    r0.timing.refRate = 10000000 := by unfold State.Running; decide +kernel

/-- R111: a DOWN clock reaches 0 and expires with the horn; R118: the possession clock stops the game. -/
theorem test_msPulse :
    (after .msPulse (runningAt .down 1)).timing.state = .expired ∧
    (after .msPulse (runningAt .down 1)).timing.hornG.remaining = 1000 ∧
    (let t := after .msPulse (clocked fun u =>
      { u with state := .running, value := 500, possEnabled := true, possValue := 1, stopGame := true })
     t.timing.state = .stopped ∧ t.timing.captured = 499 ∧ t.timing.hornP.remaining = 1000) := by
  decide +kernel

def messageAt (st : MsgState) (expiry : Count) : Message :=
  { id := 42, cls := .fan, state := st, length := 10, text := Tab.fill 160 0, repeats := 1, lifetime := 1
    expiry := expiry, colour := none, sponsor := some 5, order := 1, travel := 0, expiring := false
    withdrawing := false }

/-- The message at place 63, on the crawl or in its queue by its state. -/
def holding (m : Message) (hold : Option Nat) : State :=
  r0.withMessage { r0.message with
    store := r0.message.store.set 63 (some m), hold := hold
    fan := if m.state = .queued then [63] else []
    lead := if m.state = .lead then some 63 else none }

theorem witness_ExpiryRows :
    (let s := inZone0 .scanning .restart []
     s.Running ∧ ¬ LossDue (s.zone 0) ∧ LossDue { s.zone 0 with lossTimer := some 99 }) ∧
    ((runningAt .down 1).timing.value ≤ 1 ∧ 5999000 ≤ (runningAt .up 5998999).timing.value + 1 ∧
      ¬ (runningAt .down 2).timing.value ≤ 1) ∧
    (clocked fun u => { u with state := .running, possEnabled := true, possValue := 1 }).timing.possValue = 1 ∧
    (clocked fun u => { u with hornP := { duration := 1000, remaining := 1 } }).timing.hornP.remaining = 1 ∧
    r0.timing.hornG.remaining ≠ 1 ∧
    (Reached (messageAt .queued 1) (r0.timing.uptime + 1) ∧ ¬ Reached (messageAt .queued 2) (r0.timing.uptime + 1) ∧
      (holding (messageAt .queued 1) none).message.store.get 63 = some (messageAt .queued 1)) ∧
    ((holding (messageAt .lead 1) (some 1)).message.hold = some 1 ∧
      (holding (messageAt .lead 1) none).message.occupancy < (holding (messageAt .lead 1) none).message.config.high) := by
  unfold State.Running Reached; decide +kernel

theorem test_messageExpire :
    (after (.messageExpire 63) (holding (messageAt .queued 1) none)).message.occupancy = 0 ∧
    (after (.messageExpire 63) (holding (messageAt .queued 2) none)).message.occupancy = 1 ∧
    ((after (.messageExpire 63) (holding (messageAt .lead 1) none)).message.store.get 63).map (·.expiring) =
      some true := by decide +kernel

/-! ## The timing unit -/

theorem witness_ClockCommands :
    r0.Running ∧ (runningAt .down 5).timing.state = .running ∧
    ((clocked fun u => { u with value := 1 }).timing.state = .stopped ∧
      0 < (clocked fun u => { u with value := 1 }).timing.value) ∧
    ((clocked fun u => { u with mode := .up, value := 5998999 }).timing.value < 5999000) ∧
    ¬ 0 < r0.timing.value ∧ 1 < (2 : Byte).toNat ∧ 2 < (3 : Byte).toNat ∧ inputMode? (1 : Byte).toNat = some .level ∧
    lineSense? (2 : Byte).toNat = some none := by unfold State.Running; decide +kernel

theorem test_clockStart :
    (after (.clockStart hd) r0).timing.state = .stopped ∧
    (after (.clockStart hd) (clocked fun u => { u with value := 1, breakFlag := true })).timing =
      { r0.timing with value := 1, state := .running } := by decide +kernel

theorem test_clockConfig :
    (after (.clockConfig hd 50000001 1 2 1 100001 99) (clocked fun u => { u with accumulator := 5 })).timing =
      { r0.timing with
        refRate := 50000000, inputMode := .level, startSense := none, stopSense := some .falling
        threshold := 100000, hornG := { duration := 100, remaining := 0 } } := by decide +kernel

theorem witness_ClockSetAndAdjust : (runningAt .down 5).Running := rfl

/-- R112: a RUNNING clock set to its limit expires; an EXPIRED one set to a startable value is STOPPED. R113: a
delta of -6 from 5 stops at 0. -/
theorem test_clockSet :
    (after (.clockSet hd 0) (runningAt .down 5)).timing.state = .expired ∧
    (after (.clockAdjust hd (BitVec.ofInt 32 (-6))) (runningAt .down 5)).timing.value = 0 ∧
    (after (.clockAdjust hd (BitVec.ofInt 32 (-4))) (runningAt .down 5)).timing.value = 1 ∧
    (after (.clockSet hd 6000000) (clocked fun u => { u with state := .expired })).timing.state = .stopped ∧
    (after (.clockSet hd 6000000) (clocked fun u => { u with state := .expired })).timing.value = 5999000 := by
  decide +kernel

theorem witness_PossessionCommands :
    r0.Running ∧ 1 < (2 : Byte).toNat ∧ yesNo? (1 : Byte).toNat = some true ∧
    lineSense? (1 : Byte).toNat = some (some .falling) ∧ r0.timing.pcSense = some .rising ∧
    r0.timing.pcSense ≠ some .falling ∧ (after .resetAssert r0).pins.resetAsserted = true := by
  unfold State.Running; decide +kernel

theorem test_possession :
    (after (.pcReset .rising) r0).timing.possValue = 24000 ∧ (after (.pcReset .falling) r0).timing.possValue = 0 ∧
    (after (.possSet hd 99001) r0).timing.possValue = 99000 ∧
    (after (.possConfig hd 999 99001 1 1 5001) r0).timing.possPreset = 1000 := by decide +kernel

theorem witness_HornAndScore :
    r0.Running ∧ 1 < (2 : Byte).toNat ∧ (1 : Byte).toNat ≤ 1 ∧ 7 < (8 : Byte).toNat ∧
    (7 : Byte).toNat = (7 : Fin 8).val := by unfold State.Running; decide +kernel

/-- R116: a horn's line rises with its trigger and falls with its last millisecond; RESET_N silences both. -/
theorem test_horn_lines :
    let s := after (.horn hd 1 0) (clocked fun u => { u with hornG := { duration := 1000, remaining := 1 } })
    (s.hornGLine, s.hornPLine) = (true, true) ∧
    ((after .msPulse s).hornGLine, (after .msPulse s).hornPLine) = (false, true) ∧
    ((after .resetAssert s).hornGLine, (after .resetAssert s).hornPLine) = (false, false) := by decide +kernel

/-- R123: 997 + 5 is 999, 1 - 3 is 0. -/
theorem test_score :
    (after (.scoreAdd hd 0 5) (clocked fun u => { u with home := 997 })).timing.home = 999 ∧
    (after (.fieldAdd hd 7 (BitVec.ofInt 32 (-3))) (clocked fun u => { u with fields := u.fields.set 7 1 })).timing.fields.get 7 = 0 ∧
    (after (.fieldSet hd 0 100) r0).timing.fields.get 0 = 99 ∧ (after (.horn hd 1 0) r0).timing.hornP.remaining = 1000 := by
  decide +kernel

def sensed (mode : InputMode) (start stop : Option Edge) : State :=
  clocked fun u => { u with value := 60000, inputMode := mode, startSense := start, stopSense := stop }

theorem witness_ConsoleLines :
    (sensed .level (some .falling) none).Running ∧ (sensed .level (some .falling) none).timing.startSense = some .falling ∧
    Edge.falling ≠ Edge.rising ∧ (sensed .level (some .falling) none).timing.inputMode = .level ∧
    (sensed .edgePair none (some .rising)).timing.stopSense = some .rising ∧
    (sensed .edgePair none (some .rising)).timing.inputMode = .edgePair ∧
    (sensed .edgePair none (some .rising)).timing.startSense = none ∧
    (after .resetAssert r0).pins.resetAsserted = true := by unfold State.Running; decide +kernel

theorem test_consoleLines :
    (after (.lineStart .falling) (sensed .level (some .falling) none)).timing.state = .running ∧
    (after (.lineStart .rising) (after (.lineStart .falling) (sensed .level (some .falling) none))).timing.state =
      .stopped ∧
    (after (.lineStart .rising) (sensed .edgePair none none)).timing.state = .stopped := by decide +kernel

/-- The worked values of R121 and R122. -/
theorem test_displayTexts :
    gameText .down 60000 60001 = [32, 49, 58, 48, 49] ∧ gameText .down 60000 60000 = [32, 49, 58, 48, 48] ∧
    gameText .down 60000 59999 = [32, 53, 57, 46, 57] ∧ gameText .up 0 5999000 = [57, 57, 58, 53, 57] ∧
    possText true .up 5000 0 9500 = [32, 32, 49, 48] ∧ possText true .up 5000 0 4999 = [32, 52, 46, 57] ∧
    possText true .down 5000 9499 9500 = [32, 32, 32, 32] := by decide +kernel

theorem witness_DisplayTexts :
    (let u := (clocked fun u => { u with value := 59999 }).timing
     u.value ≤ 5999000 ∧ u.possValue ≤ 99000 ∧ u.threshold ≤ 100000 ∧ 0 < u.threshold ∧ u.value < u.threshold ∧
     u.possEnabled = false) ∧
    (let u := (clocked fun u => { u with value := 60000, possEnabled := true, possValue := 60000 }).timing
     u.threshold ≤ u.value ∧ u.possEnabled = true ∧ u.possValue ≤ u.value ∧ u.possThreshold ≤ u.possValue) ∧
    (let u := (clocked fun u => { u with value := 60000, possEnabled := true, possValue := 60001 }).timing
     u.mode = .down ∧ u.value < u.possValue) ∧
    (let u := (clocked fun u => { u with mode := .up, possEnabled := true, possValue := 4999 }).timing
     u.mode = .up ∧ u.possValue < u.possThreshold) := by decide +kernel

/-! ## Replay -/

theorem witness_FirstUnheld : FirstUnheld recorded 2 ∧
    FirstUnheld { recorded with slots := recorded.slots.modify 2 fun t => { t with clipHolds := 1 } } 3 := by
  refine ⟨⟨0, by decide +kernel, by decide +kernel, by decide +kernel, fun i m hi => absurd hi (by omega)⟩,
    ⟨1, by decide +kernel, by decide +kernel, by decide +kernel, fun i m hi hm => ?_⟩⟩
  obtain rfl : i = 0 := by omega
  obtain rfl : m = 2 := Fin.ext (hm.trans (by decide +kernel))
  decide +kernel

theorem witness_RecorderCommands :
    (capturing recorded).Running ∧ Edge.falling ≠ recorded.source.sense ∧ recorded.recorder = .off ∧
    ({ recorded with recorder := .armed } : Capture).recorder = .armed ∧ recorded.source.slotCount ≤ 1024 ∧
    (recording.recorder = .recording ∧ recording.newest = some 2) ∧
    (recorded.source.lines * recorded.source.pitch ≤ recorded.source.stride ∧
      recorded.source.ringBase + recorded.source.slotCount * recorded.source.stride ≤ 0x1000000000) ∧
    RecordSource.initial.slotCount = 0 ∧
    (∀ i, (recording.clips.get i).state = .free ∨ (recording.clips.get i).state = .closed) ∧
    (recorded.slots.get 2).state = .empty ∧ recorded.newest ≠ some 2 := by
  unfold State.Running; decide +kernel

theorem test_recordFramePulse :
    (let t := after (.recordFramePulse .rising) (capturing { recorded with recorder := .armed })
     t.capture.newest = some 2 ∧ (t.slot 2).previous = some 1 ∧ (t.slot 1).next = some 2 ∧
     t.capture.captureNumber = 3) ∧
    (let t := after (.recordFramePulse .rising) (capturing recording)
     (t.slot 2).state = .partialState ∧ t.capture.newest = some 3) := by decide +kernel

/-- A clip at number `i` in state `st` over slots 0 and 1. -/
def clipped (c : Capture) (i : Fin 32) (st : ClipState) : State :=
  capturing
    { c with
      clips := c.clips.set i { state := st, tag := 9, first := some 0, length := 2, clock := 5000 }
      slots := (c.slots.modify 0 fun t => { t with clipHolds := 1 }).modify 1 fun t => { t with clipHolds := 1 } }

theorem witness_ClipCommands :
    (clipped recording 31 .opened).Running ∧ ((clipped recording 31 .opened).capture.clips.get 31).state = .opened ∧
    (∀ j : Fin 32, j < 31 → ((clipped recording 31 .opened).capture.clips.get j).state ≠ .opened) ∧
    recorded.recorder ≠ .recording ∧
    (∀ i, (({ recording with clips := Tab.fill 32 { Clip.initial with state := .closed } } : Capture).clips.get i).state
      ≠ .free) ∧
    ((¬ ∃ i, (recording.clips.get i).state = .opened ∨ (recording.clips.get i).state = .closing) ∧
      (recording.clips.get 0).state = .free) ∧
    (∀ i, (recording.clips.get i).state ≠ .opened) ∧ 31 < (32 : Byte).toNat ∧ (31 : Byte).toNat = (31 : Fin 32).val := by
  unfold State.Running; decide +kernel

/-- The pre-roll walk from slot 1 to slot 0; a longer pre-roll holds no more. -/
theorem test_clipIn :
    (let t := after (.clipIn hd 7 300) (capturing recording)
     t.capture.clips.get 0 = { state := .opened, tag := 7, first := some 0, length := 2, clock := 5000 } ∧
     (t.slot 0).clipHolds = 1 ∧ (t.slot 1).clipHolds = 1) ∧
    (let t := after (.clipFree hd 31) (clipped recording 31 .opened)
     (t.slot 0).clipHolds = 0 ∧ (t.capture.clips.get 31).state = .free) := by decide +kernel

def cued (f : Player → Player) (s : State) : State :=
  s.withPlayer (f { Player.initial with first := some 0, length := 2, selection := some 0, state := .cued })

theorem witness_PlayerTransport :
    r0.Running ∧ 2 < (3 : Byte).toNat ∧ endMode? (1 : Byte).toNat = some .loop ∧ yesNo? (1 : Byte).toNat = some true ∧
    alertPolicy? (2 : Byte).toNat = some .free ∧ 3 < (4 : Byte).toNat ∧ (3 : Byte).toNat = (3 : Fin 4).val ∧
    r0.player.state = .idle ∧ (cued id r0).player.state = .cued ∧
    (cued (fun p => { p with state := .paused }) r0).player.state = .paused ∧
    (cued (fun p => { p with state := .ended }) r0).player.state = .ended ∧
    (cued (fun p => { p with state := .playing }) r0).player.state = .playing := by
  unfold State.Running; decide +kernel

theorem test_transport :
    (after (.step hd) (cued (fun p => { p with state := .paused, position := 15 }) r0)).player.position = 16 ∧
    (after (.step hd) (cued (fun p => { p with state := .paused, position := 16 }) r0)).player.position = 16 ∧
    (after (.pause hd) (cued (fun p => { p with state := .playing, position := 9, shownPosition := 3 }) r0)).player.position
      = 3 ∧ (after (.rate hd 0) r0).player.rate = 1 ∧ (after (.rate hd 33) r0).player.rate = 32 := by decide +kernel

theorem witness_Cues :
    (clipped recorded 31 .closed).Running ∧ 31 < (32 : Byte).toNat ∧
    ((clipped recorded 31 .opened).capture.clips.get 31).state ≠ .closed ∧
    (let c := (clipped recorded 31 .closed).capture.clips.get 31
     c.state = .closed ∧ c.length ≠ 0 ∧ c.first = some 0) ∧
    ({ Clip.initial with state := .closed } : Clip).length = 0 ∧ 1023 < (1024 : BitVec 16).toNat ∧
    ((1023 : BitVec 16).toNat = (1023 : Fin 1024).val ∧ ¬ SlotIsClosed ((capturing recorded).slot 1023)) ∧
    ((1 : BitVec 16).toNat = (1 : Fin 1024).val ∧ SlotIsClosed ((capturing recorded).slot 1)) ∧
    r0.capture.completeSlots = [] ∧ recorded.completeSlots ≠ [] := by
  unfold State.Running; decide +kernel

/-- The slots above 2 are as reset leaves them. -/
theorem recording_slot (k : Fin 1024) :
    k = 0 ∨ k = 1 ∨ k = 2 ∨ (k ≠ 0 ∧ k ≠ 1 ∧ k ≠ 2 ∧ recording.slots.get k = Slot.initial) := by
  by_cases h0 : (0 : Fin 1024) = k
  · exact .inl h0.symm
  by_cases h1 : (1 : Fin 1024) = k
  · exact .inr (.inl h1.symm)
  by_cases h2 : (2 : Fin 1024) = k
  · exact .inr (.inr (.inl h2.symm))
  refine .inr (.inr (.inr ⟨Ne.symm h0, Ne.symm h1, Ne.symm h2, ?_⟩))
  unfold recording recorded
  dsimp only []
  rw [Tab.get_set_ne _ _ h2, Tab.get_modify_ne _ _ h1, Tab.get_set_ne _ _ h1, Tab.get_set_ne _ _ h0, Tab.get_fill]

theorem recording_links :
    (recording.slots.get 0).next = some 1 ∧ (recording.slots.get 0).previous = none ∧
    (recording.slots.get 1).next = some 2 ∧ (recording.slots.get 1).previous = some 0 ∧
    (recording.slots.get 2).next = none ∧ (recording.slots.get 2).previous = some 1 ∧
    (recording.slots.get 0).state = .complete ∧ (recording.slots.get 1).state = .complete ∧
    (recording.slots.get 2).state = .writing ∧ (recording.slots.get 2).held = false := by decide +kernel

/-- The chain of `recording` is 0, 1, 2, of which 2 is WRITING. -/
theorem recording_chain : recording.ChainLawful := by
  obtain ⟨n0, p0, n1, p1, n2, p2, s0, s1, s2, u⟩ := recording_links
  refine ⟨⟨[0, 1, 2], by decide, fun k => ?_, by decide +kernel, by decide +kernel, fun i k h => ?_⟩,
    fun k => ?_, fun _ => by decide +kernel, fun k h => ?_, by decide +kernel, fun k h => ?_⟩
  · rcases recording_slot k with rfl | rfl | rfl | ⟨a, b, c, e⟩
    · simp [s0]
    · simp [s1]
    · simp [s2]
    · simp [e, a, b, c, Slot.initial]
  · match i, h with
    | 0, h => obtain rfl : 0 = k := by simpa using h
              simp [n0, p0]
    | 1, h => obtain rfl : 1 = k := by simpa using h
              simp [n1, p1]
    | 2, h => obtain rfl : 2 = k := by simpa using h
              simp [n2, p2]
    | n + 3, h => simp at h
  · have hn : recording.newest = some 2 := rfl
    have hr : recording.recorder = .recording := rfl
    rcases recording_slot k with rfl | rfl | rfl | ⟨a, b, c, e⟩
    · simp [s0, hn]
    · simp [s1, hn]
    · simp [s2, hn, hr]
    · simp [e, hn, Ne.symm c, Slot.initial]
  · rcases recording_slot k with rfl | rfl | rfl | ⟨a, b, c, e⟩
    · simp [s0] at h
    · simp [s1] at h
    · exact u
    · simp [e, Slot.initial] at h
  · have hc : recording.source.slotCount = 4 := rfl
    rw [hc] at h
    rcases recording_slot k with rfl | rfl | rfl | ⟨a, b, c, e⟩
    · simp at h
    · simp at h
    · simp at h
    · rw [e]; rfl

/-- R150, R151 with a lawful chain: the closed slots from a slot on, and the COMPLETE ones newest first. -/
theorem witness_Cues_chain :
    recording.ChainLawful ∧ SlotIsClosed (recording.slots.get 0) ∧ recording.newestClosed = some 1 ∧
    recording.closedFrom 0 = 2 ∧ recording.completeSlots = [1, 0] ∧ recording.run 3 (some 0) = [0, 1, 2] ∧
    recorded.newestClosed = some 1 :=
  ⟨recording_chain, by decide +kernel⟩

theorem test_cues :
    (let t := after (.cueRange hd 0 9) (capturing recorded)
     t.player.state = .cued ∧ t.player.length = 2 ∧ (t.slot 1).playerHold = true) ∧
    (after (.cueClock hd 4099 1) (capturing recorded)).player.first = some 1 ∧
    (after (.cueClock hd 4600 1) (capturing recorded)).player.first = some 0 ∧
    (after (.cueRange hd 2 1) (capturing recorded)).player.state = .idle := by decide +kernel

/-- Zone 0 paces a player of two slots. -/
def paced (f : Player → Player) : State := cued f ((inZone0 .waiting .restart []).withCapture recorded)

theorem witness_PlayerPacing :
    StartsFrame 0 .rising (paced id) ∧ (paced id).player.paceZone = 0 ∧ (paced id).player.state = .cued ∧
    (let p := (paced fun p => { p with state := .paused, stepPending := true }).player
     p.state = .paused ∧ p.stepPending = true) ∧
    (let s := after (.alertOn hd) (paced fun p => { p with state := .playing })
     StartsFrame 0 .rising s ∧ s.alertInForce = true ∧ s.player.policy = .pause ∧ s.player.stepPending = false) ∧
    (let p := (paced fun p => { p with state := .playing, position := 31 }).player
     ¬ p.length ≤ p.position / 16) ∧
    (let p := (paced fun p => { p with state := .playing, position := 32 }).player
     p.length ≤ p.position / 16 ∧ p.endMode = .hold) ∧
    (let p := (paced fun p => { p with state := .playing, position := 32, endMode := .loop, policy := .finish }).player
     p.length ≤ p.position / 16 ∧ p.endMode ≠ .hold ∧ (paced id).alertInForce = false) := by
  unfold StartsFrame State.Running Covered; decide +kernel

theorem test_pacing :
    (let p := (after (.zonePulse 0 .rising) (paced fun p => { p with state := .playing, position := 16 })).player
     p.selection = some 1 ∧ p.position = 32 ∧ p.latched.get 0 = some 1) ∧
    (after (.zonePulse 0 .rising) (paced fun p => { p with state := .playing, position := 32 })).player.state = .ended ∧
    (after (.zonePulse 0 .rising)
      (paced fun p => { p with state := .playing, position := 35, endMode := .loop })).player.position = 19 := by
  decide +kernel

/-! ## Sponsors and messages -/

/-- Panel 7 in state `st`, its list two entries long: 5, which is disabled, and 6, which is not. -/
def panelled (st : PanelState) : State :=
  let s := r0.setPanel 7 { Panel.initial with
    state := st, listLength := 2, position := 31
    shown := if st = .stopped then none else some 6 }
  s.withSponsor { s.sponsor with
    entries := s.sponsor.entries.set 6 { SponsorEntry.initial with enabled := true, dwell := 3 }
    lists := (s.sponsor.lists.set 224 5).set 225 6 }

theorem witness_PanelCommands :
    (panelled .stopped).Running ∧ 7 < (8 : Byte).toNat ∧ 127 < (128 : Byte).toNat ∧
    (7 : Byte).toNat = (7 : Fin 8).val ∧ (127 : Byte).toNat = (127 : Fin 128).val ∧
    ((panelled .stopped).panel 7).state = .stopped ∧ ((panelled .stopped).panel 7).listLength ≤ 32 ∧
    ((∀ k : Fin 32, k.val < 0 → ¬ Eligible r0 7 (r0.listed 7 k)) ∧ (r0.panel 7).listLength = 0) ∧
    (Eligible (panelled .stopped) 7 ((panelled .stopped).listed 7 1) ∧
      ¬ Eligible (panelled .stopped) 7 ((panelled .stopped).listed 7 0) ∧ (1 : Fin 32).val = (0 + 1) % 2) ∧
    ((panelled .held).panel 7).state = .held ∧ ((panelled .rotating).panel 7).state = .rotating ∧
    ((panelled .moment).panel 7).state = .moment := by unfold State.Running Eligible; decide +kernel

theorem test_panels :
    (let x := (after (.panelStart hd 7) (panelled .stopped)).panel 7
     x.shown = some 6 ∧ x.position = 1 ∧ x.showing = 1) ∧
    (let x := (after (.panelForce hd 7 127 0) (panelled .rotating)).panel 7
     x.shown = some 127 ∧ x.count = 1 ∧ x.savedEntry = some 6) ∧
    ((after (.panelHold hd 7) (panelled .held)).panel 7).state = .rotating := by decide +kernel

/-- A store of `n` messages with ids 0 to n - 1. -/
def stored (n : Nat) : State :=
  r0.withMessage { r0.message with
    store := ⟨(List.range 64).map fun k =>
      if k < n then some { messageAt .assembling 9 with id := BitVec.ofNat 16 k } else none, by simp⟩ }

/-- R196: QHOLD rises at the high mark, stays between the marks, and falls at the low mark. -/
theorem test_qhold :
    let config := fun (high low : BitVec 16) (s : State) =>
      after (.queueConfig hd 0 3840 4 64 2 high low 60 10 0) s
    (config 48 16 (stored 48)).qhold = true ∧ (config 49 16 (stored 48)).qhold = false ∧
    (config 49 47 (config 48 16 (stored 48))).qhold = true ∧
    (config 49 48 (config 48 16 (stored 48))).qhold = false := by decide +kernel

theorem witness_QueueConfigAndOpen :
    r0.Running ∧ 1 < (2 : Byte).toNat ∧ 3 < (4 : Byte).toNat ∧ (3 : Byte).toNat = (3 : Fin 4).val ∧
    2 < (3 : Byte).toNat ∧ msgClass? (2 : Byte).toNat = some .fan ∧
    (16 ≤ (16 : Byte).toNat ∧ (254 : Byte).toNat ≤ 254) ∧ 128 ≤ (128 : Byte).toNat ∧
    (∃ i m, (holding (messageAt .queued 1) none).message.store.get i = some m ∧ m.id = 42) ∧
    (∀ i, (stored 64).message.store.get i ≠ none) ∧
    ((stored 63).message.store.get 63 = none ∧ ∀ j : Fin 64, j < 63 → (stored 63).message.store.get j ≠ none) := by
  refine ⟨rfl, by decide +kernel, by decide +kernel, by decide +kernel, by decide +kernel, by decide +kernel,
    by decide +kernel, by decide +kernel, ⟨63, messageAt .queued 1, by decide +kernel, rfl⟩, ?_⟩
  decide +kernel

/-- R196: the message that brings the occupancy to the high mark 48 starts the hold of (10 - 1) × 1000 ms. -/
theorem test_msgOpen :
    (after (.msgOpen hd 999 2 0 16 0 0xFF 127) (stored 47)).message.hold = some 9000 ∧
    (after (.msgOpen hd 999 2 0 16 0 0xFF 127) (stored 46)).message.hold = none ∧
    (((after (.msgOpen hd 999 2 0 16 3601 0xFF 127) (stored 63)).message.store.get 63).map fun m =>
      (m.length, m.repeats, m.lifetime, m.expiry)) = some (1, 15, 3600, 3600000) ∧
    (after (.msgOpen hd 42 2 1 1 1 16 0) (stored 3)).message = (stored 3).message := by decide +kernel

theorem witness_TextPostWithdraw :
    r0.Running ∧ ([] : List Byte).length ≠ 23 ∧ (List.replicate 23 (65 : Byte)).length = 23 ∧
    (∃ b ∈ (List.replicate 23 (128 : Byte)).take (1 : Byte).toNat, 128 ≤ b.toNat) ∧
    (¬ ∃ b ∈ (List.replicate 23 (127 : Byte)).take (20 : Byte).toNat, 128 ≤ b.toNat) ∧
    (∀ i m, r0.message.store.get i = some m → m.id ≠ 42) ∧
    (holding (messageAt .assembling 1) none).message.store.get 63 = some (messageAt .assembling 1) ∧
    (messageAt .assembling 1).id = 42 ∧
    (∀ j n, j < 63 → (holding (messageAt .assembling 1) none).message.store.get j = some n → n.id ≠ 42) ∧
    (1 ≤ (2 : Byte).toNat ∧ (8 : BitVec 16).toNat + (2 : Byte).toNat ≤ (messageAt .assembling 1).length) ∧
    ¬ (9 : BitVec 16).toNat + (2 : Byte).toNat ≤ (messageAt .assembling 1).length ∧
    ({ messageAt .lead 1 with withdrawing := true } : Message).withdrawing = true := by
  have empty (i : Fin 64) (m : Message) : r0.message.store.get i ≠ some m := by
    have h : ∀ i, r0.message.store.get i = none := by decide +kernel
    simp [h i]
  have lower : ∀ j : Fin 64, j < 63 → (holding (messageAt .assembling 1) none).message.store.get j = none := by
    decide +kernel
  refine ⟨rfl, by decide +kernel, by decide +kernel, by decide +kernel, by decide +kernel,
    fun i m h => absurd h (empty i m), by decide +kernel, rfl, fun j n hj h => ?_, ?_⟩
  · rw [lower j hj] at h
    exact absurd h (by simp)
  · decide +kernel

theorem test_messages :
    (((after (.msgText hd 42 8 2 ([65, 66] ++ List.replicate 21 0)) (holding (messageAt .assembling 1) none)).message.store.get
      63).map fun m => (m.text.get 8, m.text.get 9, m.text.get 10)) = some (65, 66, 0) ∧
    (after (.msgPost hd 42) (holding (messageAt .assembling 1) none)).message.fan = [63] ∧
    (after (.msgWithdraw hd 42) (holding (messageAt .queued 1) none)).message.occupancy = 0 ∧
    ((after (.msgWithdraw hd 42) (holding (messageAt .lead 1) none)).message.store.get 63).map (·.withdrawing) =
      some true := by decide +kernel

/-- Zone 1, the pace zone after reset, WAITING, with the message of `holding`. -/
def crawling (m : Message) : State :=
  (holding m none).setZone 1 { (inZone0 .waiting .restart []).zone 0 with base := 0x9000 }

theorem witness_CrawlFrames :
    StartsFrame 1 .rising (crawling (messageAt .queued 9)) ∧
    (crawling (messageAt .queued 9)).message.config.paceZone = 1 ∧
    (crawling (messageAt .queued 9)).message.config.paceZone ≠ 0 ∧
    StartsFrame 1 .rising (after (.alertOn hd) (crawling (messageAt .lead 9))) ∧
    (after (.alertOn hd) (crawling (messageAt .lead 9))).alertInForce = true ∧
    (let u := (crawling (messageAt .lead 9)).message
     u.lead = some 63 ∧ u.follow = none ∧ u.store.get 63 = some (messageAt .lead 9) ∧
     (messageAt .lead 9).withdrawing = false ∧ 0 + u.config.speed < u.config.width + 10 * 16 * u.config.scale ∧
     ∀ c, u.queue c = []) ∧
    (let u := (crawling (messageAt .queued 9)).message
     u.lead = none ∧ u.queue .fan = 63 :: [] ∧ u.store.get 63 = some (messageAt .queued 9)) ∧
    (∀ d : MsgClass, d.number < MsgClass.fan.number →
      (crawling (messageAt .queued 9)).message.queue d = []) ∧
    (∀ d : MsgClass, (crawling (messageAt .lead 9)).message.queue d = []) := by
  have classes (p : MsgClass → Prop) (h₁ : p .announce) (h₂ : p .featured) (h₃ : p .fan) : ∀ d, p d :=
    fun d => by cases d <;> assumption
  refine ⟨?_, by decide +kernel, by decide +kernel, ?_, by decide +kernel, ?_, by decide +kernel, ?_, ?_⟩
  · unfold StartsFrame State.Running Covered; decide +kernel
  · unfold StartsFrame State.Running Covered; decide +kernel
  · refine ⟨by decide +kernel, by decide +kernel, by decide +kernel, by decide +kernel, by decide +kernel,
      classes _ ?_ ?_ ?_⟩ <;> decide +kernel
  · refine classes _ ?_ ?_ ?_ <;> decide +kernel
  · refine classes _ ?_ ?_ ?_ <;> decide +kernel

theorem test_crawl :
    (after (.zonePulse 1 .rising) (crawling (messageAt .queued 9))).message.lead = some 63 ∧
    ((after (.zonePulse 1 .rising) (crawling (messageAt .lead 9))).message.store.get 63).map (·.travel) = some 4 ∧
    (after (.zonePulse 1 .rising) (after (.alertOn hd) (crawling (messageAt .lead 9)))).message.fan = [63] := by
  decide +kernel

/-- A LEAD with its tail just clear of the entry by the gap, and the head of the FEATURED queue behind it. -/
def following (travel : Nat) : State :=
  let s := crawling { messageAt .lead 9 with travel := travel }
  s.withMessage { s.message with
    store := s.message.store.set 0 (some { messageAt .queued 9 with id := 7, cls := .featured })
    featured := [0] }

theorem witness_CrawlFrames_follow :
    StartsFrame 1 .rising (following 348) ∧ (following 348).message.lead = some 63 ∧
    (following 348).message.follow = none ∧ 10 * 16 * 1 + (following 348).message.config.gap ≤ 348 + 4 ∧
    ¬ 10 * 16 * 1 + (following 347).message.config.gap ≤ 347 + 4 ∧
    (following 348).message.queue .featured = 0 :: [] ∧ (following 348).message.queue .announce = [] ∧
    (following 348).message.config.speed = 4 ∧ (0 : Fin 64) ≠ 63 := by
  unfold StartsFrame State.Running Covered; decide +kernel

theorem test_crawl_follow :
    (after (.zonePulse 1 .rising) (following 348)).message.follow = some 0 ∧
    (after (.zonePulse 1 .rising) (following 347)).message.follow = none := by decide +kernel

/-! ## Score cells -/

/-- The table of R95. -/
theorem test_scoreDigits :
    (List.range 3).map (scoreDigit 7 3 true) = [32, 32, 55] ∧
    (List.range 3).map (scoreDigit 7 3 false) = [48, 48, 55] ∧
    (List.range 2).map (scoreDigit 0 2 true) = [32, 48] ∧
    (List.range 2).map (scoreDigit 150 2 true) = [57, 57] ∧
    (List.range 3).map (scoreDigit 999 3 false) = [57, 57, 57] := by decide +kernel

/-- The worked score line of section 5.6: codes and colours of cell row 0. -/
theorem test_score_line :
    let item (source : ScoreSource) (column digits : Nat) (suppress : Bool) (colour : Option (Fin 16)) :
        LayoutItem :=
      { enabled := true, source, column, row := 0, digits, suppress, colour }
    let layouts := ((((r0.glyph.layouts.set 0 (item .home 0 3 true (some 2))).set 1
      (item .guest 4 3 true (some 3))).set 2 (item (.field 0) 8 1 false none)).set 3
      (item (.field 1) 10 1 false none))
    let l : ContentLatch := { r0.content with
      home := 7, guest := 112, fields := (Tab.fill 8 3).set 1 12, layouts := layouts }
    let w : Window := { Window.initial with kind := .score, foreground := 1 }
    (List.range 11).map (fun c => (l.cell w c 0).map fun x => (x.1.val, x.2.val)) =
      [some (32, 2), some (32, 2), some (55, 2), none, some (49, 3), some (49, 3), some (50, 3), none,
        some (51, 1), none, some (57, 1)] := by decide +kernel

/-! ## Invariants, at states that are not the reset state -/

theorem witness_TimingStaysLawful :
    (runningAt .up 5998999).timing.Lawful ∧
    step (runningAt .up 5998999) = .next (idle (runningAt .up 5998999)) :=
  ⟨by constructor <;> decide +kernel, rfl⟩

theorem witness_BusPathStaysLawful :
    (busy .stall 16 32 32).bus.Lawful ∧ step (busy .stall 16 32 32) = .next (idle (busy .stall 16 32 32)) :=
  ⟨⟨by decide +kernel, by decide +kernel, by decide +kernel, by decide +kernel, by decide +kernel, by decide +kernel,
    fun e he h => by
      have all : ∀ e ∈ (busy .stall 16 32 32).bus.responses, e.kind = .memory := by decide +kernel
      rw [all e he] at h
      exact absurd h (by simp)⟩, rfl⟩

/-- A full ring, with a report waiting. -/
theorem witness_ReportRingStaysLawful :
    (ring 63 63 0 8 0).RingLawful ∧ step (ring 63 63 0 8 0) = .next (idle (ring 63 63 0 8 0)) :=
  ⟨⟨by decide +kernel, by decide +kernel, fun k hk => absurd hk (by decide +revert +kernel), by decide +kernel⟩, rfl⟩

theorem witness_ZonesAndWindowsStayLawful :
    (∀ z, (windowed.zone z).Lawful) ∧ windowed.WindowsLawful ∧ step windowed = .next (idle windowed) := by
  refine ⟨fun z => ?_, ?_, rfl⟩
  · fin_cases z <;> constructor <;> decide +kernel
  · constructor <;> decide +kernel

/-- Two slots of four are held. -/
def heldAll : Capture :=
  { recorded with slots := (recorded.slots.modify 0 fun t => { t with clipHolds := 1 }).modify 1 fun t =>
      { t with playerHold := true } }

theorem witness_HoldsStayLawful :
    heldAll.HoldsLawful ∧ heldAll.heldCount = 2 ∧ step (capturing heldAll) = .next (idle (capturing heldAll)) ∧
    recording.HoldsLawful ∧ recording.ChainLawful ∧
    step (capturing recording) = .next (idle (capturing recording)) :=
  ⟨by unfold Capture.HoldsLawful; decide +kernel, by decide +kernel, rfl,
    by unfold Capture.HoldsLawful; decide +kernel, recording_chain, rfl⟩

/-- R132, R133: a pulse while RECORDING closes slot 2 and opens slot 3; the next one unlinks slot 0, the oldest, from the
chain and opens it. -/
theorem test_chain_links :
    let pulse := after (.recordFramePulse .rising)
    let ends := fun (s : State) => (s.capture.oldest, s.capture.newest, (s.slot 2).next, (s.slot 3).previous, (s.slot 0).state)
    ends (pulse (capturing recording)) = (some 0, some 3, some 3, some 2, .complete) ∧
    ends (pulse (pulse (capturing recording))) = (some 1, some 0, some 3, some 2, .writing) := by decide +kernel

theorem witness_PlayerStaysLawful :
    (cued (fun p => { p with state := .paused, cause := .alert, stepPending := true }) r0).player.Lawful ∧
    step (cued (fun p => { p with state := .paused, cause := .alert, stepPending := true }) r0) =
      .next (idle (cued (fun p => { p with state := .paused, cause := .alert, stepPending := true }) r0)) :=
  ⟨by constructor <;> decide +kernel, rfl⟩

theorem witness_PanelsStayLawful :
    (∀ p, ((panelled .held).panel p).Lawful) ∧ step (panelled .held) = .next (idle (panelled .held)) := by
  refine ⟨fun p => ?_, rfl⟩
  fin_cases p <;> constructor <;> decide +kernel

/-- 48 messages and a timer at its last millisecond. -/
def held48 : State := (stored 48).withMessage { (stored 48).message with hold := some 1 }

theorem witness_QueueHoldStaysLawful :
    held48.message.HoldLawful ∧ step held48 = .next (idle held48) :=
  ⟨⟨by decide +kernel, by decide +kernel, by decide +kernel, fun t h => by
      obtain rfl : t = 1 := by
        have e : held48.message.hold = some 1 := rfl
        rw [e] at h; simpa using h.symm
      decide +kernel⟩, rfl⟩

/-- A LEAD at place 63 with a FOLLOW at place 0 behind it, and a message waiting at place 1. -/
def three : MessageUnit :=
  { r0.message with
    store := (((Tab.fill 64 none).set 63 (some { messageAt .lead 9 with travel := 400 })).set 0
      (some { messageAt .follow 9 with id := 7, travel := 400 })).set 1 (some { messageAt .queued 9 with id := 9 })
    lead := some 63, follow := some 0, fan := [1] }

theorem three_get (i : Fin 64) :
    (i = 63 ∧ three.store.get i = some { messageAt .lead 9 with travel := 400 }) ∨
    (i = 0 ∧ three.store.get i = some { messageAt .follow 9 with id := 7, travel := 400 }) ∨
    (i = 1 ∧ three.store.get i = some { messageAt .queued 9 with id := 9 }) ∨
    (i ≠ 63 ∧ i ≠ 0 ∧ i ≠ 1 ∧ three.store.get i = none) := by
  unfold three
  dsimp only []
  by_cases h1 : (1 : Fin 64) = i
  · subst h1; exact .inr (.inr (.inl ⟨rfl, Tab.get_set_self ..⟩))
  by_cases h0 : (0 : Fin 64) = i
  · subst h0; exact .inr (.inl ⟨rfl, by rw [Tab.get_set_ne _ _ h1, Tab.get_set_self]⟩)
  by_cases h63 : (63 : Fin 64) = i
  · subst h63
    exact .inl ⟨rfl, by rw [Tab.get_set_ne _ _ h1, Tab.get_set_ne _ _ h0, Tab.get_set_self]⟩
  refine .inr (.inr (.inr ⟨Ne.symm h63, Ne.symm h0, Ne.symm h1, ?_⟩))
  rw [Tab.get_set_ne _ _ h1, Tab.get_set_ne _ _ h0, Tab.get_set_ne _ _ h63, Tab.get_fill]

theorem three_lawful : three.StoreLawful where
  config := by constructor <;> decide
  messages i m h := by
    rcases three_get i with ⟨-, e⟩ | ⟨-, e⟩ | ⟨-, e⟩ | ⟨-, -, -, e⟩ <;> rw [e] at h <;> cases h <;>
      constructor <;> decide
  ids i j m n hi hj h := by
    rcases three_get i with ⟨rfl, e⟩ | ⟨rfl, e⟩ | ⟨rfl, e⟩ | ⟨-, -, -, e⟩ <;> rw [e] at hi <;> cases hi <;>
      rcases three_get j with ⟨rfl, f⟩ | ⟨rfl, f⟩ | ⟨rfl, f⟩ | ⟨-, -, -, f⟩ <;> rw [f] at hj <;> cases hj <;>
        first | rfl | exact absurd h (by decide)
  lead i := by
    rw [show three.lead = some 63 from rfl]
    rcases three_get i with ⟨rfl, e⟩ | ⟨rfl, e⟩ | ⟨rfl, e⟩ | ⟨h, -, -, e⟩
    · exact ⟨fun _ => ⟨_, e, rfl⟩, fun _ => rfl⟩
    · rw [e]
      exact ⟨fun h => absurd h (by decide), by rintro ⟨m, hm, hs⟩; cases hm; cases hs⟩
    · rw [e]
      exact ⟨fun h => absurd h (by decide), by rintro ⟨m, hm, hs⟩; cases hm; cases hs⟩
    · rw [e]
      exact ⟨fun k => absurd (Option.some.inj k).symm h, by rintro ⟨m, hm, -⟩; cases hm⟩
  follow i := by
    rw [show three.follow = some 0 from rfl]
    rcases three_get i with ⟨rfl, e⟩ | ⟨rfl, e⟩ | ⟨rfl, e⟩ | ⟨-, h, -, e⟩
    · rw [e]
      exact ⟨fun h => absurd h (by decide), by rintro ⟨m, hm, hs⟩; cases hm; cases hs⟩
    · exact ⟨fun _ => ⟨_, e, rfl⟩, fun _ => rfl⟩
    · rw [e]
      exact ⟨fun h => absurd h (by decide), by rintro ⟨m, hm, hs⟩; cases hm; cases hs⟩
    · rw [e]
      exact ⟨fun k => absurd (Option.some.inj k).symm h, by rintro ⟨m, hm, -⟩; cases hm⟩
  behind j hj := by
    obtain rfl : 0 = j := by simpa [three] using hj
    refine ⟨63, rfl, fun m n hm hn => ?_⟩
    rcases three_get 63 with ⟨-, e⟩ | ⟨h, -⟩ | ⟨h, -⟩ | ⟨h, -⟩
    · rcases three_get 0 with ⟨h, -⟩ | ⟨-, f⟩ | ⟨h, -⟩ | ⟨-, h, -⟩
      · exact absurd h (by decide)
      · rw [e] at hm; rw [f] at hn; cases hm; cases hn; exact Nat.le_refl _
      · exact absurd h (by decide)
      · exact absurd rfl h
    · exact absurd h (by decide)
    · exact absurd h (by decide)
    · exact absurd rfl h
  travel i m h := by
    rcases three_get i with ⟨-, e⟩ | ⟨-, e⟩ | ⟨-, e⟩ | ⟨-, -, -, e⟩ <;> rw [e] at h <;> cases h <;> decide
  queued c i := by
    rcases three_get i with ⟨rfl, e⟩ | ⟨rfl, e⟩ | ⟨rfl, e⟩ | ⟨-, -, h, e⟩ <;> cases c <;>
      simp_all [three, messageAt, MessageUnit.queue, r0, State.reset, State.initial, MessageUnit.initial]
  once c := by cases c <;> decide

theorem witness_QueueHoldStaysLawful_store :
    three.StoreLawful ∧ step (r0.withMessage three) = .next (idle (r0.withMessage three)) := ⟨three_lawful, rfl⟩

/-! ## Reports, and what a close, a start and a pulse do besides -/

/-- Both report writes taken, so that the reports generated wait in the queue. -/
def stuck (s : State) : State :=
  s.withBus { s.bus with reportWrites := List.replicate 2 { entry := 0, data := [] } }

/-- The kinds of the reports that wait after a command, with their subjects. -/
def posted (c : Instr) (s : State) : List (ReportKind × Nat) :=
  (after c (stuck s)).cmd.queue.map fun r => (r.kind, r.subject)

/-! ### Clips at a slot close -/

/-- `c` with `n` slots in its ring. -/
def slots (n : Nat) (s : State) : State :=
  capturing { s.capture with source := { s.capture.source with slotCount := n } }

/-- Three of four slots may be held, two are: the close may join; of three slots two are the limit. -/
theorem witness_ClipOffered :
    TakesClose (clipped recording 31 .opened).capture 31 ∧ TakesClose (clipped recording 0 .closing).capture 0 ∧
    (∀ i, ¬ TakesClose recording i) ∧
    (let c := (clipped recording 31 .opened).capture
     c.heldCount + 1 ≤ c.source.slotCount - 1 ∧ (c.slots.get 2).held = false) ∧
    (let c := (slots 3 (clipped recording 31 .opened)).capture
     ¬ (c.heldCount + 1 ≤ c.source.slotCount - 1) ∧ (c.slots.get 2).held = false) ∧
    (∀ m : Fin 1024, m.val < 2 → ((clipped recording 31 .opened).capture.slots.get m).held = true) := by
  unfold TakesClose; decide +kernel

/-- R141, R143: the closed slot joins an OPEN clip, and a CLOSING one, which is then CLOSED; beyond the law of holds the
clip is CLOSED with CLIP_LIMIT behind SLOT_PARTIAL, and the slot, which nothing holds, is opened again. -/
theorem test_clip_join :
    (let t := after (.recordFramePulse .rising) (clipped recording 31 .opened)
     (t.capture.clips.get 31).state = .opened ∧ (t.capture.clips.get 31).length = 3 ∧ (t.slot 2).clipHolds = 1 ∧
     t.capture.newest = some 3) ∧
    (let t := after (.recordFramePulse .rising) (clipped recording 31 .closing)
     (t.capture.clips.get 31).state = .closed ∧ (t.capture.clips.get 31).length = 3) ∧
    (let t := after (.recordFramePulse .rising) (slots 3 (clipped recording 31 .opened))
     (t.capture.clips.get 31).state = .closed ∧ (t.capture.clips.get 31).length = 2 ∧
     t.capture.newest = some 2 ∧ (t.slot 2).captureNumber = 3) ∧
    posted (.recordFramePulse .rising) (slots 3 (clipped recording 31 .opened)) =
      [(.slotPartial, 2), (.clipLimit, 31)] := by decide +kernel

/-- R131: RECORD_STOP offers the slot and leaves the clip CLOSED. -/
theorem test_recordStop_clip :
    (let t := after (.recordStop hd) (clipped recording 31 .opened)
     (t.capture.clips.get 31).state = .closed ∧ (t.capture.clips.get 31).length = 3 ∧ t.capture.recorder = .off) ∧
    posted (.recordStop hd) (clipped recording 31 .opened) = [(.slotPartial, 2), (.done, 0x41)] := by decide +kernel

/-- R145: SOFT_RESET closes the slot PARTIAL though every line is covered; R182: a moment's saved fields are gone. -/
theorem test_softReset_recording :
    (let s := clipped { recording with slots := recording.slots.modify 2 fun t => { t with lines := [0, 1, 2, 3] } }
       31 .opened
     let t := after (.softReset hd) s
     (t.slot 2).verdict = .partialVerdict ∧ (t.slot 2).state = .partialState ∧ (t.slot 2).clipHolds = 1 ∧
     (t.capture.clips.get 31).state = .closed ∧
     posted (.softReset hd) s = [(.slotPartial, 2), (.done, 9)]) ∧
    (let s := r0.setPanel 7 { Panel.initial with
       state := .moment, shown := some 5, count := 4, savedState := .held, savedEntry := some 6, savedProgress := 2 }
     (after (.softReset hd) s).panel 7 = { Panel.initial with showing := 1 }) := by decide +kernel

/-! ### Frame closes -/

/-- `showing` with panel 2 in state `st` at count `n`, and the target of entry 5. -/
def rotated (st : PanelState) (n dwell target : Nat) : State :=
  let s := showing [1, 0]
  let t := s.setPanel 2 { Panel.initial with
    state := st, shown := some 5, count := n, listLength := 2, savedState := .rotating, savedEntry := some 6
    savedProgress := 1 }
  t.withSponsor { t.sponsor with
    entries := (t.sponsor.entries.set 5 { SponsorEntry.initial with enabled := true, dwell := dwell, target := target }).set 6
      { SponsorEntry.initial with enabled := true, dwell := 9 }
    lists := (t.sponsor.lists.set 64 5).set 65 6 }

theorem witness_PanelDecided :
    (let x := (rotated .rotating 0 1 0).panel 2
     x.state = .rotating ∧ x.listLength ≤ 32 ∧
     (((rotated .rotating 0 1 0).sponsor.latches.get 0).get 2).showing = x.showing) ∧
    Eligible (rotated .rotating 0 1 0) 2 5 ∧
    ((rotated .moment 1 1 0).panel 2).savedState = .rotating ∧
    (0 < ((rotated .held 0 1 1).entry 5).target ∧ ((rotated .held 0 1 1).entry 5).fulfilled = false) := by
  unfold Eligible; decide +kernel

/-- R175, R176: at its dwell the panel advances to position 1, below it stays with its count raised; the last frame of a
moment brings the saved fields back. -/
theorem test_rotation :
    (let x := (after (.zonePulse 0 .rising) (rotated .rotating 0 1 0)).panel 2
     x.position = 1 ∧ x.shown = some 6 ∧ x.count = 0 ∧ x.showing = 1) ∧
    (let x := (after (.zonePulse 0 .rising) (rotated .rotating 0 2 0)).panel 2
     x.position = 0 ∧ x.shown = some 5 ∧ x.count = 1 ∧ x.showing = 0) ∧
    (let x := (after (.zonePulse 0 .rising) (rotated .moment 1 1 0)).panel 2
     x.state = .rotating ∧ x.shown = some 6 ∧ x.count = 1 ∧ x.savedState = .stopped) ∧
    ((after (.zonePulse 0 .rising) (rotated .moment 2 1 0)).panel 2).count = 1 := by decide +kernel

/-- R177, R179: the first exposure fulfils a target of 1, with its report behind FRAME. -/
theorem test_fulfilled :
    ((after (.zonePulse 0 .rising) (rotated .held 0 1 1)).entry 5).fulfilled = true ∧
    ((after (.zonePulse 0 .rising) (rotated .held 0 1 2)).entry 5).fulfilled = false ∧
    posted (.zonePulse 0 .rising) (rotated .held 0 1 1) = [(.frame, 0), (.entryFulfilled, 5)] := by decide +kernel

/-- R174: in an alert frame a clear and served panel is OCCLUDED, and nothing rotates. -/
theorem test_alert_frame :
    let s := rotated .rotating 0 1 0
    let t := after (.zonePulse 0 .rising)
      (s.withComp { s.comp with alertLatch := s.comp.alertLatch.set 0 true })
    (t.counters.occluded.get 2).value = 1 ∧ (t.counters.exposed.get 5).value = 0 ∧ t.panel 2 = s.panel 2 := by
  decide +kernel

/-- R82, R195: the record names its windows; the mentions are those of the crawl record of the frame that closes. -/
theorem test_close_record :
    ((showing [1]).closeRecord 0).marks.map (·.window) = [0] ∧
    (let s := showing [0, 1]
     let crawl (frame : Count) : State :=
       let t := s.withComp { s.comp with
         active := s.comp.active.modify 0 fun t => t.modify 0 (Option.map fun w => { w with kind := .crawl }) }
       let record : CrawlRecord :=
         { zone := 0, frame := frame, alert := false, crawlWidth := 160
           items := [{ sponsor := some 9, travel := 4, width := 160 }] }
       t.withMessage { t.message with record := some record }
     (crawl 5).mentionList 0 ((crawl 5).closeRecord 0) = [9] ∧
     (crawl 4).mentionList 0 ((crawl 4).closeRecord 0) = []) := by decide +kernel

/-- R58: REGAINED at a pulse out of LOST. -/
theorem test_regained :
    posted (.zonePulse 0 .rising) (inZone0 .lost .restart []) = [(.regained, 0)] ∧
    posted (.zonePulse 0 .rising) (inZone0 .scanning .restart []) = [(.frame, 0)] := by decide +kernel

/-! ### Millisecond pulses -/

/-- Zone 0 one millisecond from its loss, over `u`. -/
def losing (u : TimingUnit) : State :=
  let s := inZone0 .scanning .restart [0, 1]
  (s.setZone 0 { s.zone 0 with lossTimer := some 99 }).withTiming u

/-- A mark at 500 with `action`, on panel 7 for entry 6 and 30 frames. -/
def marked (value : Nat) (action : MarkAction) : State :=
  clocked fun u => { u with
    state := .running, value := value
    marks := u.marks.set 3
      { enabled := true, value := 500, action := action, panel := 7, entry := 6, frames := 30, fired := false } }

theorem witness_MillisecondPulse_parts :
    LossDue ((losing r0.timing).zone 0) ∧
    MarkFires .down 501 500 ((marked 501 .moment).timing.marks.get 3) ∧
    ¬ MarkFires .down 500 499 ((marked 500 .moment).timing.marks.get 3) ∧
    (marked 501 .moment).timing.value ≤ 5999000 ∧
    (holding (messageAt .queued 1) (some 1)).message.hold = some 1 := by
  unfold MarkFires; decide +kernel

/-- R54, R55: a loss counts FRAMES, SHORT and LOST; R104: its reports stand before those of the clock. -/
theorem test_loss :
    (let t := after .msPulse (losing r0.timing)
     ((List.finRange 4).map fun k => (t.counters.get (zoneCounter 0 k)).value) = [1, 1, 0, 1] ∧
     (t.zone 0).state = .lost) ∧
    posted .msPulse (losing (runningAt .down 1).timing) = [(.frame, 0), (.lost, 0), (.expired, 0)] := by
  decide +kernel

/-- R120, R173: a MOMENT action forces the panel, once the clock has passed the mark. -/
theorem test_mark :
    (let x := (after .msPulse (marked 501 .moment)).panel 7
     x.state = .moment ∧ x.shown = some 6 ∧ x.count = 30 ∧ x.savedState = .stopped) ∧
    posted .msPulse (marked 501 .moment) = [(.mark, 3)] ∧ posted .msPulse (marked 500 .moment) = [] ∧
    (after .msPulse (marked 501 .reportHorn)).timing.hornG.remaining = 1000 := by decide +kernel

/-- R118: POSS_EXPIRED before STOPPED; R194, R197: EXPIRED of a message before the renewal of the hold. -/
theorem test_pulse_reports :
    posted .msPulse (clocked fun u =>
      { u with state := .running, value := 500, possEnabled := true, possValue := 1, stopGame := true }) =
      [(.possExpired, 0), (.stopped, 0)] ∧
    posted .msPulse (holding (messageAt .queued 1) none) = [(.expired, 42)] ∧
    (let s := (stored 48).withMessage { (stored 48).message with hold := some 1 }
     posted .msPulse s = [(.queueHold, 0)] ∧ (after .msPulse s).message.hold = some 9000) := by decide +kernel

/-! ### The walk of a pixel -/

/-- A glyph list of a keyed CLOCK window above a keyed SCORE window, at the top left granule of zone 0. -/
def layered : State :=
  let s := inZone0 .scanning .restart []
  let w : Window := { Window.initial with
    enabled := true, kind := .clock, height := 4, width := 3, render := .keyed, scale := 1, foreground := 1 }
  let t := s.withComp { s.comp with
    active := s.comp.active.set 0
      (((Tab.fill 16 none).set 0 (some { w with kind := .score, render := .opaqueCells, background := 7 })).set 1 (some w)) }
  t.withGlyph { t.glyph with
    latches := t.glyph.latches.set 0 (some t.content)
    store := t.glyph.store.set ⟨32 * 24, by decide⟩ 0x8000
    colours := (t.glyph.colours.set 1 9).set 7 8 }

/-- R74: the CLOCK window sets the first pixel; it lets the second through, and the SCORE window is not consulted. -/
theorem witness_ComposedPixels_walk :
    let p := (layered.zone 0).place 0x1000
    let l := layered.glyphList 0 p
    l.map (·.1) = [1, 0] ∧ (consulted l).map (·.1) = [1] ∧
    (consulted (l.drop 1)).map (·.1) = [0] ∧
    ((∀ w ∈ consulted l, LetsThrough layered 0 p 0 1 w) ∧ layered.walk 0 p 0 1 false l = none) ∧
    (∀ w ∈ consulted l, (layered.glyph.pixel 0 w.2 (w.2.column p 0 0) (p.line - w.2.top)).isSome = true) ∧
    layered.walk 0 p 0 0 false l = some 9 ∧ layered.walk 0 p 0 1 false (l.drop 1) = some 8 := by
  unfold LetsThrough; decide +kernel

/-- R78 on the original address: some pixels decided, none decided, and, without the CLOCK window, all decided. -/
theorem test_outcomes :
    layered.compose 0 0x1000 1 = .remap 0x1000 (some [some 9, none]) ∧
    layered.compose 0 0x1100 1 = .passThrough ∧
    (layered.withComp { layered.comp with active := layered.comp.active.modify 0 fun t => t.set 1 none }).compose 0
      0x1000 1 = .synthesize [8, 8] := by decide +kernel

/-! ### The worked case of sections 4.6 and 4.8 -/

def workedSponsor : Window :=
  { Window.initial with
    enabled := true, kind := .sponsor, binding := 1, top := 0, height := 200, left := 200, width := 40 }

def workedReplay : Window :=
  { Window.initial with enabled := true, kind := .replay, top := 540, height := 1080, left := 60, width := 120 }

/-- Windows 1, 2 and 9 of zone 0, panel 1 and slot 5 latched; the latched text is spaces, whose row 10 starts with a set
bit. -/
def worked : State :=
  let s := r0.setZone 0 { (inZone0 .scanning .restart []).zone 0 with
    base := 0x100000000, pitch := 15360, lines := 2160, width := 240 }
  let clock : Window := { Window.initial with
    enabled := true, kind := .clock, top := 680, height := 48, left := 76, width := 10, scale := 2, foreground := 7 }
  let set := (((Tab.fill 16 none).set 1 (some clock)).set 2 (some workedSponsor)).set 9 (some workedReplay)
  let image : Image := { base := 0x300000000, pitch := 2560, lines := 150, width := 40 }
  let source := { s.capture.source with
    pitch := 7680, lines := 1080, width := 120, ringBase := 0x400000000, stride := 0x2000000 }
  let t := (((s.withComp { s.comp with active := s.comp.active.set 0 set }).withCapture
    { s.capture with source := source }).withPlayer
    { s.player with latched := s.player.latched.set 0 (some 5) }).withSponsor
    { s.sponsor with latches := s.sponsor.latches.modify 0 fun l => l.modify 1 fun p => { p with image := image } }
  t.withGlyph { t.glyph with
    latches := t.glyph.latches.set 0 (some { t.content with gameText := [32, 32, 32, 32, 32] })
    store := t.glyph.store.set ⟨32 * 24 + 10, by decide⟩ 0x8000, colours := t.glyph.colours.set 7 77 }

/-- A window that covers the read, with no window of its kind at a lower number, is the highest of its kind. -/
theorem highestAt_of {s : State} {z : Fin 4} {p : ReadPlace} {k : WindowKind} {i : Fin 16} {w : Window}
    (h : CoversAt s z p i w ∧ w.kind = k)
    (lower : ∀ j, j < i → ((s.comp.active.get z).get j).all (fun v => v.kind != k) = true) :
    HighestAt s z p k i w := by
  refine ⟨h.1, h.2, fun j v hv hk => ?_⟩
  by_contra hj
  have := lower j (by omega)
  rw [hv.1] at this
  simp [hk] at this

/-- No window of a kind covers a read of a line above the top of each. -/
theorem noneAt_of {s : State} {z : Fin 4} {p : ReadPlace} {k : WindowKind}
    (below : ∀ j, (((s.comp.active.get z).get j).all fun v => v.kind != k || p.line < v.top) = true) :
    NoneAt s z p k := by
  intro i w hc hk
  have := below i
  rw [hc.1] at this
  simp only [Option.all_some, Bool.or_eq_true, bne_iff_ne, decide_eq_true_eq] at this
  exact this.elim (· hk) fun h => absurd hc.2.2.2.2.1 (by omega)

theorem witness_SourceChosen :
    HighestAt worked 0 { line := 199, granule := 239, beat := 0 } .sponsor 2 workedSponsor ∧
    workedSponsor.binding.toNat = (1 : Fin 8).val ∧
    HighestAt worked 0 { line := 540, granule := 60, beat := 0 } .replay 9 workedReplay ∧
    worked.player.latched.get 0 = some 5 ∧ NoneAt worked 0 { line := 539, granule := 60, beat := 0 } .replay ∧
    NoneAt r0 0 { line := 540, granule := 60, beat := 0 } .sponsor ∧ r0.player.latched.get 0 = none := by
  refine ⟨highestAt_of ?_ (by decide +kernel), by decide +kernel, highestAt_of ?_ (by decide +kernel),
    by decide +kernel, noneAt_of (by decide +kernel), noneAt_of (by decide +kernel), by decide +kernel⟩ <;>
  · unfold CoversAt; decide +kernel

/-- R75, R76, R78: the three reads of section 4.6, the clock setting the first two pixels of the first. -/
theorem test_worked_reads :
    worked.compose 0 0x100A42400 8 = .remap 0x40A12C500 (some ([some 77, some 77] ++ List.replicate 14 none)) ∧
    worked.compose 0 0x1002A64A0 2 = .synthesize [0, 0, 0, 0] ∧
    worked.compose 0 (0x100000000 + 100 * 15360 + 210 * 64 + 32) 2 = .remap 0x30003EAA0 none := by decide +kernel

theorem witness_Translates :
    let image : Image := { base := 0xFFFFFF000, pitch := 2048, lines := 2, width := 32 }
    let w : Window := { workedReplay with top := 0, left := 0, cropTop := 1, cropLeft := 31 }
    let p : ReadPlace := { line := 0, granule := 0, beat := 7 }
    Machine.translate w image p 1 = some 0xFFFFFFFF8 ∧ Machine.translate w image p 2 = none ∧
    Machine.translate w image { p with line := 1 } 1 = none ∧ Machine.translate w image { p with granule := 1 } 1 = none := by
  decide +kernel

theorem witness_AlertApplyProbe_probe :
    AreaHolds 0xFFFFFFF8 r0 ∧ ¬ AreaHolds 0x100000000 r0 ∧ (∀ z, ¬ ZoneHolds z 0xFFFFFFF8 worked) ∧
    (¬ AreaHolds 0x100000000 worked ∧ ZoneHolds 0 0x100000000 worked) ∧
    ZoneHolds 0 (0x100000000 + 2160 * 15360 - 8) worked ∧ ¬ ZoneHolds 0 (0x100000000 + 2160 * 15360) worked ∧
    ((worked.zone 0).width ≤ (placeOf { worked.zone 0 with pitch := 15424 } 0x100003C00).granule) ∧
    (placeOf (worked.zone 0) 0x100003BF8).granule < (worked.zone 0).width := by decide +kernel

/-- The worked PROBE of section 4.8, and OUTSIDE, ORIGINAL and FILL. -/
theorem test_probe :
    (worked.probe 0x100A42400).bytes =
      [0, 0xBC, 2, 80, 0, 0, 3, 9, 0, 0xC5, 0x12, 0x0A, 4, 1, 0xFF, 0xFF, 0] ∧
    (worked.probe 0xFFFFFFF8).bytes = List.replicate 6 0xFF ++ [0] ++ List.replicate 9 0xFF ++ [0] ∧
    ((worked.probe 0x100000008).bytes.drop 5).take 7 = [1, 2, 0xFF, 8, 0, 0, 0] ∧
    ((worked.probe 0x1002A64A0).bytes.drop 6).take 3 = [4, 2, 0xFF] := by decide +kernel

/-- The worked strip of section 5.8: x = 2,900 is drawn in the LEAD's colour, x = 3,200 and row 48 are clear, x = 3,300
takes the foreground. -/
theorem test_crawl_strip :
    let content (length travel : Nat) (colour : Option (Fin 16)) : CrawlContent :=
      { text := Tab.fill 160 32, length, travel, colour }
    let g : GlyphRenderer := { r0.glyph with
      store := r0.glyph.store.set ⟨32 * 24 + 15, by decide⟩ 2
      latches := r0.glyph.latches.set 0
        (some { r0.content with lead := some (content 10 1000 (some 5)), follow := some (content 12 600 none) }) }
    let w : Window := { Window.initial with kind := .crawl, width := 240, scale := 2, foreground := 9 }
    [(2900, 30), (3200, 30), (3300, 30), (2900, 48), (2899, 30), (2898, 30), (2902, 30)].map (fun q => g.pixel 0 w q.1 q.2) =
      [some 5, none, some 9, none, none, none, none] := by decide +kernel

/-! ### The player and the crawl at a frame start -/

/-- R160: PAUSED_BY_ALERT at a frame start of the pace zone, with policy PAUSE. -/
theorem witness_PausedByAlert :
    let s := after (.alertOn hd) (paced fun p => { p with state := .playing, position := 9, shownPosition := 3 })
    PausedByAlert 0 s ∧ ¬ PausedByAlert 1 s ∧ ¬ PausedByAlert 0 (paced fun p => { p with state := .playing }) ∧
    posted (.zonePulse 0 .rising) s = [(.pausedByAlert, 0)] ∧
    (after (.zonePulse 0 .rising) s).player.position = 3 := by
  unfold PausedByAlert; decide +kernel

/-- A LEAD that passes the strip at this frame start, `m`, with `n` behind it on the crawl. -/
def passing (m : Message) (n : Option Message) : State :=
  let s := crawling { m with state := .lead, travel := m.travel }
  s.withMessage { s.message with
    store := s.message.store.set 0 (n.map fun n => { n with id := 7, state := .follow })
    follow := n.map fun _ => 0 }

/-- The message of `crawling`, whose last pixel leaves the strip at travel W + 160. -/
def leaving : Message := { messageAt .lead 9 with travel := r0.message.config.width + 160 - 4 }

theorem witness_CrawlFrames_finish :
    StartsFrame 1 .rising (passing leaving (some (messageAt .follow 9))) ∧
    (let u := (passing leaving none).message
     u.config.width + wide (passing leaving none) leaving ≤ leaving.travel + u.config.speed ∧
     ¬ u.config.width + wide (passing leaving none) leaving ≤ leaving.travel + u.config.speed - 1) ∧
    OnCrawl (passing leaving none).message.lead (passing leaving none) 63 leaving ∧
    (passing leaving (some (messageAt .follow 9))).message.follow = some 0 := by
  unfold StartsFrame State.Running Covered OnCrawl; decide +kernel

/-- R191: the last repeat retires, an earlier one goes round again with a new order, an expiring one expires, and FOLLOW
becomes LEAD; R190: a withdrawing LEAD leaves first. -/
theorem test_crawl_finish :
    posted (.zonePulse 1 .rising) (passing leaving none) = [(.retired, 42)] ∧
    posted (.zonePulse 1 .rising) (passing { leaving with expiring := true } none) = [(.expired, 42)] ∧
    posted (.zonePulse 1 .rising) (passing { leaving with withdrawing := true } none) = [(.withdrawn, 42)] ∧
    (let u := (after (.zonePulse 1 .rising) (passing { leaving with repeats := 2 } (some (messageAt .follow 9)))).message
     u.lead = some 0 ∧ u.fan = [63] ∧ u.follow = none ∧
     (u.store.get 63).map (fun m => (m.repeats, m.travel, m.order)) = some (1, 0, 1)) := by decide +kernel

/-- R193: under an alert an expiring LEAD leaves with EXPIRED and the FOLLOW goes back to its queue; two kept messages
stand LEAD first. -/
theorem test_crawl_suspended :
    (let s := after (.alertOn hd) (passing { leaving with expiring := true } (some (messageAt .follow 9)))
     posted (.zonePulse 1 .rising) s = [(.expired, 42)] ∧
     (after (.zonePulse 1 .rising) s).message.fan = [0]) ∧
    (after (.zonePulse 1 .rising) (after (.alertOn hd) (passing leaving (some (messageAt .follow 9))))).message.fan =
      [63, 0] := by decide +kernel

/-- R35: a staged pointer steps on in the STAGED view; R155: CUE_CLOCK takes the newest of two equal clocks. -/
theorem test_staged_and_equals :
    (Pointer.stagedWindow 15).step = .stagedWindow 0 ∧
    (let c := { recorded with slots := recorded.slots.modify 1 fun t => { t with clock := 5000 } }
     (after (.cueClock hd 5000 1) (capturing c)).player.first = some 1) := by decide +kernel

/-! ## The queue -/

theorem test_step_runs_the_front :
    step (r0.withPending [.tableLockChange true, .msPulse]) =
      .next (locked (r0.withPending [.msPulse])) := rfl

/-- R103: the cycle that brings the accumulator to the reference rate makes the pulse, and no other. -/
theorem test_idle_pulse :
    (idle (clocked fun u => { u with accumulator := 9999000 })).timing.uptime = 1 ∧
    (idle (clocked fun u => { u with accumulator := 9999000 })).timing.accumulator = 0 ∧
    (idle r0).timing.uptime = 0 := by decide +kernel

end Sys2Proof.Tests
end

section
/-! SUPPORT. REPORT_ACK (R30): what it comes to when accepted and when refused, and ATTN after it (R29). -/

namespace Sys2Proof.Machine

/-! ## C, P and ATTN on the report path -/

@[simp] theorem withReportPath_consumer (s : State) (p : ReportPath) :
    (s.withReportPath p).cmd.consumer = s.cmd.consumer := rfl

@[simp] theorem withReportPath_producer (s : State) (p : ReportPath) :
    (s.withReportPath p).cmd.producer = s.cmd.producer := rfl

@[simp] theorem withReportPath_attn (s : State) (p : ReportPath) :
    (s.withReportPath p).attn = s.attn := rfl

/-- R29. -/
theorem attn_iff (s : State) : s.attn = true ↔ s.cmd.producer ≠ s.cmd.consumer := bne_iff_ne

/-- A command answered with DONE after the reports had their chance to move has changed the report path alone. -/
theorem moveReports_done_shape (s : State) (code : Nat) (unit : UnitId) (h : Header) (clamped : Bool)
    (payload : List Byte) (atEnd : Bool) :
    ∃ p, (moveReports s).done code unit h clamped payload atEnd = s.withReportPath p := by
  obtain ⟨p, hp⟩ := moveReports_shape s
  obtain ⟨q, hq⟩ := offer_shape
    (if h.quiet then [] else [(moveReports s).doneReport code unit h clamped payload atEnd]) (moveReports s)
  exact ⟨q, by rw [State.done, hq, hp, withReportPath_twice]⟩

/-- A refusal leaves ATTN as it was: its report is queued, and P waits for the write. -/
theorem refuse_attn (s : State) (code : Nat) (unit : UnitId) (h : Header) (why : RefusalCode) :
    (s.refuse code unit h why).attn = s.attn := by
  obtain ⟨p, hp⟩ : ∃ p, s.refuse code unit h why = s.withReportPath p := offer_shape _ s
  rw [hp, withReportPath_attn]

/-! ## The test of R30 -/

/-- The distance from C on the ring of 64, as R30 writes it. -/
theorem ringDistance_toNat (x c : BitVec 6) : (x - c).toNat = (x.toNat + 64 - c.toNat) % 64 := by
  rw [BitVec.toNat_sub]
  omega

theorem ackAccepted_iff (c : CommandUnit) (index : BitVec 6) :
    c.ackAccepted index = true ↔
      (index.toNat + 64 - c.consumer.toNat) % 64 ≤ (c.producer.toNat + 64 - c.consumer.toNat) % 64 := by
  simp only [CommandUnit.ackAccepted, decide_eq_true_eq, ringDistance_toNat]

/-- The operand byte of REPORT_ACK names a place of the ring no further than P. -/
def CommandUnit.AckInRange (c : CommandUnit) (index : Byte) : Prop :=
  index.toNat ≤ 63 ∧
    (index.toNat + 64 - c.consumer.toNat) % 64 ≤ (c.producer.toNat + 64 - c.consumer.toNat) % 64

/-- The model tests the six bits of the operand, and these are the operand once it is at most 63. -/
theorem ackTest_iff (c : CommandUnit) (index : Byte) :
    (index.toNat ≤ 63 ∧ c.ackAccepted (index.setWidth 6) = true) ↔ c.AckInRange index := by
  refine and_congr_right fun hle => ?_
  have hindex : (index.setWidth 6).toNat = index.toNat := by
    rw [BitVec.toNat_setWidth]
    exact Nat.mod_eq_of_lt (by omega)
  rw [ackAccepted_iff, hindex]

theorem not_ackInRange_iff (c : CommandUnit) (index : Byte) :
    ¬ c.AckInRange index ↔
      63 < index.toNat ∨
        (c.producer.toNat + 64 - c.consumer.toNat) % 64 < (index.toNat + 64 - c.consumer.toNat) % 64 := by
  rw [CommandUnit.AckInRange, not_and_or, Nat.not_le, Nat.not_le]

/-! ## The command -/

theorem exec_reportAck (h : Header) (index : Byte) {s : State} (hrun : s.Running) :
    exec (.reportAck h index) s = .next (takeReportAck h index s) :=
  congrArg Host.Outcome.next (whileRunning_running _ hrun)

theorem takeReportAck_accepted (h : Header) {index : Byte} {s : State} (hin : s.cmd.AckInRange index) :
    takeReportAck h index s =
      (moveReports (s.withCmd { s.cmd with consumer := index.setWidth 6 })).done 0x02 .commandUnit h
        false [] := by
  rw [← ackTest_iff, ← BitVec.ofNat_toNat] at hin
  rw [takeReportAck, if_pos hin, acknowledge_ok, BitVec.ofNat_toNat]

theorem takeReportAck_refused (h : Header) {index : Byte} {s : State} (hout : ¬ s.cmd.AckInRange index) :
    takeReportAck h index s = s.refuse 0x02 .commandUnit h .range := by
  rw [← ackTest_iff, ← BitVec.ofNat_toNat] at hout
  rw [takeReportAck, if_neg hout, acknowledge_refuse]

/-- An accepted REPORT_ACK leaves C at the new index and P where it was, so ATTN tells the two apart. -/
theorem takeReportAck_accepted_attn (h : Header) {index : Byte} {s : State}
    (hin : s.cmd.AckInRange index) :
    (takeReportAck h index s).cmd.consumer = index.setWidth 6 ∧
      ((takeReportAck h index s).attn = true ↔ s.cmd.producer ≠ index.setWidth 6) := by
  obtain ⟨p, hp⟩ := moveReports_done_shape (s.withCmd { s.cmd with consumer := index.setWidth 6 })
    0x02 .commandUnit h false [] false
  rw [takeReportAck_accepted h hin, hp, attn_iff, withReportPath_consumer, withReportPath_producer]
  exact ⟨rfl, Iff.rfl⟩

/-- Settles O6, by the two cases of the range test: accepted, the state differs from the one with C replaced by
its report path alone; refused, by the report path alone. -/
theorem reportAck : Obligations.ReportAck := by
  refine ⟨attn_iff, fun h index s hrun => ⟨fun hle hdist => ?accepted, fun hout => ?refused⟩⟩
  case accepted =>
    have hin : s.cmd.AckInRange index := ⟨hle, hdist⟩
    rw [exec_reportAck h index hrun]
    refine ⟨congrArg Host.Outcome.next (takeReportAck_accepted h hin), fun t ht => ?_⟩
    obtain rfl := Host.Outcome.next.inj ht
    exact takeReportAck_accepted_attn h hin
  case refused =>
    have hrefused := takeReportAck_refused h ((not_ackInRange_iff s.cmd index).2 hout)
    rw [exec_reportAck h index hrun, hrefused]
    exact ⟨rfl, refuse_attn s 0x02 .commandUnit h .range⟩

end Sys2Proof.Machine
end

section
/-! SUPPORT. CLOCK_SET and CLOCK_ADJUST (R112, R113): the value a command brings into range, and what the clock
becomes by its state. -/

namespace Sys2Proof.Machine

/-! ## The value brought into range -/

/-- R105: the limit of the clock, by its mode. -/
theorem clockLimit_eq (mode : ClockMode) : clockLimit mode = if mode = .down then 0 else 5999000 := by
  cases mode <;> rfl

/-- A value is cut to `top` exactly when it lies above. -/
theorem min_bne_eq (top v : Nat) : (min top v != v) = decide (top < v) := by
  rw [Bool.eq_iff_iff, bne_iff_ne, decide_eq_true_eq]
  omega

/-- R113: the sum brought into 0 to `top`, and whether it lay outside. -/
theorem addClamped_eq (top value : Nat) (delta : BitVec 32) :
    addClamped top value delta =
      ((max 0 (min (top : Int) (value + delta.toInt))).toNat,
        decide ((value : Int) + delta.toInt < 0 ∨ (top : Int) < value + delta.toInt)) := by
  unfold addClamped
  generalize (value : Int) + delta.toInt = sum
  dsimp only
  split
  next hneg =>
    rw [decide_eq_true (Or.inl hneg), max_eq_left (by omega)]
    rfl
  next hnonneg =>
    split
    next habove =>
      rw [decide_eq_true (Or.inr habove), min_eq_left habove.le, max_eq_right (by omega), Int.toNat_natCast]
    next hwithin =>
      rw [decide_eq_false (not_or_intro hnonneg hwithin), min_eq_right (by omega), max_eq_right (by omega)]

/-! ## The set, by state -/

@[simp] theorem offer_timing (s : State) (rs : List Report) : (s.offer rs).timing = s.timing := by
  obtain ⟨p, hp⟩ := offer_shape rs s
  rw [hp, withReportPath_timing]

/-- A set of a RUNNING clock to its limit: EXPIRED, HORN_G triggered, and one report under the command's tag. -/
theorem setClock_expires (tag : BitVec 16) {v : Nat} {s : State} (hrun : s.timing.state = .running)
    (hlimit : v = clockLimit s.timing.mode) :
    setClock tag v s =
      (s.withTiming
        { s.timing with value := v, state := .expired, hornG := s.timing.hornG.trigger }).offer
        [s.report .timing tag .expired 0 (leBytes 1 s.timing.mode.number ++ leBytes 4 v)] := by
  simp only [setClock, hrun, if_pos hlimit]
  rfl

/-- Any other set: the value, and STOPPED for an EXPIRED clock that leaves its limit. -/
theorem setClock_keeps (tag : BitVec 16) {v : Nat} {s : State}
    (hkeep : ¬ (s.timing.state = .running ∧ v = clockLimit s.timing.mode)) :
    setClock tag v s =
      s.withTiming
        { s.timing with
          value := v
          state := if s.timing.state = .expired ∧ v ≠ clockLimit s.timing.mode then .stopped
            else s.timing.state } := by
  cases hstate : s.timing.state with
  | stopped => simp [setClock, hstate]
  | running =>
    have hne : v ≠ clockLimit s.timing.mode := fun hv => hkeep ⟨hstate, hv⟩
    simp [setClock, hstate, hne]
  | expired =>
    by_cases hv : v = clockLimit s.timing.mode
    · simp [setClock, hstate, hv]
    · rw [if_pos (And.intro rfl hv)]
      simp only [setClock, hstate, if_neg hv]
      rfl

/-- The EXPIRED payload gives the mode in one byte. -/
theorem leBytes_clockMode (mode : ClockMode) :
    leBytes 1 mode.number = if mode = .down then [0] else [1] := by
  cases mode <;> rfl

/-- A set and its DONE, which carries the value and the state the set left. -/
theorem setClock_done (code : Nat) (h : Header) (v : Nat) (clamped : Bool) (s : State) :
    (setClock h.tag v s).done code .timing h clamped (clockPayload (setClock h.tag v s).timing) =
      clockSetTo code h v clamped s := by
  unfold clockSetTo
  dsimp only
  rw [← clockLimit_eq, ← leBytes_clockMode]
  by_cases hexpires : s.timing.state = .running ∧ v = clockLimit s.timing.mode
  · obtain ⟨hrun, hlimit⟩ := hexpires
    rw [if_pos ⟨hrun, hlimit⟩, setClock_expires h.tag hrun hlimit, offer_timing]
    rfl
  · rw [if_neg hexpires, setClock_keeps h.tag hexpires]
    rfl

/-! ## The commands -/

theorem exec_clockSet (h : Header) (value : BitVec 32) {s : State} (hrun : s.Running) :
    exec (.clockSet h value) s = .next (takeClockSet h value s) :=
  congrArg Host.Outcome.next (whileRunning_running _ hrun)

theorem exec_clockAdjust (h : Header) (delta : BitVec 32) {s : State} (hrun : s.Running) :
    exec (.clockAdjust h delta) s = .next (takeClockAdjust h delta s) :=
  congrArg Host.Outcome.next (whileRunning_running _ hrun)

theorem takeClockSet_eq (h : Header) (value : BitVec 32) (s : State) :
    takeClockSet h value s =
      clockSetTo 0x23 h (min 5999000 value.toNat) (decide (5999000 < value.toNat)) s := by
  rw [takeClockSet, acknowledge_done, setClock_done, min_bne_eq]
  rfl

theorem takeClockAdjust_eq (h : Header) (delta : BitVec 32) (s : State) :
    takeClockAdjust h delta s =
      clockSetTo 0x24 h (max 0 (min 5999000 ((s.timing.value : Int) + delta.toInt))).toNat
        (decide ((s.timing.value : Int) + delta.toInt < 0 ∨
          5999000 < (s.timing.value : Int) + delta.toInt)) s := by
  rw [takeClockAdjust, acknowledge_done, setClock_done, addClamped_eq]
  rfl

/-- Settles O38: each command brings its value into range and then sets the clock, and a set is one of two cases,
a RUNNING clock brought to its limit or not. -/
theorem clockSetAndAdjust : Obligations.ClockSetAndAdjust := by
  intro h value delta s hrun
  exact ⟨by rw [exec_clockSet h value hrun, takeClockSet_eq],
    by rw [exec_clockAdjust h delta hrun, takeClockAdjust_eq]⟩

end Sys2Proof.Machine
end

section
/-! SUPPORT. What an operation may touch: the blocks of the state it changes, the report path apart, and the units
whose reports it generates. Each operation is said once; every invariant of a block then needs only the operations
that touch the block. -/

namespace Sys2Proof.Machine

/-! ## Blocks -/

/-- The blocks of the state. Those of the bus path and the command unit leave out what the travel of reports
changes. -/
inductive Block where
  | pending
  | pins
  | bus
  | cmd
  | counters
  | zones
  | comp
  | glyph
  | timing
  | capture
  | player
  | sponsor
  | message
  | free
deriving DecidableEq

/-- `t` has that block of `s`. -/
def Block.Same (s t : State) : Block → Prop
  | .pending => t.pending = s.pending
  | .pins => t.pins = s.pins
  | .bus => t.bus = { s.bus with reportWrites := t.bus.reportWrites }
  | .cmd => t.cmd =
      { s.cmd with
        nextEntry := t.cmd.nextEntry, producer := t.cmd.producer, consumer := t.cmd.consumer
        oddLap := t.cmd.oddLap, queue := t.cmd.queue, lost := t.cmd.lost }
  | .counters => t.counters = s.counters
  | .zones => t.zones = s.zones
  | .comp => t.comp = s.comp
  | .glyph => t.glyph = s.glyph
  | .timing => t.timing = s.timing
  | .capture => t.capture = s.capture
  | .player => t.player = s.player
  | .sponsor => t.sponsor = s.sponsor
  | .message => t.message = s.message
  | .free => t.free = s.free

theorem Block.Same.refl (s : State) (b : Block) : b.Same s s := by
  cases b <;> rfl

theorem Block.Same.trans {s t u : State} {b : Block} (h : b.Same s t) (k : b.Same t u) : b.Same s u := by
  cases b <;> dsimp only [Block.Same] at h k ⊢
  case bus => rw [k, h]
  case cmd => rw [k, h]
  all_goals exact k.trans h

/-- What the travel of reports changes leaves every block. -/
theorem Block.same_withReportPath (s : State) (p : ReportPath) (b : Block) :
    b.Same s (s.withReportPath p) := by
  cases b <;> rfl

/-! ## The report wire -/

/-- What decides where a report goes, and what its travel changes: the report path with P and C. -/
def State.wire (s : State) : ReportPath × BitVec 6 × BitVec 6 :=
  (s.reportPath, s.cmd.producer, s.cmd.consumer)

theorem wire_eq_iff {s t : State} : s.wire = t.wire ↔
    (s.cmd.queue = t.cmd.queue ∧ s.cmd.lost = t.cmd.lost ∧ s.cmd.nextEntry = t.cmd.nextEntry ∧
      s.cmd.oddLap = t.cmd.oddLap ∧ s.bus.reportWrites = t.bus.reportWrites) ∧
    s.cmd.producer = t.cmd.producer ∧ s.cmd.consumer = t.cmd.consumer := by
  simp [State.wire, State.reportPath]

theorem canMove_congr {s t : State} (h : s.wire = t.wire) : s.canMove = t.canMove := by
  obtain ⟨⟨hq, -, hn, -, hw⟩, -, hc⟩ := wire_eq_iff.1 h
  unfold State.canMove CommandUnit.unacknowledged
  rw [hq, hn, hc, hw]

theorem moveReport_wire {s t : State} (h : s.wire = t.wire) :
    (moveReport s).wire = (moveReport t).wire := by
  obtain ⟨⟨hq, hl, hn, ho, hw⟩, hp, hc⟩ := wire_eq_iff.1 h
  unfold moveReport
  rw [hq]
  split
  · exact h
  · simp [State.wire, State.reportPath, State.withCmd, State.withBus, hl, hn, ho, hw, hp, hc]

theorem moveUpTo_wire (n : Nat) {s t : State} (h : s.wire = t.wire) :
    (moveUpTo n s).wire = (moveUpTo n t).wire := by
  induction n generalizing s t with
  | zero => exact h
  | succ n ih =>
    simp only [moveUpTo, canMove_congr h]
    split
    · exact ih (moveReport_wire h)
    · exact h

theorem moveReports_wire {s t : State} (h : s.wire = t.wire) :
    (moveReports s).wire = (moveReports t).wire := by
  have hq : s.cmd.queue = t.cmd.queue := (wire_eq_iff.1 h).1.1
  rw [moveReports, moveReports, hq]
  exact moveUpTo_wire _ h

theorem enqueue_wire (r : Report) {s t : State} (h : s.wire = t.wire) :
    (enqueue r s).wire = (enqueue r t).wire := by
  obtain ⟨⟨hq, hl, hn, ho, hw⟩, hp, hc⟩ := wire_eq_iff.1 h
  have hjoin : (s.withCmd { s.cmd with queue := s.cmd.queue ++ [r] }).wire =
      (t.withCmd { t.cmd with queue := t.cmd.queue ++ [r] }).wire := by
    simp [State.wire, State.reportPath, State.withCmd, hq, hl, hn, ho, hw, hp, hc]
  unfold enqueue
  rw [hq] at hjoin ⊢
  split
  · dsimp only
    split
    · exact moveReports_wire hjoin
    · exact hjoin
  · simp [State.wire, State.reportPath, State.withCmd, hq, hn, ho, hw, hp, hc]

theorem offer_wire (rs : List Report) {s t : State} (h : s.wire = t.wire) :
    (s.offer rs).wire = (t.offer rs).wire := by
  induction rs generalizing s t with
  | nil => exact h
  | cons r rs ih => exact ih (enqueue_wire r h)

/-! ## Operations -/

/-- `t` comes from `s` by a change of the blocks `B` alone, with reports of the units `U`. -/
structure Acts (B : List Block) (U : List UnitId) (s t : State) : Prop where
  same : ∀ b, b ∉ B → b.Same s t
  sent : ∃ rs : List Report, (∀ r ∈ rs, r.unit ∈ U) ∧ t.wire = (s.offer rs).wire

/-- Every unit. -/
def UnitId.all : List UnitId :=
  [.busPath, .commandUnit, .zoneTiming, .compositor, .glyphRenderer, .timing, .capture, .player,
   .sponsor, .message]

@[simp] theorem UnitId.mem_all (u : UnitId) : u ∈ UnitId.all := by
  cases u <;> decide

section
variable {B : List Block} {U : List UnitId} {s t u : State}

theorem Acts.refl (B : List Block) (U : List UnitId) (s : State) : Acts B U s s :=
  ⟨fun b _ => .refl s b, [], by simp, rfl⟩

theorem Acts.trans (h : Acts B U s t) (k : Acts B U t u) : Acts B U s u := by
  obtain ⟨rs, hrs, hs⟩ := h.sent
  obtain ⟨qs, hqs, ht⟩ := k.sent
  refine ⟨fun b hb => (h.same b hb).trans (k.same b hb), rs ++ qs, ?_, ?_⟩
  · simpa [or_imp, forall_and] using And.intro hrs hqs
  · rw [ht, offer_wire qs hs, offer_append]

theorem Acts.mono {B' : List Block} {U' : List UnitId} (h : Acts B U s t) (hB : ∀ b ∈ B, b ∈ B')
    (hU : ∀ u ∈ U, u ∈ U') : Acts B' U' s t := by
  obtain ⟨rs, hrs, hs⟩ := h.sent
  exact ⟨fun b hb => h.same b fun hm => hb (hB b hm), rs, fun r hr => hU _ (hrs r hr), hs⟩

/-- A change of blocks that leaves the report wire. -/
theorem Acts.silent (hsame : ∀ b, b ∉ B → b.Same s t) (hwire : t.wire = s.wire) : Acts B U s t :=
  ⟨hsame, [], by simp, hwire⟩

theorem Acts.offer (h : Acts B U s t) (rs : List Report) (hrs : ∀ r ∈ rs, r.unit ∈ U) :
    Acts B U s (t.offer rs) := by
  refine h.trans ⟨fun b _ => ?_, rs, hrs, rfl⟩
  obtain ⟨p, hp⟩ := offer_shape rs t
  rw [hp]
  exact Block.same_withReportPath t p b

theorem Acts.enqueue (h : Acts B U s t) (r : Report) (hr : r.unit ∈ U) :
    Acts B U s (Machine.enqueue r t) :=
  h.offer [r] (by simpa using hr)

theorem Acts.post (h : Acts B U s t) {unit : UnitId} (hu : unit ∈ U) (tag : BitVec 16)
    (kind : ReportKind) (code subject : Nat) (payload : List Byte) :
    Acts B U s (Machine.post unit tag kind code subject payload t) :=
  h.enqueue _ hu

/-- One block replaced. -/
theorem Acts.replace (h : Acts B U s t) {c : Block} (hc : c ∈ B) (hu : ∀ b, b ≠ c → b.Same t u)
    (hwire : u.wire = t.wire) : Acts B U s u :=
  h.trans (.silent (fun b hb => hu b fun e => hb (e ▸ hc)) hwire)

theorem Acts.withPending (h : Acts B U s t) (x : List Instr) (hb : Block.pending ∈ B) :
    Acts B U s (t.withPending x) :=
  h.replace hb (fun b _ => by cases b <;> trivial) rfl

theorem Acts.withPins (h : Acts B U s t) (x : Pins) (hb : Block.pins ∈ B) :
    Acts B U s (t.withPins x) :=
  h.replace hb (fun b _ => by cases b <;> trivial) rfl

theorem Acts.withCounters (h : Acts B U s t) (x : Counters) (hb : Block.counters ∈ B) :
    Acts B U s (t.withCounters x) :=
  h.replace hb (fun b _ => by cases b <;> trivial) rfl

theorem Acts.withZones (h : Acts B U s t) (x : Tab Zone 4) (hb : Block.zones ∈ B) :
    Acts B U s (t.withZones x) :=
  h.replace hb (fun b _ => by cases b <;> trivial) rfl

theorem Acts.setZone (h : Acts B U s t) (z : Fin 4) (x : Zone) (hb : Block.zones ∈ B) :
    Acts B U s (t.setZone z x) := h.withZones _ hb

theorem Acts.withComp (h : Acts B U s t) (x : Compositor) (hb : Block.comp ∈ B) :
    Acts B U s (t.withComp x) :=
  h.replace hb (fun b _ => by cases b <;> trivial) rfl

theorem Acts.withGlyph (h : Acts B U s t) (x : GlyphRenderer) (hb : Block.glyph ∈ B) :
    Acts B U s (t.withGlyph x) :=
  h.replace hb (fun b _ => by cases b <;> trivial) rfl

theorem Acts.withTiming (h : Acts B U s t) (x : TimingUnit) (hb : Block.timing ∈ B) :
    Acts B U s (t.withTiming x) :=
  h.replace hb (fun b _ => by cases b <;> trivial) rfl

theorem Acts.withCapture (h : Acts B U s t) (x : Capture) (hb : Block.capture ∈ B) :
    Acts B U s (t.withCapture x) :=
  h.replace hb (fun b _ => by cases b <;> trivial) rfl

theorem Acts.withPlayer (h : Acts B U s t) (x : Player) (hb : Block.player ∈ B) :
    Acts B U s (t.withPlayer x) :=
  h.replace hb (fun b _ => by cases b <;> trivial) rfl

theorem Acts.withSponsor (h : Acts B U s t) (x : Sponsor) (hb : Block.sponsor ∈ B) :
    Acts B U s (t.withSponsor x) :=
  h.replace hb (fun b _ => by cases b <;> trivial) rfl

theorem Acts.setPanel (h : Acts B U s t) (p : Fin 8) (x : Panel) (hb : Block.sponsor ∈ B) :
    Acts B U s (t.setPanel p x) := h.withSponsor _ hb

theorem Acts.setEntry (h : Acts B U s t) (e : Fin 128) (x : SponsorEntry)
    (hb : Block.sponsor ∈ B) : Acts B U s (t.setEntry e x) := h.withSponsor _ hb

theorem Acts.withMessage (h : Acts B U s t) (x : MessageUnit) (hb : Block.message ∈ B) :
    Acts B U s (t.withMessage x) :=
  h.replace hb (fun b _ => by cases b <;> trivial) rfl

theorem Acts.withFree (h : Acts B U s t) (x : Nat) (hb : Block.free ∈ B) :
    Acts B U s (t.withFree x) :=
  h.replace hb (fun b _ => by cases b <;> trivial) rfl

/-- The bus path replaced, the report writes as they are. -/
theorem Acts.withBus (h : Acts B U s t) (x : BusPath) (hx : x.reportWrites = t.bus.reportWrites)
    (hb : Block.bus ∈ B) : Acts B U s (t.withBus x) :=
  h.replace hb (fun b _ => by cases b <;> trivial)
    (by simp [State.wire, State.reportPath, State.withBus, hx])

/-- The command unit replaced, the report path, P and C as they are. -/
theorem Acts.withCmd (h : Acts B U s t) (x : CommandUnit) (hb : Block.cmd ∈ B)
    (hx : x = { t.cmd with caBase := x.caBase, pointer := x.pointer, saturate := x.saturate
                           clearOnSnapshot := x.clearOnSnapshot }) :
    Acts B U s (t.withCmd x) :=
  h.replace hb (fun b _ => by cases b <;> trivial)
    (by rw [hx]; rfl)

/-- Operations one after the other, one for each element of a list. -/
theorem Acts.foldl {α : Type} (h : Acts B U s t) (f : State → α → State) (l : List α)
    (hf : ∀ s x, Acts B U s (f s x)) : Acts B U s (l.foldl f t) := by
  induction l generalizing t with
  | nil => exact h
  | cons x l ih => exact ih (h.trans (hf t x))

/-- Whatever a command comes to is acknowledged with one report at most. -/
theorem Acts.acknowledge (code : Nat) {unit : UnitId} (h : Header) {r : Reply} (hr : Acts B U s (r.state s))
    (hu : unit ∈ U) : Acts B U s (Machine.acknowledge code unit h s r) := by
  cases r with
  | refuse c => exact hr.post hu _ _ _ _ _
  | done t clamped payload atEnd =>
    rw [acknowledge_done]
    exact hr.offer _ (by split <;> simp [State.doneReport, hu])
  | data t => exact hr

theorem Acts.acknowledgeDone (code : Nat) {unit : UnitId} (h : Header) {clamped : Bool} {payload : List Byte}
    {atEnd : Bool} (ht : Acts B U s t) (hu : unit ∈ U) :
    Acts B U s (Machine.acknowledge code unit h s (.done t clamped payload atEnd)) :=
  Acts.acknowledge (r := .done t clamped payload atEnd) code h ht hu

theorem Acts.whileRunning {f : State → State} (h : Acts B U s (f s)) :
    Acts B U s (Machine.whileRunning f s) := by
  unfold Machine.whileRunning
  split
  · exact .refl B U s
  · exact h

end

end Sys2Proof.Machine
end

section
/-! SUPPORT. What each operation of the units touches, in the order of the model's files. -/

namespace Sys2Proof.Machine

/-! ## Counters -/

theorem count_acts {B : List Block} {U : List UnitId} {s t : State} (h : Acts B U s t) (id : CounterId)
    (hu : id.owner ∈ U) (hb : Block.counters ∈ B) : Acts B U s (count id t) := by
  unfold count
  dsimp only
  split
  · exact (h.withCounters _ hb).post hu _ _ _ _ _
  · exact h.withCounters _ hb

/-! ## The timing unit -/

section timing

/-- What the timing unit's own operations touch. -/
abbrev TimingActs (s t : State) : Prop := Acts [.timing] [.timing] s t

theorem triggerHorn_acts {s t : State} (h : TimingActs s t) (which : HornId) :
    TimingActs s (triggerHorn which t) := by
  cases which <;> exact h.withTiming _ (by decide)

theorem expireClock_acts {s t : State} (h : TimingActs s t) (tag : BitVec 16) :
    TimingActs s (expireClock tag t) :=
  (triggerHorn_acts (h.withTiming _ (by decide)) .game).post (by decide) _ _ _ _ _

theorem setClock_acts (tag : BitVec 16) (v : Nat) (s : State) : TimingActs s (setClock tag v s) := by
  have hv : TimingActs s (s.withTiming { s.timing with value := v }) := (Acts.refl _ _ s).withTiming _ (by decide)
  unfold setClock
  dsimp only
  split
  · exact hv
  · split
    · exact expireClock_acts hv tag
    · exact hv
  · split
    · exact hv
    · exact hv.withTiming _ (by decide)

theorem lineStart_acts (s : State) : TimingActs s (lineStart s) := by
  unfold lineStart
  split
  · exact (Acts.refl _ _ s).withTiming _ (by decide)
  · exact .refl _ _ s

theorem lineStop_acts (s : State) : TimingActs s (lineStop s) := by
  unfold lineStop
  split
  · exact ((Acts.refl _ _ s).withTiming _ (by decide)).post (by decide) _ _ _ _ _
  · exact .refl _ _ s

theorem gcStartEdge_acts (edge : Edge) (s : State) : TimingActs s (gcStartEdge edge s) := by
  unfold gcStartEdge
  split
  · exact .refl _ _ s
  · split
    · exact lineStart_acts s
    · split
      · exact .refl _ _ s
      · exact lineStop_acts s

theorem gcStopEdge_acts (edge : Edge) (s : State) : TimingActs s (gcStopEdge edge s) := by
  unfold gcStopEdge
  split
  · exact lineStop_acts s
  · exact .refl _ _ s

theorem pcResetEdge_acts (edge : Edge) (s : State) : TimingActs s (pcResetEdge edge s) := by
  unfold pcResetEdge
  split
  · exact (Acts.refl _ _ s).withTiming _ (by decide)
  · exact .refl _ _ s

theorem pulseGame_acts (s : State) : TimingActs s (pulseGame s) := by
  have hv : ∀ v, TimingActs s (s.withTiming { s.timing with value := v }) :=
    fun _ => (Acts.refl _ _ s).withTiming _ (by decide)
  unfold pulseGame
  dsimp only
  split
  · split
    · exact expireClock_acts (hv _) 0
    · exact hv _
  · exact .refl _ _ s

theorem stopGameByPossession_acts {s t : State} (h : TimingActs s t) :
    TimingActs s (stopGameByPossession t) := by
  unfold stopGameByPossession
  split
  · exact (h.withTiming _ (by decide)).post (by decide) _ _ _ _ _
  · exact h

theorem pulsePossession_acts (was : Bool) (s : State) : TimingActs s (pulsePossession was s) := by
  have hv : ∀ v, TimingActs s (s.withTiming { s.timing with possValue := v }) :=
    fun _ => (Acts.refl _ _ s).withTiming _ (by decide)
  unfold pulsePossession
  dsimp only
  split
  · split
    · exact stopGameByPossession_acts
        ((triggerHorn_acts (hv _) .possession).post (by decide) _ _ _ _ _)
    · exact hv _
  · exact .refl _ _ s

end timing

/-! ## The compositor -/

theorem reportAlertChange_acts {B : List Block} {U : List UnitId} {s t : State} (h : Acts B U s t)
    (tag : BitVec 16) (before : State) (hu : UnitId.compositor ∈ U) :
    Acts B U s (reportAlertChange tag before t) := by
  unfold reportAlertChange
  split
  · exact h
  · exact h.post hu _ _ _ _ _

theorem markServed_acts (z : Fin 4) (p : ReadPlace) (s : State) : Acts [.comp] [] s (markServed z p s) := by
  unfold markServed
  split
  · exact .refl _ _ s
  · exact (Acts.refl _ _ s).withComp _ (by decide)

/-! ## The sponsor unit -/

section sponsor

/-- What the accounting of a frame close touches. -/
abbrev SponsorActs (s t : State) : Prop := Acts [.sponsor, .counters] [.sponsor] s t

theorem sponsorActs_of_shape {s t : State} (h : ∃ x, t = s.withSponsor x) : SponsorActs s t := by
  obtain ⟨x, rfl⟩ := h
  exact (Acts.refl _ _ s).withSponsor x (by decide)

theorem fulfil_acts (e : Fin 128) (cause : Nat) (p : Option (Fin 8)) (s : State) :
    SponsorActs s (fulfil e cause p s) := by
  unfold fulfil
  split
  · exact ((Acts.refl _ _ s).setEntry _ _ (by decide)).post (by decide) _ _ _ _ _
  · exact .refl _ _ s

theorem expose_acts (e : Fin 128) (cause : Nat) (p : Option (Fin 8)) (s : State) :
    SponsorActs s (expose e cause p s) :=
  (count_acts (.refl _ _ s) (.exposed e) (List.mem_singleton_self _) (by decide)).trans (fulfil_acts e cause p _)

theorem settlePanel_acts (z : Fin 4) (r : CloseRecord) (s : State) (p : Fin 8) :
    SponsorActs s (settlePanel z r s p) := by
  have hcount : SponsorActs s (count (.occluded p) s) :=
    count_acts (.refl _ _ s) (.occluded p) (List.mem_singleton_self _) (by decide)
  unfold settlePanel
  dsimp only
  split
  · exact .refl _ _ s
  split
  · exact hcount
  split
  · refine Acts.trans ?_ ((sponsorActs_of_shape (progress_shape _ p _)).trans
      (sponsorActs_of_shape (decision_shape p _)))
    split
    · exact expose_acts _ _ _ s
    · exact .refl _ _ s
  · exact hcount.trans (sponsorActs_of_shape (decision_shape p _))

theorem settlePanels_acts (z : Fin 4) (r : CloseRecord) (s : State) :
    SponsorActs s (settlePanels z r s) :=
  (Acts.refl _ _ s).foldl _ _ (settlePanel_acts z r)

theorem creditMentions_acts (l : List (Fin 128)) (s : State) : SponsorActs s (creditMentions l s) := by
  refine (Acts.refl _ _ s).foldl _ _ fun t e => ?_
  split
  · exact expose_acts _ _ _ t
  · exact .refl _ _ t

theorem requestMoment_acts (m : Mark) (s : State) : Acts [.timing, .sponsor] [.timing] s (requestMoment m s) := by
  unfold requestMoment
  split
  · exact (Acts.refl _ _ s).setPanel _ _ (by decide)
  · exact .refl _ _ s

theorem fireMark_acts (before : Nat) (i : Fin 4) (s : State) :
    Acts [.timing, .sponsor] [.timing] s (fireMark before i s) := by
  have hfired : ∀ x p, Acts [.timing, .sponsor] [.timing] s
      (post .timing 0 .mark 0 i.val p (s.withTiming x)) :=
    fun x _ => ((Acts.refl _ _ s).withTiming x (by decide)).post (by decide) _ _ _ _ _
  unfold fireMark
  dsimp only
  split
  · split
    · exact hfired _ _
    · exact (hfired _ _).withTiming _ (by decide)
    · exact (hfired _ _).trans (requestMoment_acts _ _)
  · exact .refl _ _ s

theorem fireMarks_acts (was : Bool) (before : Nat) (s : State) :
    Acts [.timing, .sponsor] [.timing] s (fireMarks was before s) := by
  unfold fireMarks
  split
  · exact (Acts.refl _ _ s).foldl _ _ fun t i => fireMark_acts before i t
  · exact .refl _ _ s

end sponsor

/-! ## The player -/

section player

/-- What the player's reactions to a frame start touch. -/
abbrev PlayerActs (s t : State) : Prop := Acts [.player] [.player] s t

theorem playerActs_of_shape {s t : State} (h : ∃ x, t = s.withPlayer x) : PlayerActs s t := by
  obtain ⟨x, rfl⟩ := h
  exact (Acts.refl _ _ s).withPlayer x (by decide)

theorem applyAlertPolicy_acts (latch : Bool) (s : State) : PlayerActs s (applyAlertPolicy latch s) := by
  unfold applyAlertPolicy
  split
  · exact ((Acts.refl _ _ s).withPlayer _ (by decide)).post (by decide) _ _ _ _ _
  · exact .refl _ _ s

theorem playerFrameStart_acts (z : Fin 4) (s : State) : PlayerActs s (playerFrameStart z s) := by
  unfold playerFrameStart latchSlot
  dsimp only
  refine Acts.withPlayer ?_ _ (by decide)
  split
  · exact ((applyAlertPolicy_acts _ s).trans (playerActs_of_shape (paceSelection_shape _ _))).trans
      (playerActs_of_shape (paceAdvance_shape _))
  · exact .refl _ _ s

end player

/-! ## The message unit -/

section message

/-- What the message unit's operations touch. -/
abbrev MessageActs (s t : State) : Prop := Acts [.message] [.message] s t

variable {s t : State}

theorem testHold_acts (h : MessageActs s t) (tag : BitVec 16) : MessageActs s (testHold tag t) := by
  unfold testHold
  dsimp only
  split
  · split
    · exact (h.withMessage _ (by decide)).post (by decide) _ _ _ _ _
    · exact h
  · split
    · split
      · exact (h.withMessage _ (by decide)).post (by decide) _ _ _ _ _
      · exact h.withMessage _ (by decide)
    · exact h

theorem pulseHoldTimer_acts (h : MessageActs s t) : MessageActs s (pulseHoldTimer t) := by
  unfold pulseHoldTimer
  split
  · exact h
  · split
    · exact (h.withMessage _ (by decide)).post (by decide) _ _ _ _ _
    · exact h.withMessage _ (by decide)

theorem removeWith_acts (h : MessageActs s t) (tag : BitVec 16) (i : Fin 64) {report : State → State}
    (hr : ∀ {t}, MessageActs s t → MessageActs s (report t)) :
    MessageActs s (removeWith tag i report t) :=
  testHold_acts (hr (h.withMessage _ (by decide))) tag

theorem postMessageExpired_acts (h : MessageActs s t) (m : Message) :
    MessageActs s (postMessageExpired m t) := h.post (by decide) _ _ _ _ _

theorem postRetired_acts (h : MessageActs s t) (m : Message) : MessageActs s (postRetired m t) :=
  h.post (by decide) _ _ _ _ _

theorem postWithdrawn_acts (h : MessageActs s t) (tag : BitVec 16) (removal : Nat) (m : Message) :
    MessageActs s (postWithdrawn tag removal m t) := h.post (by decide) _ _ _ _ _

theorem promote_acts (h : MessageActs s t) : MessageActs s (promote t) := by
  unfold promote
  split
  · exact h.withMessage _ (by decide)
  · exact h

theorem withdrawAt_acts (h : MessageActs s t) (place : Option (Fin 64)) {vacate : State → State}
    (hv : MessageActs s (vacate t)) : MessageActs s (withdrawAt place vacate t) := by
  unfold withdrawAt
  split
  · exact h
  · split
    · split
      · exact removeWith_acts hv _ _ fun h => postWithdrawn_acts h _ _ _
      · exact h
    · exact h

theorem crawlWithdrawals_acts (s : State) : MessageActs s (crawlWithdrawals s) := by
  have hlead : MessageActs s (withdrawAt s.message.lead clearLead s) :=
    withdrawAt_acts (.refl _ _ s) _ ((Acts.refl _ _ s).withMessage _ (by decide))
  exact promote_acts (withdrawAt_acts hlead _ (hlead.withMessage _ (by decide)))

theorem suspendExpiring_acts (h : MessageActs s t) (place : Option (Fin 64)) :
    MessageActs s (suspendExpiring place t) := by
  unfold suspendExpiring
  split
  · exact h
  · split
    · split
      · exact removeWith_acts h _ _ fun h => postMessageExpired_acts h _
      · exact h
    · exact h

theorem returnToHead_acts (h : MessageActs s t) (place : Option (Fin 64)) :
    MessageActs s (returnToHead place t) := by
  unfold returnToHead
  split
  · exact h
  · split
    · exact h.withMessage _ (by decide)
    · exact h

theorem suspendCrawl_acts (h : MessageActs s t) : MessageActs s (suspendCrawl t) :=
  returnToHead_acts (returnToHead_acts (suspendExpiring_acts (suspendExpiring_acts
    ((h.withMessage _ (by decide)).withMessage _ (by decide)) _) _) _) _

theorem advanceAt_acts (h : MessageActs s t) (place : Option (Fin 64)) :
    MessageActs s (advanceAt place t) := by
  unfold advanceAt
  split
  · exact h
  · exact h.withMessage _ (by decide)

theorem finishLead_acts (h : MessageActs s t) : MessageActs s (finishLead t) := by
  unfold finishLead
  split
  · exact h
  · split
    · exact h
    · split
      · have hclear : MessageActs s (clearLead t) := h.withMessage _ (by decide)
        dsimp only
        split
        · exact promote_acts (removeWith_acts hclear _ _ fun h => postMessageExpired_acts h _)
        · split
          · exact promote_acts (removeWith_acts hclear _ _ fun h => postRetired_acts h _)
          · exact promote_acts (hclear.withMessage _ (by decide))
      · exact h

theorem crawlAdvance_acts (h : MessageActs s t) : MessageActs s (crawlAdvance t) :=
  finishLead_acts (finishLead_acts (advanceAt_acts (advanceAt_acts h _) _))

theorem crawlAdmit_acts (h : MessageActs s t) : MessageActs s (crawlAdmit t) := by
  unfold crawlAdmit
  split
  · split
    · exact h
    · split
      · exact h
      · exact h.withMessage _ (by decide)
  · exact h

theorem crawlFrameStart_acts (z : Fin 4) (s : State) : MessageActs s (crawlFrameStart z s) := by
  have hw := crawlWithdrawals_acts s
  unfold crawlFrameStart
  split
  · refine Acts.withMessage ?_ _ (by decide)
    split
    · exact suspendCrawl_acts hw
    · exact crawlAdmit_acts (crawlAdvance_acts hw)
  · exact .refl _ _ s

theorem expireAt_acts (i : Fin 64) (s : State) : MessageActs s (expireAt i s) := by
  have hremove : ∀ m, MessageActs s (postMessageExpired m (s.withMessage (s.message.remove i))) :=
    fun m => postMessageExpired_acts ((Acts.refl _ _ s).withMessage _ (by decide)) m
  have hmark : ∀ m : Message, MessageActs s (if m.expiring ∨ m.withdrawing then s
      else s.withMessage (s.message.update i fun m => { m with expiring := true })) := by
    intro m
    split
    · exact .refl _ _ s
    · exact (Acts.refl _ _ s).withMessage _ (by decide)
  unfold expireAt
  split
  · exact .refl _ _ s
  · split
    · split
      · exact hremove _
      · exact hremove _
      · exact hmark _
      · exact hmark _
    · exact .refl _ _ s

theorem pulseMessages_acts (s : State) : MessageActs s (pulseMessages s) :=
  pulseHoldTimer_acts (testHold_acts ((Acts.refl _ _ s).foldl _ _ fun t i => expireAt_acts i t) 0)

end message

/-! ## Frames -/

section frames

theorem countClose_acts (z : Fin 4) (complete loss : Bool) (s : State) :
    Acts [.counters] [.zoneTiming] s (countClose z complete loss s) := by
  have hcount : ∀ {t} k, Acts [.counters] [.zoneTiming] s t →
      Acts [.counters] [.zoneTiming] s (count (zoneCounter z k) t) :=
    fun k h => count_acts h _ (List.mem_singleton_self _) (by decide)
  have hframed : Acts [.counters] [.zoneTiming] s
      (if (s.zone z).level = .everyFrame then postFrame z complete loss s else s) := by
    split
    · exact (Acts.refl _ _ s).post (by decide) _ _ _ _ _
    · exact .refl _ _ s
  unfold countClose
  dsimp only
  split
  · exact hcount 0 hframed
  · exact hcount 1 (hcount 0 hframed)

theorem discardCrawlRecord_acts (z : Fin 4) (s : State) :
    Acts [.message] [] s (discardCrawlRecord z s) := by
  unfold discardCrawlRecord
  split
  · exact .refl _ _ s
  · split
    · exact (Acts.refl _ _ s).withMessage _ (by decide)
    · exact .refl _ _ s

/-- What the consumers' part of a frame close touches. -/
theorem closeReactions_acts (z : Fin 4) (s : State) :
    Acts [.sponsor, .counters, .comp, .message] [.sponsor] s (closeReactions z s) := by
  have hsettled := (settlePanels_acts z (s.closeRecord z) s).trans
    (creditMentions_acts (s.mentionList z (s.closeRecord z)) _)
  exact ((hsettled.mono (by decide) (by decide)).trans
    ((discardCrawlRecord_acts z _).mono (by decide) (by decide))).withComp _ (by decide)

theorem closeByPulse_acts (z : Fin 4) (s : State) :
    Acts [.sponsor, .counters, .comp, .message] [.zoneTiming, .sponsor] s (closeByPulse z s) :=
  ((countClose_acts z _ _ s).mono (by decide) (by decide)).trans
    ((closeReactions_acts z _).mono (by decide) (by decide))

/-- What the consumers' part of a frame start touches. -/
theorem startReactions_acts (z : Fin 4) (s : State) :
    Acts [.comp, .player, .sponsor, .message, .glyph] [.player, .message] s (startReactions z s) := by
  have hcomp : Acts [.comp, .player, .sponsor, .message, .glyph] [.player, .message] s
      (composerFrameStart z s) := (Acts.refl _ _ s).withComp _ (by decide)
  exact (((hcomp.trans ((playerFrameStart_acts z _).mono (by decide) (by decide))).withSponsor _ (by decide)).trans
    ((crawlFrameStart_acts z _).mono (by decide) (by decide))).withGlyph _ (by decide)

/-- The blocks a zone pulse touches. -/
def zoneBlocks : List Block := [.zones, .counters, .sponsor, .comp, .message, .player, .glyph]

/-- The units whose reports a zone pulse generates. -/
def zoneUnits : List UnitId := [.zoneTiming, .sponsor, .player, .message]

theorem framePulse_acts (z : Fin 4) (s : State) : Acts zoneBlocks zoneUnits s (framePulse z s) := by
  have hstart : ∀ {t}, Acts zoneBlocks zoneUnits s t →
      Acts zoneBlocks zoneUnits s (startReactions z t) :=
    fun h => h.trans ((startReactions_acts z _).mono (by decide) (by decide))
  have hopen : ∀ {t}, Acts zoneBlocks zoneUnits s t → Acts zoneBlocks zoneUnits s (openFrame z t) :=
    fun h => h.setZone _ _ (by decide)
  unfold framePulse
  dsimp only
  split
  · exact .refl _ _ s
  · exact hstart (hopen (.refl _ _ s))
  · exact hstart ((hopen (.refl _ _ s)).post (by decide) _ _ _ _ _)
  · split
    · exact hstart (hopen ((closeByPulse_acts z s).mono (by decide) (by decide)))
    · refine count_acts ?_ _ (show UnitId.zoneTiming ∈ zoneUnits by decide) (by decide)
      split
      · exact .refl _ _ s
      · exact (Acts.refl _ _ s).post (by decide) _ _ _ _ _

theorem zoneEdge_acts (z : Fin 4) (edge : Edge) (s : State) :
    Acts zoneBlocks zoneUnits s (zoneEdge z edge s) := by
  unfold zoneEdge
  split
  · exact framePulse_acts z s
  · exact .refl _ _ s

/-- The blocks the loss of a zone touches. -/
def lossBlocks : List Block := [.zones, .counters, .sponsor, .comp, .message]

theorem loseZone_acts (z : Fin 4) (s : State) :
    Acts lossBlocks [.zoneTiming, .sponsor] s (loseZone z s) := by
  have hcounted : Acts lossBlocks [.zoneTiming, .sponsor] s
      (count (zoneCounter z 3) (countClose z false true s)) :=
    count_acts ((countClose_acts z _ _ s).mono (by decide) (by decide)) _
      (show UnitId.zoneTiming ∈ [UnitId.zoneTiming, .sponsor] by decide) (by decide)
  unfold loseZone
  dsimp only
  exact (Acts.setZone (hcounted.post (by decide) _ _ _ _ _) z _ (by decide)).trans
    ((closeReactions_acts z _).mono (by decide) (by decide))

theorem pulseZone_acts (z : Fin 4) (s : State) :
    Acts lossBlocks [.zoneTiming, .sponsor] s (pulseZone z s) := by
  unfold pulseZone
  dsimp only
  split
  · exact loseZone_acts z s
  · split
    · exact (Acts.refl _ _ s).setZone _ _ (by decide)
    · exact .refl _ _ s

theorem pulseZones_acts (s : State) : Acts lossBlocks [.zoneTiming, .sponsor] s (pulseZones s) :=
  (Acts.refl _ _ s).foldl _ _ fun t z => pulseZone_acts z t

/-- The blocks a millisecond pulse touches. -/
def pulseBlocks : List Block := [.timing, .zones, .counters, .sponsor, .comp, .message]

/-- What the horns and the two clocks touch at a pulse. -/
theorem pulseClocks_acts (was : Bool) (s : State) :
    Acts [.timing] [.timing] s (pulsePossession was (pulseGame (pulseHorns s))) :=
  (((Acts.refl _ _ s).withTiming _ (by decide)).trans (pulseGame_acts (pulseHorns s))).trans
    (pulsePossession_acts was _)

/-- What a millisecond pulse touches behind the losses. -/
theorem pulse_afterZones (s : State) :
    Acts [.timing, .sponsor, .message] UnitId.all (pulseZones (pulseUptime s)) (pulse s) :=
  (((pulseClocks_acts (s.timing.state == .running) _).mono (by decide) (by decide)).trans
    ((fireMarks_acts _ s.timing.value _).mono (by decide) (by decide))).trans
      ((pulseMessages_acts _).mono (by decide) (by decide))

/-- What a millisecond pulse touches. -/
theorem pulse_acts (s : State) : Acts pulseBlocks UnitId.all s (pulse s) := by
  have hzones : Acts pulseBlocks UnitId.all s (pulseZones (pulseUptime s)) :=
    ((Acts.refl _ _ s).withTiming _ (by decide)).trans ((pulseZones_acts _).mono (by decide) (by decide))
  exact hzones.trans ((pulse_afterZones s).mono (by decide) (by decide))

theorem advanceToPulse_acts (s : State) : Acts pulseBlocks UnitId.all s (advanceToPulse s) :=
  ((Acts.refl _ _ s).withTiming _ (by decide)).trans (pulse_acts _)

theorem refclkCycle_acts (s : State) : Acts pulseBlocks UnitId.all s (refclkCycle s) := by
  unfold refclkCycle
  dsimp only
  split
  · exact ((Acts.refl _ _ s).withTiming _ (by decide)).trans (pulse_acts _)
  · exact (Acts.refl _ _ s).withTiming _ (by decide)

end frames

/-! ## Replay capture -/

section capture

/-- What the recorder's operations touch. -/
abbrev CaptureActs (s t : State) : Prop := Acts [.capture] [.capture] s t

theorem closeSlot_acts (tag : BitVec 16) (cause : CloseCause) (k : Fin 1024) (s : State) :
    CaptureActs s (closeSlot tag cause k s) := by
  have hclosed : ∀ x, CaptureActs s (s.withCapture x) := fun x => (Acts.refl _ _ s).withCapture x (by decide)
  unfold closeSlot
  dsimp only
  split
  · exact hclosed _
  · exact (hclosed _).post (by decide) _ _ _ _ _

theorem joinClip_acts (tag : BitVec 16) (k : Fin 1024) (s : State) : CaptureActs s (joinClip tag k s) := by
  have hjoined : ∀ x, CaptureActs s (s.withCapture x) := fun x => (Acts.refl _ _ s).withCapture x (by decide)
  unfold joinClip
  split
  · exact .refl _ _ s
  · dsimp only
    split
    · exact hjoined _
    · exact (hjoined _).post (by decide) _ _ _ _ _

theorem closeAndJoin_acts (tag : BitVec 16) (cause : CloseCause) (s : State) :
    CaptureActs s (closeAndJoin tag cause s) := by
  unfold closeAndJoin
  split
  · exact .refl _ _ s
  · exact (closeSlot_acts tag cause _ s).trans (joinClip_acts tag _ _)

theorem openSlot_acts (s : State) : CaptureActs s (openSlot s) := by
  unfold openSlot
  split
  · exact .refl _ _ s
  · exact (Acts.refl _ _ s).withCapture _ (by decide)

theorem recordEdge_acts (edge : Edge) (s : State) : CaptureActs s (recordEdge edge s) := by
  unfold recordEdge recordPulse
  split
  · split
    · exact .refl _ _ s
    · exact ((Acts.refl _ _ s).withCapture _ (by decide)).trans (openSlot_acts _)
    · exact (closeAndJoin_acts _ _ s).trans (openSlot_acts _)
  · exact .refl _ _ s

theorem closeClip_acts (s : State) : CaptureActs s (closeClip s) := by
  unfold closeClip
  split
  · exact .refl _ _ s
  · exact (Acts.refl _ _ s).withCapture _ (by decide)

theorem stopRecorder_acts (tag : BitVec 16) (cause : CloseCause) (s : State) :
    CaptureActs s (stopRecorder tag cause s) := by
  unfold stopRecorder
  dsimp only
  refine Acts.withCapture ?_ _ (by decide)
  split
  · exact (closeAndJoin_acts tag cause s).trans (closeClip_acts _)
  · exact closeAndJoin_acts tag cause s

theorem stopPlayer_acts (s : State) : Acts [.capture, .player] [] s (stopPlayer s) :=
  ((Acts.refl _ _ s).withCapture _ (by decide)).withPlayer _ (by decide)

theorem cue_acts {k : Fin 1024} {n : Nat} {s t : State} (h : cue k n s = .ok t) :
    Acts [.capture, .player] [] s t := by
  unfold cue at h
  split at h
  · cases h
  · cases h
    exact ((Acts.refl _ _ s).withCapture _ (by decide)).withPlayer _ (by decide)

end capture

/-! ## SOFT_RESET -/

/-- The blocks SOFT_RESET touches. -/
def softResetBlocks : List Block :=
  [.cmd, .zones, .comp, .glyph, .capture, .player, .sponsor, .message]

theorem softReset_acts (tag : BitVec 16) (s : State) :
    Acts softResetBlocks UnitId.all s (softReset tag s) := by
  have hcomp : Acts softResetBlocks UnitId.all s (softResetCompositor tag (softResetZones s)) :=
    reportAlertChange_acts (((Acts.refl _ _ s).withZones _ (by decide)).withComp _ (by decide)) tag _ (by decide)
  have hcapture : Acts softResetBlocks UnitId.all s
      (softResetCapture tag (softResetRenderer (softResetCompositor tag (softResetZones s)))) :=
    (hcomp.withGlyph _ (by decide)).trans ((stopRecorder_acts tag .softReset _).mono (by decide) (by decide))
  have hsponsor : Acts softResetBlocks UnitId.all s (softResetSponsor (softResetPlayer (softResetCapture tag
      (softResetRenderer (softResetCompositor tag (softResetZones s)))))) :=
    (((hcapture.withCapture _ (by decide)).withPlayer _ (by decide)).withPlayer _ (by decide)).withSponsor _ (by decide)
  exact (hsponsor.trans ((testHold_acts ((Acts.refl _ _ _).withMessage _ (by decide)) tag).mono (by decide)
    (by decide))).withCmd _ (by decide) rfl

/-! ## The bus path -/

theorem withhold_acts (b : Burst) (s : State) : Acts [.bus, .counters] [.busPath] s (withhold b s) := by
  have hheld : ∀ x, Acts [.bus, .counters] [.busPath] s (s.withBus { s.bus with withheld := x }) :=
    fun _ => (Acts.refl _ _ s).withBus _ rfl (by decide)
  unfold withhold
  dsimp only
  split
  · exact count_acts (hheld _) (.path 3) (List.mem_singleton_self _) (by decide)
  · exact hheld _

theorem addEntry_acts {B : List Block} {U : List UnitId} {s t : State} (h : Acts B U s t) (b : Burst)
    (kind : ResponseKind) (data : List Pixel) (complete : Bool) (hb : Block.bus ∈ B) :
    Acts B U s (addEntry b kind data complete t) := h.withBus _ rfl hb

theorem forwardAt_acts {B : List Block} {U : List UnitId} {s t : State} (h : Acts B U s t) (a : BitVec 36)
    (b : Burst) (hb : Block.bus ∈ B) : Acts B U s (forwardAt a b t) := h.withBus _ rfl hb

theorem passThrough_acts {B : List Block} {U : List UnitId} {s t : State} (h : Acts B U s t) (b : Burst)
    (hb : Block.bus ∈ B) : Acts B U s (passThrough b t) := by
  have hforward : Acts B U s (forwardAsIs b t) := forwardAt_acts h _ b hb
  unfold passThrough
  dsimp only
  split
  · exact hforward
  · exact addEntry_acts hforward b _ _ _ hb

theorem actOn_acts (b : Burst) (o : ReadOutcome) {B : List Block} {U : List UnitId} {s t : State}
    (h : Acts B U s t) (hb : Block.bus ∈ B) : Acts B U s (actOn b o t) := by
  unfold actOn
  split
  · exact addEntry_acts (forwardAt_acts h _ b hb) b _ _ _ hb
  · exact addEntry_acts (forwardAt_acts h _ b hb) b _ _ _ hb
  · exact addEntry_acts (forwardAt_acts h _ b hb) b _ _ _ hb
  · exact addEntry_acts h b _ _ _ hb

theorem coverRead_acts (z : Fin 4) (line : Nat) (s : State) :
    Acts [.zones] [] s (coverRead z line s) := by
  unfold coverRead
  dsimp only
  split
  · exact (Acts.refl _ _ s).setZone _ _ (by decide)
  · exact .refl _ _ s

theorem acceptZoneRead_acts (z : Fin 4) (b : Burst) (s : State) :
    Acts [.bus, .zones, .comp] [] s (acceptZoneRead z b s) :=
  actOn_acts b _ (((coverRead_acts z _ s).mono (by decide) (by decide)).trans
    ((markServed_acts z _ _).mono (by decide) (by decide))) (by decide)

theorem queueCopy_acts (k : Fin 1024) (b : Burst) {s t : State}
    (h : Acts [.bus, .capture, .counters] [.busPath] s t) :
    Acts [.bus, .capture, .counters] [.busPath] s (queueCopy k b t) := by
  unfold queueCopy
  split
  · exact count_acts (h.withCapture _ (by decide)) (.path 2) (List.mem_singleton_self _) (by decide)
  · exact (h.withBus _ (by rfl) (by decide)).withCapture _ (by decide)

theorem acceptLiveWrite_acts (b : Burst) (s : State) :
    Acts [.bus, .capture, .counters] [.busPath] s (acceptLiveWrite b s) := by
  have hforward : Acts [.bus, .capture, .counters] [.busPath] s (forwardAsIs b s) :=
    forwardAt_acts (.refl _ _ s) _ b (by decide)
  unfold acceptLiveWrite
  dsimp only
  split
  · exact hforward
  · exact queueCopy_acts _ b (hforward.withCapture _ (by decide))

/-- The blocks the acceptance of a burst touches that carries no command. -/
def burstBlocks : List Block := [.bus, .capture, .counters, .zones, .comp]

/-- The burst is a whole command write (R6). -/
def State.TakesRecord (s : State) (b : Burst) : Prop :=
  s.classify b = .controlArea ∧ b.dir = .write ∧ s.inSlotHalf b = true ∧ isWholeRecord b = true

/-- A whole command write is forwarded, and its record is taken. -/
theorem acceptBurst_record {b : Burst} {s : State} (h : s.TakesRecord b) :
    acceptBurst b s = takeRecord b.data (forwardAsIs b s) := by
  obtain ⟨hclass, hwrite, hhalf, hwhole⟩ := h
  simp [acceptBurst, hclass, acceptControl, hwrite, acceptControlWrite, hhalf, hwhole]

theorem acceptBurst_acts {b : Burst} {s : State} (h : ¬ s.TakesRecord b) :
    Acts burstBlocks [.busPath] s (acceptBurst b s) := by
  have hforward : Acts burstBlocks [.busPath] s (forwardAsIs b s) := forwardAt_acts (.refl _ _ s) _ b (by decide)
  have hpass : Acts burstBlocks [.busPath] s (passThrough b s) := passThrough_acts (.refl _ _ s) b (by decide)
  unfold acceptBurst
  split
  · exact count_acts hpass (.path 0) (List.mem_singleton_self _) (by decide)
  next hclass =>
    unfold acceptControl
    split
    · exact hpass
    next hwrite =>
      unfold acceptControlWrite
      dsimp only
      split
      next hhalf =>
        split
        next hwhole => exact absurd ⟨hclass, hwrite, hhalf, hwhole⟩ h
        next => exact count_acts hforward (.path 1) (List.mem_singleton_self _) (by decide)
      · exact hforward
  · exact (acceptLiveWrite_acts b s).mono (by decide) (by decide)
  · exact (acceptZoneRead_acts _ b s).mono (by decide) (by decide)
  · exact hpass

theorem grantForward_acts (s : State) : Acts [.bus] [] s (grantForward s) := by
  unfold grantForward
  split
  · exact .refl _ _ s
  · exact (Acts.refl _ _ s).withBus _ rfl (by decide)

theorem grantMirror_acts (s : State) : Acts [.bus, .capture] [] s (grantMirror s) := by
  unfold grantMirror
  split
  · exact .refl _ _ s
  · exact ((Acts.refl [.bus, .capture] [] s).withBus _ (by rfl) (by decide)).withCapture _ (by decide)

theorem takeResponse_acts (pixels : List Pixel) (s : State) :
    Acts [.bus, .free] [] s (takeResponse pixels s) :=
  ((Acts.refl [.bus, .free] [] s).withBus _ (by rfl) (by decide)).withFree _ (by decide)

theorem returnResponse_acts (s : State) : Acts [.bus] [] s (returnResponse s) := by
  unfold returnResponse
  split
  · exact .refl _ _ s
  · split
    · exact (Acts.refl _ _ s).withBus _ rfl (by decide)
    · exact .refl _ _ s

end Sys2Proof.Machine
end

section
/-! SUPPORT. What each host command touches, and what a step comes to: a host command, an event of the bus or of a
line, or a millisecond pulse. -/

namespace Sys2Proof.Machine

/-! ## Deposits -/

/-- The state a deposit comes to, before its acknowledgement. -/
def Deposit.state (s : State) : Deposit → State
  | .refuse _ => s
  | .accept t _ => t

/-- The blocks a deposit into the table of a pointer touches. -/
def Pointer.blocks : Pointer → List Block
  | .zone _ => [.zones, .comp]
  | .stagedWindow _ => [.comp]
  | .colour _ | .glyph _ | .layout _ | .alertText _ => [.glyph]
  | .sponsor _ | .panel _ | .panelList _ => [.sponsor]
  | .record => [.capture]
  | .mark _ => [.timing]
  | .activeWindow _ _ | .slot _ | .clip _ | .message _ | .clock => []

theorem depositZone_acts (i : Fin 4) (o : List Byte) (s : State) :
    Acts [.zones, .comp] [] s ((depositZone i o s).state s) := by
  have hwritten : ∀ x, Acts [.zones, .comp] [] s (s.setZone i x) := fun x => (Acts.refl _ _ s).setZone i x (by decide)
  unfold depositZone
  split
  · exact .refl _ _ s
  · dsimp only
    split_ifs
    · exact .refl _ _ s
    · exact .refl _ _ s
    · exact .refl _ _ s
    · exact .refl _ _ s
    · exact hwritten _
    · exact (hwritten _).withComp _ (by decide)

theorem depositWindow_acts (i : Fin 16) (o : List Byte) (s : State) :
    Acts [.comp] [] s ((depositWindow i o s).state s) := by
  unfold depositWindow
  split
  · exact .refl _ _ s
  · split
    · split_ifs
      · exact .refl _ _ s
      · exact (Acts.refl _ _ s).withComp _ (by decide)
    · exact .refl _ _ s

theorem depositLayout_acts (i : Fin 48) (o : List Byte) (s : State) :
    Acts [.glyph] [] s ((depositLayout i o s).state s) := by
  unfold depositLayout
  split
  · exact .refl _ _ s
  · split_ifs
    · exact .refl _ _ s
    · exact (Acts.refl _ _ s).withGlyph _ (by decide)

theorem depositAlertText_acts (i : Fin 8) (o : List Byte) (s : State) :
    Acts [.glyph] [] s ((depositAlertText i o s).state s) := by
  unfold depositAlertText
  split
  · exact .refl _ _ s
  · exact (Acts.refl _ _ s).withGlyph _ (by decide)

theorem depositSponsor_acts (i : Fin 128) (o : List Byte) (tag : BitVec 16) (s : State) :
    Acts [.sponsor] [.sponsor] s ((depositSponsor i o tag s).state s) := by
  have hwritten : ∀ x, Acts [.sponsor] [.sponsor] s (s.setEntry i x) :=
    fun x => (Acts.refl _ _ s).setEntry i x (by decide)
  unfold depositSponsor
  split
  · exact .refl _ _ s
  · dsimp only
    split
    · exact .refl _ _ s
    · split
      · exact .refl _ _ s
      · dsimp only [Deposit.state]
        split
        all_goals
          split
          · exact (hwritten _).post (by decide) _ _ _ _ _
          · exact hwritten _

theorem depositPanel_acts (i : Fin 8) (o : List Byte) (s : State) :
    Acts [.sponsor] [] s ((depositPanel i o s).state s) := by
  unfold depositPanel
  split
  · exact .refl _ _ s
  · split_ifs
    · exact .refl _ _ s
    · exact (Acts.refl _ _ s).setPanel _ _ (by decide)

theorem depositPanelList_acts (i : Fin 256) (o : List Byte) (s : State) :
    Acts [.sponsor] [] s ((depositPanelList i o s).state s) := by
  unfold depositPanelList
  split
  · exact .refl _ _ s
  · exact (Acts.refl _ _ s).withSponsor _ (by decide)

theorem depositRecord_acts (o : List Byte) (s : State) :
    Acts [.capture] [] s ((depositRecord o s).state s) := by
  unfold depositRecord
  split
  · exact .refl _ _ s
  · dsimp only
    split
    · exact .refl _ _ s
    · split
      · exact .refl _ _ s
      · split
        · exact .refl _ _ s
        · exact (Acts.refl _ _ s).withCapture _ (by decide)

theorem depositMark_acts (i : Fin 4) (o : List Byte) (s : State) :
    Acts [.timing] [] s ((depositMark i o s).state s) := by
  unfold depositMark
  split
  · exact .refl _ _ s
  · split_ifs
    · exact .refl _ _ s
    · exact (Acts.refl _ _ s).withTiming _ (by decide)

theorem depositAt_acts (p : Pointer) (o : List Byte) (tag : BitVec 16) (s : State) :
    Acts p.blocks [.sponsor] s ((depositAt p o tag s).state s) := by
  cases p with
  | zone i => exact (depositZone_acts i o s).mono (fun _ h => h) (by decide)
  | stagedWindow i => exact (depositWindow_acts i o s).mono (fun _ h => h) (by decide)
  | colour i => exact (Acts.refl [.glyph] _ s).withGlyph _ (by decide)
  | glyph i => exact (Acts.refl [.glyph] _ s).withGlyph _ (by decide)
  | layout i => exact (depositLayout_acts i o s).mono (fun _ h => h) (by decide)
  | alertText i => exact (depositAlertText_acts i o s).mono (fun _ h => h) (by decide)
  | sponsor i => exact depositSponsor_acts i o tag s
  | panel i => exact (depositPanel_acts i o s).mono (fun _ h => h) (by decide)
  | panelList i => exact (depositPanelList_acts i o s).mono (fun _ h => h) (by decide)
  | record => exact (depositRecord_acts o s).mono (fun _ h => h) (by decide)
  | mark i => exact (depositMark_acts i o s).mono (fun _ h => h) (by decide)
  | activeWindow _ _ | slot _ | clip _ | message _ | clock => exact .refl _ _ s

/-- A DEPOSIT answers what the owner of the table made of it, with the pointer stepped when it was accepted. -/
theorem takeDeposit_acts {B : List Block} (h : Header) (o : List Byte) (s : State)
    (hB : ∀ b ∈ Block.cmd :: s.cmd.pointer.blocks, b ∈ B) : Acts B UnitId.all s (takeDeposit h o s) := by
  refine Acts.acknowledge _ h ?_ (UnitId.mem_all _)
  dsimp only
  have hd := depositAt_acts s.cmd.pointer o h.tag s
  split
  next heq => exact .refl _ _ s
  next t clamped heq =>
    rw [heq] at hd
    exact (hd.mono (fun b hb => hB b (List.mem_cons_of_mem _ hb)) (by simp)).withCmd _
      (hB _ List.mem_cons_self) rfl

/-! ## Host commands -/

/-- The blocks a host command touches. -/
def commandBlocks : Instr → List Block
  | .select .. | .examine .. | .counterMode .. => [.cmd]
  | .deposit .. => [.cmd, .zones, .comp, .glyph, .sponsor, .capture, .timing]
  | .snapshot .. => [.counters]
  | .counterClear .. => [.counters, .sponsor]
  | .softReset .. => softResetBlocks
  | .apply .. | .alertOn .. | .alertOff .. => [.comp]
  | .clockConfig .. | .clockStart .. | .clockStop .. | .clockSet .. | .clockAdjust .. | .clockMode ..
  | .breakOn .. | .breakOff .. | .possConfig .. | .possEnable .. | .possReset .. | .possSet .. | .horn ..
  | .scoreSet .. | .scoreAdd .. | .fieldSet .. | .fieldAdd .. => [.timing]
  | .recordArm .. | .recordStop .. | .clipIn .. | .clipOut .. | .clipFree .. => [.capture]
  | .playerConfig .. | .cueClip .. | .cueRange .. | .cueClock .. | .play .. | .pause .. | .step ..
  | .rate .. | .stop .. => [.capture, .player]
  | .panelStart .. | .panelStop .. | .panelHold .. | .panelForce .. => [.sponsor]
  | .queueConfig .. | .msgOpen .. | .msgText .. | .msgPost .. | .msgWithdraw .. => [.message]
  | _ => []

/-- The reports of a command that moves or pairs reports are not only generated. -/
def onlyPosts : Instr → Bool
  | .examine _ | .reportAck _ _ => false
  | _ => true

section
variable (h : Header) (s : State)

theorem takeClockConfig_acts (f : BitVec 32) (m a b : Byte) (t d : BitVec 32) :
    TimingActs s (takeClockConfig h f m a b t d s) := by
  refine Acts.acknowledge _ h ?_ (by decide)
  split
  · exact (Acts.refl _ _ s).withTiming _ (by decide)
  · exact .refl _ _ s

theorem takeClockStart_acts : TimingActs s (takeClockStart h s) := by
  refine Acts.acknowledge _ h ?_ (by decide)
  split
  · exact (Acts.refl _ _ s).withTiming _ (by decide)
  · exact .refl _ _ s

theorem takeClockStop_acts : TimingActs s (takeClockStop h s) := by
  refine Acts.acknowledge _ h ?_ (by decide)
  split
  · exact ((Acts.refl _ _ s).withTiming _ (by decide)).post (by decide) _ _ _ _ _
  · exact .refl _ _ s

theorem takeClockMode_acts (mode : Byte) : TimingActs s (takeClockMode h mode s) := by
  refine Acts.acknowledge _ h ?_ (by decide)
  split
  · exact .refl _ _ s
  · split
    · exact (Acts.refl _ _ s).withTiming _ (by decide)
    · exact .refl _ _ s

theorem takeBreakOn_acts : TimingActs s (takeBreakOn h s) := by
  refine Acts.acknowledge _ h ?_ (by decide)
  split
  · exact .refl _ _ s
  · exact (Acts.refl _ _ s).withTiming _ (by decide)

theorem takePossConfig_acts (p t : BitVec 32) (g e : Byte) (d : BitVec 32) :
    TimingActs s (takePossConfig h p t g e d s) := by
  refine Acts.acknowledge _ h ?_ (by decide)
  split
  · exact (Acts.refl _ _ s).withTiming _ (by decide)
  · exact .refl _ _ s

theorem takePossEnable_acts (e : Byte) : TimingActs s (takePossEnable h e s) := by
  refine Acts.acknowledge _ h ?_ (by decide)
  split
  · exact .refl _ _ s
  · exact (Acts.refl _ _ s).withTiming _ (by decide)

theorem silenceHorn_acts (which : HornId) : TimingActs s (silenceHorn which s) := by
  cases which <;> exact (Acts.refl _ _ s).withTiming _ (by decide)

theorem takeHorn_acts (w a : Byte) : TimingActs s (takeHorn h w a s) := by
  refine Acts.acknowledge _ h ?_ (by decide)
  split
  next id silence _ _ =>
    cases silence
    · exact triggerHorn_acts (.refl _ _ s) id
    · exact silenceHorn_acts s id
  next => exact .refl _ _ s

theorem takeScoreSet_acts (side : Byte) (v : BitVec 16) : TimingActs s (takeScoreSet h side v s) := by
  refine Acts.acknowledge _ h ?_ (by decide)
  split
  · exact .refl _ _ s
  · exact (Acts.refl _ _ s).withTiming _ (by decide)

theorem takeScoreAdd_acts (side : Byte) (d : BitVec 32) : TimingActs s (takeScoreAdd h side d s) := by
  refine Acts.acknowledge _ h ?_ (by decide)
  split
  · exact .refl _ _ s
  · exact (Acts.refl _ _ s).withTiming _ (by decide)

theorem takeFieldSet_acts (f : Byte) (v : BitVec 16) : TimingActs s (takeFieldSet h f v s) := by
  refine Acts.acknowledge _ h ?_ (by decide)
  split
  · exact .refl _ _ s
  · exact (Acts.refl _ _ s).withTiming _ (by decide)

theorem takeFieldAdd_acts (f : Byte) (d : BitVec 32) : TimingActs s (takeFieldAdd h f d s) := by
  refine Acts.acknowledge _ h ?_ (by decide)
  split
  · exact .refl _ _ s
  · exact (Acts.refl _ _ s).withTiming _ (by decide)

theorem takeRecordArm_acts : CaptureActs s (takeRecordArm h s) := by
  refine Acts.acknowledge _ h ?_ (by decide)
  split
  · exact .refl _ _ s
  · split
    · exact (Acts.refl _ _ s).withCapture _ (by decide)
    · exact .refl _ _ s

theorem takeRecordStop_acts : CaptureActs s (takeRecordStop h s) := by
  refine Acts.acknowledge _ h ?_ (by decide)
  split
  · exact .refl _ _ s
  · exact stopRecorder_acts _ _ s

theorem takeClipIn_acts (tag n : BitVec 16) : CaptureActs s (takeClipIn h tag n s) := by
  refine Acts.acknowledge _ h ?_ (by decide)
  dsimp only
  split
  · exact .refl _ _ s
  · split
    · exact .refl _ _ s
    · split
      · exact .refl _ _ s
      · exact (Acts.refl _ _ s).withCapture _ (by decide)

theorem takeClipOut_acts : CaptureActs s (takeClipOut h s) := by
  refine Acts.acknowledge _ h ?_ (by decide)
  split
  · exact .refl _ _ s
  · exact (Acts.refl _ _ s).withCapture _ (by decide)

theorem takeClipFree_acts (clip : Byte) : CaptureActs s (takeClipFree h clip s) := by
  refine Acts.acknowledge _ h ?_ (by decide)
  split
  · exact .refl _ _ s
  · dsimp only
    split
    · exact .refl _ _ s
    · exact (Acts.refl _ _ s).withCapture _ (by decide)

/-- What the player's commands touch. -/
abbrev CueActs (s t : State) : Prop := Acts [.capture, .player] [.player] s t

theorem cueReply_acts (k : Fin 1024) (n : Nat) (reply : State → Reply)
    (hreply : ∀ t, (reply t).state s = t) :
    CueActs s (Reply.state s (match cue k n s with
      | .error code => .refuse code
      | .ok t => reply t)) := by
  split
  next => exact .refl _ _ s
  next t heq =>
    rw [hreply]
    exact (cue_acts heq).mono (by decide) (by decide)

theorem takePlayerConfig_acts (z e p a : Byte) : CueActs s (takePlayerConfig h z e p a s) := by
  refine Acts.acknowledge _ h ?_ (by decide)
  split
  · split
    · exact .refl _ _ s
    · exact (Acts.refl _ _ s).withPlayer _ (by decide)
  · exact .refl _ _ s

theorem takeCueClip_acts (clip : Byte) : CueActs s (takeCueClip h clip s) := by
  refine Acts.acknowledge _ h ?_ (by decide)
  split
  · exact .refl _ _ s
  · dsimp only
    split
    · exact .refl _ _ s
    · split
      · exact .refl _ _ s
      · split
        · exact .refl _ _ s
        · exact cueReply_acts s _ _ (playerReply false) fun _ => rfl

theorem takeCueRange_acts (first n : BitVec 16) : CueActs s (takeCueRange h first n s) := by
  refine Acts.acknowledge _ h ?_ (by decide)
  split
  · exact .refl _ _ s
  · split
    · exact cueReply_acts s _ _ (playerReply _) fun _ => rfl
    · exact .refl _ _ s

theorem takeCueClock_acts (v : BitVec 32) (n : BitVec 16) : CueActs s (takeCueClock h v n s) := by
  refine Acts.acknowledge _ h ?_ (by decide)
  dsimp only
  split
  · exact .refl _ _ s
  · exact cueReply_acts s _ _ (fun t => .done t _ _ _) fun _ => rfl

theorem takePlay_acts : CueActs s (takePlay h s) := by
  refine Acts.acknowledge _ h ?_ (by decide)
  dsimp only
  split
  · exact (Acts.refl _ _ s).withPlayer _ (by decide)
  · exact (Acts.refl _ _ s).withPlayer _ (by decide)
  · exact (Acts.refl _ _ s).withPlayer _ (by decide)
  · exact .refl _ _ s
  · exact .refl _ _ s

theorem takePause_acts : CueActs s (takePause h s) := by
  refine Acts.acknowledge _ h ?_ (by decide)
  split
  · exact (Acts.refl _ _ s).withPlayer _ (by decide)
  · exact .refl _ _ s

theorem takeStep_acts : CueActs s (takeStep h s) := by
  refine Acts.acknowledge _ h ?_ (by decide)
  split
  · exact (Acts.refl _ _ s).withPlayer _ (by decide)
  · exact .refl _ _ s

/-- What the sponsor unit's commands touch. -/
abbrev PanelActs (s t : State) : Prop := Acts [.sponsor] [.sponsor] s t

theorem startPanel_acts (p : Fin 8) : PanelActs s (startPanel p s) := by
  obtain ⟨x, hx⟩ := search_shape p (startFrom (s.panel p)) (s.setPanel p { s.panel p with state := .rotating })
  unfold startPanel
  dsimp only
  rw [hx]
  exact (((Acts.refl _ _ s).setPanel _ _ (by decide)).withSponsor _ (by decide)).setPanel _ _ (by decide)

theorem takePanelStart_acts (p : Byte) : PanelActs s (takePanelStart h p s) := by
  refine Acts.acknowledge _ h ?_ (by decide)
  split
  · exact .refl _ _ s
  · split
    · exact startPanel_acts s _
    · exact .refl _ _ s

theorem takePanelStop_acts (p : Byte) : PanelActs s (takePanelStop h p s) := by
  refine Acts.acknowledge _ h ?_ (by decide)
  split
  · exact .refl _ _ s
  · exact (Acts.refl _ _ s).setPanel _ _ (by decide)

theorem takePanelHold_acts (p : Byte) : PanelActs s (takePanelHold h p s) := by
  refine Acts.acknowledge _ h ?_ (by decide)
  split
  · exact .refl _ _ s
  · split
    · exact (Acts.refl _ _ s).setPanel _ _ (by decide)
    · exact (Acts.refl _ _ s).setPanel _ _ (by decide)
    · exact .refl _ _ s
    · exact .refl _ _ s

theorem takePanelForce_acts (p e : Byte) (n : BitVec 16) : PanelActs s (takePanelForce h p e n s) := by
  refine Acts.acknowledge _ h ?_ (by decide)
  split
  · exact (Acts.refl _ _ s).setPanel _ _ (by decide)
  · exact .refl _ _ s

theorem takeQueueConfig_acts (z : Byte) (a b c d e f g i : BitVec 16) (n : Byte) :
    MessageActs s (takeQueueConfig h z a b c d e f g i n s) := by
  refine Acts.acknowledge _ h ?_ (by decide)
  split
  · exact .refl _ _ s
  · split
    · exact .refl _ _ s
    · exact testHold_acts ((Acts.refl _ _ s).withMessage _ (by decide)) _

theorem takeMsgOpen_acts (id : BitVec 16) (cls : Byte) (l r t : BitVec 16) (c e : Byte) :
    MessageActs s (takeMsgOpen h id cls l r t c e s) := by
  refine Acts.acknowledge _ h ?_ (by decide)
  split
  · exact .refl _ _ s
  · split
    · exact .refl _ _ s
    · split
      · exact .refl _ _ s
      · split
        · exact .refl _ _ s
        · exact testHold_acts ((Acts.refl _ _ s).withMessage _ (by decide)) _

theorem takeMsgText_acts (id off : BitVec 16) (n : Byte) (codes : List Byte) :
    MessageActs s (takeMsgText h id off n codes s) := by
  refine Acts.acknowledge _ h ?_ (by decide)
  split
  · exact .refl _ _ s
  · split
    · exact .refl _ _ s
    · split
      · exact .refl _ _ s
      · split
        · exact .refl _ _ s
        · exact (Acts.refl _ _ s).withMessage _ (by decide)

theorem takeMsgPost_acts (id : BitVec 16) : MessageActs s (takeMsgPost h id s) := by
  refine Acts.acknowledge _ h ?_ (by decide)
  split
  · exact .refl _ _ s
  · split
    · exact .refl _ _ s
    · exact (Acts.refl _ _ s).withMessage _ (by decide)

theorem takeMsgWithdraw_acts (id : BitVec 16) : MessageActs s (takeMsgWithdraw h id s) := by
  have hmark : ∀ (m : Message) (x : MessageUnit) (p : List Byte), MessageActs s (Reply.state s
      (if m.withdrawing then .refuse .state else .done (s.withMessage x) false p false)) := by
    intro m x p
    split
    · exact .refl _ _ s
    · exact (Acts.refl _ _ s).withMessage _ (by decide)
  refine Acts.acknowledge _ h ?_ (by decide)
  split
  · exact .refl _ _ s
  · split
    · exact removeWith_acts (.refl _ _ s) _ _ fun h => postWithdrawn_acts h _ _ _
    · exact removeWith_acts (.refl _ _ s) _ _ fun h => postWithdrawn_acts h _ _ _
    · exact hmark _ _ _
    · exact hmark _ _ _

theorem takeSnapshot_acts (g : Byte) (first n : BitVec 16) :
    Acts [.counters] UnitId.all s (takeSnapshot h g first n s) := by
  refine Acts.acknowledge _ h ?_ (UnitId.mem_all _)
  split
  · exact .refl _ _ s
  · split
    · exact .refl _ _ s
    · split
      · exact .refl _ _ s
      · unfold Reply.state snapshot
        dsimp only
        refine Acts.offer ?_ _ fun r _ => UnitId.mem_all _
        split
        · exact (Acts.refl _ _ s).withCounters _ (by decide)
        · exact .refl _ _ s

theorem takeCounterMode_acts (o c : Byte) : Acts [.cmd] UnitId.all s (takeCounterMode h o c s) := by
  refine Acts.acknowledge _ h ?_ (UnitId.mem_all _)
  split
  · split
    · exact .refl _ _ s
    · exact (Acts.refl _ _ s).withCmd _ (by decide) rfl
  · exact .refl _ _ s

theorem takeCounterClear_acts : Acts [.counters, .sponsor] UnitId.all s (takeCounterClear h s) := by
  refine Acts.acknowledge _ h ?_ (UnitId.mem_all _)
  split
  · exact .refl _ _ s
  · exact ((Acts.refl _ _ s).withCounters _ (by decide)).withSponsor _ (by decide)

theorem takeSelect_acts (t : Byte) (i : BitVec 16) (v z : Byte) :
    Acts [.cmd] UnitId.all s (takeSelect h t i v z s) := by
  refine Acts.acknowledge _ h ?_ (UnitId.mem_all _)
  split
  · exact .refl _ _ s
  · exact (Acts.refl _ _ s).withCmd _ (by decide) rfl

theorem takeProbe_acts (a : BitVec 40) : Acts [] [.compositor] s (takeProbe h a s) := by
  refine Acts.acknowledge _ h ?_ (by decide)
  split
  · exact (Acts.refl _ _ s).post (by decide) _ _ _ _ _
  · exact .refl _ _ s

end

/-- What a host command touches. -/
theorem takeCommand_acts (c : Instr) (s : State) (hc : onlyPosts c = true) :
    Acts (commandBlocks c) UnitId.all s (takeCommand c s) := by
  have all : ∀ {B U t}, Acts B U s t → Acts B UnitId.all s t :=
    fun h => h.mono (fun _ hb => hb) fun u _ => UnitId.mem_all u
  cases c with
  | examine | reportAck => exact absurd hc Bool.false_ne_true
  | commandUnknown h code => exact Acts.acknowledge (r := .refuse _) _ h (.refl [] _ s) (UnitId.mem_all _)
  | nop h => exact Acts.acknowledgeDone _ h (.refl [] _ s) (UnitId.mem_all _)
  | select h t i v z => exact takeSelect_acts h s t i v z
  | deposit h o =>
    refine takeDeposit_acts h o s ?_
    cases s.cmd.pointer <;> simp [Pointer.blocks, commandBlocks]
  | snapshot h g f n => exact takeSnapshot_acts h s g f n
  | counterMode h o c => exact takeCounterMode_acts h s o c
  | counterClear h => exact takeCounterClear_acts h s
  | softReset h => exact Acts.acknowledgeDone _ h (softReset_acts h.tag s) (UnitId.mem_all _)
  | apply h => exact Acts.acknowledgeDone _ h ((Acts.refl [.comp] _ s).withComp _ (by decide)) (UnitId.mem_all _)
  | alertOn h | alertOff h =>
    exact Acts.acknowledgeDone _ h (reportAlertChange_acts ((Acts.refl [.comp] _ s).withComp _ (by decide)) _ _
      (UnitId.mem_all _)) (UnitId.mem_all _)
  | probe h a => exact all (takeProbe_acts h s a)
  | clockConfig h f m a b t d => exact all (takeClockConfig_acts h s f m a b t d)
  | clockStart h => exact all (takeClockStart_acts h s)
  | clockStop h => exact all (takeClockStop_acts h s)
  | clockSet h v => exact all (Acts.acknowledgeDone _ h (setClock_acts _ _ s) (U := [.timing]) (by decide))
  | clockAdjust h d => exact all (Acts.acknowledgeDone _ h (setClock_acts _ _ s) (U := [.timing]) (by decide))
  | clockMode h m => exact all (takeClockMode_acts h s m)
  | breakOn h => exact all (takeBreakOn_acts h s)
  | breakOff h => exact Acts.acknowledgeDone _ h ((Acts.refl [.timing] _ s).withTiming _ (by decide)) (UnitId.mem_all _)
  | possConfig h p t g e d => exact all (takePossConfig_acts h s p t g e d)
  | possEnable h e => exact all (takePossEnable_acts h s e)
  | possReset h => exact Acts.acknowledgeDone _ h ((Acts.refl [.timing] _ s).withTiming _ (by decide)) (UnitId.mem_all _)
  | possSet h v => exact Acts.acknowledgeDone _ h ((Acts.refl [.timing] _ s).withTiming _ (by decide)) (UnitId.mem_all _)
  | horn h w a => exact all (takeHorn_acts h s w a)
  | scoreSet h side v => exact all (takeScoreSet_acts h s side v)
  | scoreAdd h side d => exact all (takeScoreAdd_acts h s side d)
  | fieldSet h f v => exact all (takeFieldSet_acts h s f v)
  | fieldAdd h f d => exact all (takeFieldAdd_acts h s f d)
  | recordArm h => exact all (takeRecordArm_acts h s)
  | recordStop h => exact all (takeRecordStop_acts h s)
  | clipIn h t n => exact all (takeClipIn_acts h s t n)
  | clipOut h => exact all (takeClipOut_acts h s)
  | clipFree h c => exact all (takeClipFree_acts h s c)
  | playerConfig h z e p a => exact all (takePlayerConfig_acts h s z e p a)
  | cueClip h c => exact all (takeCueClip_acts h s c)
  | cueRange h f n => exact all (takeCueRange_acts h s f n)
  | cueClock h v n => exact all (takeCueClock_acts h s v n)
  | play h => exact all (takePlay_acts h s)
  | pause h => exact all (takePause_acts h s)
  | step h => exact all (takeStep_acts h s)
  | rate h r =>
    exact Acts.acknowledgeDone _ h ((Acts.refl [.capture, .player] _ s).withPlayer _ (by decide)) (UnitId.mem_all _)
  | stop h =>
    exact Acts.acknowledgeDone _ h ((stopPlayer_acts s).mono (fun _ hb => hb) (by simp)) (UnitId.mem_all _)
  | panelStart h p => exact all (takePanelStart_acts h s p)
  | panelStop h p => exact all (takePanelStop_acts h s p)
  | panelHold h p => exact all (takePanelHold_acts h s p)
  | panelForce h p e n => exact all (takePanelForce_acts h s p e n)
  | queueConfig h z a b c d e f g i n => exact all (takeQueueConfig_acts h s z a b c d e f g i n)
  | msgOpen h id c l r t k e => exact all (takeMsgOpen_acts h s id c l r t k e)
  | msgText h id o n codes => exact all (takeMsgText_acts h s id o n codes)
  | msgPost h id => exact all (takeMsgPost_acts h s id)
  | msgWithdraw h id => exact all (takeMsgWithdraw_acts h s id)
  | _ => exact .refl _ _ s

/-- EXAMINE changes the pointer and the report path. -/
theorem takeExamine_shape (h : Header) (s : State) : ∃ p, takeExamine h s =
    (s.withReportPath p).withCmd
      { (s.withReportPath p).cmd with pointer := s.cmd.pointer.step } := by
  have hanswer : ∃ p, answerEntry h s.cmd.pointer (s.entryBytes s.cmd.pointer) s = s.withReportPath p := by
    unfold answerEntry
    split
    · exact enqueue_shape _ _
    · exact enqueuePair_shape _ _ _
  obtain ⟨p, hp⟩ := hanswer
  refine ⟨p, ?_⟩
  rw [takeExamine, acknowledge_data, setPointer, hp]

/-- REPORT_ACK changes C and the report path. -/
theorem takeReportAck_shape (h : Header) (index : Byte) (s : State) : ∃ c p,
    takeReportAck h index s = (s.withCmd { s.cmd with consumer := c }).withReportPath p := by
  by_cases hin : s.cmd.AckInRange index
  · rw [takeReportAck_accepted h hin]
    exact ⟨_, moveReports_done_shape _ _ _ _ _ _ _⟩
  · rw [takeReportAck_refused h hin]
    exact ⟨s.cmd.consumer, offer_shape _ _⟩

/-- The blocks a host command leaves. -/
theorem takeCommand_same (c : Instr) (s : State) {b : Block} (hb : b ∉ (commandBlocks c)) :
    b.Same s (takeCommand c s) := by
  by_cases hc : onlyPosts c = true
  · exact (takeCommand_acts c s hc).same b hb
  · cases c with
    | examine h =>
      obtain ⟨p, hp⟩ := takeExamine_shape h s
      rw [takeCommand, hp]
      cases b with
      | cmd => exact absurd (List.mem_singleton_self _) hb
      | _ => rfl
    | reportAck h index =>
      obtain ⟨c, p, hp⟩ := takeReportAck_shape h index s
      rw [takeCommand, hp]
      cases b <;> rfl
    | _ => exact absurd rfl hc

/-! ## What a step comes to -/

/-- What a host command comes to: nothing while RESET_N is asserted, its effect otherwise, and a fault when no
record carries it. -/
theorem exec_hostCommand {c : Instr} {s : State} (hc : IsHostCommand c) :
    exec c s = .next (whileRunning (takeCommand c) s) ∨ c.wellFormed = false ∧ exec c s = .fault .illFormed := by
  cases c with
  | deposit h o =>
    by_cases hwf : (Instr.deposit h o).wellFormed = true
    · exact .inl (if_pos hwf)
    · exact .inr ⟨Bool.eq_false_of_not_eq_true hwf, if_neg hwf⟩
  | msgText h id off n codes =>
    by_cases hwf : (Instr.msgText h id off n codes).wellFormed = true
    · exact .inl (if_pos hwf)
    · exact .inr ⟨Bool.eq_false_of_not_eq_true hwf, if_neg hwf⟩
  | resetAssert | resetRelease | requestWithhold | burstAccept | forwardGrant | mirrorGrant
  | reportWriteGrant | mpResponse | responseReturn | reportMove | tableLockChange | alertInChange
  | zonePulse | zoneLoss | msPulse | gameClockExpire | possExpire | hornExpire | messageExpire
  | holdTimerExpire | lineStart | lineStop | pcReset | recordFramePulse => exact absurd hc Bool.false_ne_true
  | _ => exact .inl rfl

/-- A well-formed host command runs when RESET_N is released. -/
theorem exec_wellFormed {c : Instr} {s : State} (hc : IsHostCommand c) (hwf : c.wellFormed = true) :
    exec c s = .next (whileRunning (takeCommand c) s) := by
  obtain h | ⟨hno, -⟩ := exec_hostCommand (s := s) hc
  · exact h
  · exact absurd (hwf.symm.trans hno) (by decide)

end Sys2Proof.Machine
end

section
/-! SUPPORT. A step as a run of moves: what the bus, the lines and the clock make the part do, one operation each.
An invariant of some blocks needs the moves that touch them, and no other. -/

namespace Sys2Proof.Machine

/-- One operation of a step. -/
inductive Move where
  | queue (l : List Instr)
  | lines (p : Pins)
  | assert
  | release (caSel : BitVec 4)
  | command (c : Instr)
  | withhold (b : Burst)
  | accept (b : Burst)
  | record (b : Burst)
  | grantForward
  | grantMirror
  | grantReport
  | response (pixels : List Pixel)
  | giveBack
  | moveOne
  | alertIn (before : State)
  | zoneEdge (z : Fin 4) (edge : Edge)
  | gcStart (edge : Edge)
  | gcStop (edge : Edge)
  | pcReset (edge : Edge)
  | recordEdge (edge : Edge)
  | pulse
  | cycle

/-- The state a move leaves. -/
def Move.run : Move → State → State
  | .queue l, s => s.withPending l
  | .lines p, s => s.withPins p
  | .assert, s => resetAsserted s
  | .release caSel, s => resetReleased caSel s
  | .command c, s => takeCommand c s
  | .withhold b, s => Machine.withhold b s
  | .accept b, s => acceptPresented b s
  | .record b, s => forwardAsIs b (s.withBus { s.bus with withheld := none })
  | .grantForward, s => Machine.grantForward s
  | .grantMirror, s => Machine.grantMirror s
  | .grantReport, s => Machine.grantReport s
  | .response pixels, s => takeResponse pixels s
  | .giveBack, s => returnResponse s
  | .moveOne, s => Machine.moveOne s
  | .alertIn before, s => reportAlertChange 0 before s
  | .zoneEdge z edge, s => Machine.zoneEdge z edge s
  | .gcStart edge, s => gcStartEdge edge s
  | .gcStop edge, s => gcStopEdge edge s
  | .pcReset edge, s => pcResetEdge edge s
  | .recordEdge edge, s => Machine.recordEdge edge s
  | .pulse, s => advanceToPulse s
  | .cycle, s => refclkCycle s

/-- The blocks a move touches. -/
def Move.blocks : Move → List Block
  | .queue _ => [.pending]
  | .lines _ => [.pins]
  | .assert =>
    [.pins, .bus, .cmd, .counters, .zones, .comp, .glyph, .timing, .capture, .player, .sponsor, .message]
  | .release _ => [.pins, .cmd]
  | .command c => commandBlocks c
  | .withhold _ => [.bus, .counters]
  | .accept _ => burstBlocks
  | .record _ => [.bus]
  | .grantForward => [.bus]
  | .grantMirror => [.bus, .capture]
  | .grantReport => [.bus, .cmd]
  | .response _ => [.bus, .free]
  | .giveBack => [.bus]
  | .moveOne => []
  | .alertIn _ => []
  | .zoneEdge _ _ => zoneBlocks
  | .gcStart _ | .gcStop _ | .pcReset _ => [.timing]
  | .recordEdge _ => [.capture]
  | .pulse | .cycle => pulseBlocks

/-- The bus path has room for the burst at the port. -/
def State.admits (s : State) (b : Burst) : Prop := s.withholds b = false

/-- When a step makes a move. -/
def Move.Arises : Move → State → Prop
  | .withhold b, s => s.withholds b = true
  | .accept b, s => s.admits b ∧ ¬ s.TakesRecord b
  | .record _, s => s.bus.forward.length < 16
  | .grantForward, s => s.bus.winner = some .forward
  | .grantMirror, s => s.bus.winner = some .mirror
  | .grantReport, s => s.bus.winner = some .reportWrite
  | _, _ => True

/-- Moves after which the report wire is as the reports generated leave it. -/
def Move.onlyPosts : Move → Bool
  | .assert | .grantReport | .moveOne => false
  | .command c => Machine.onlyPosts c
  | _ => true

/-! ## What a move touches -/

theorem resetReleased_acts (caSel : BitVec 4) (s : State) :
    Acts [.pins, .cmd] [.compositor] s (resetReleased caSel s) := by
  have ht : Acts [.pins, .cmd] [.compositor] s ((s.withPins { s.pins with resetAsserted := false }).withCmd
      { s.cmd with caBase := controlAreaBase caSel }) :=
    ((Acts.refl _ _ s).withPins _ (by decide)).withCmd _ (by decide) rfl
  unfold resetReleased
  dsimp only
  split
  · exact ht.post (by decide) _ _ _ _ _
  · exact ht

theorem acceptPresented_acts {b : Burst} {s : State} (h : ¬ s.TakesRecord b) :
    Acts burstBlocks [.busPath] s (acceptPresented b s) := by
  have hfree : Acts burstBlocks [.busPath] s (s.withBus { s.bus with withheld := none }) :=
    (Acts.refl _ _ s).withBus _ rfl (by decide)
  exact hfree.trans (acceptBurst_acts h)

theorem Move.run_acts {m : Move} {s : State} (hm : m.Arises s) (hp : m.onlyPosts = true) :
    Acts m.blocks UnitId.all s (m.run s) := by
  have all : ∀ {B U t}, Acts B U s t → Acts B UnitId.all s t :=
    fun h => h.mono (fun _ hb => hb) fun u _ => UnitId.mem_all u
  cases m with
  | assert | grantReport | moveOne => exact absurd hp Bool.false_ne_true
  | queue l => exact (Acts.refl [.pending] _ s).withPending l (by decide)
  | lines p => exact (Acts.refl [.pins] _ s).withPins p (by decide)
  | release caSel => exact all (resetReleased_acts caSel s)
  | command c => exact takeCommand_acts c s hp
  | withhold b => exact all (withhold_acts b s)
  | accept b => exact all (acceptPresented_acts hm.2)
  | record b => exact forwardAt_acts ((Acts.refl [.bus] _ s).withBus { s.bus with withheld := none } rfl (by decide)) _ b (by decide)
  | grantForward => exact all (grantForward_acts s)
  | grantMirror => exact all (grantMirror_acts s)
  | response pixels => exact all (takeResponse_acts pixels s)
  | giveBack => exact all (returnResponse_acts s)
  | alertIn before => exact reportAlertChange_acts (.refl _ _ s) 0 before (UnitId.mem_all _)
  | zoneEdge z edge => exact all (zoneEdge_acts z edge s)
  | gcStart edge => exact all (gcStartEdge_acts edge s)
  | gcStop edge => exact all (gcStopEdge_acts edge s)
  | pcReset edge => exact all (pcResetEdge_acts edge s)
  | recordEdge edge => exact all (recordEdge_acts edge s)
  | pulse => exact advanceToPulse_acts s
  | cycle => exact refclkCycle_acts s

theorem moveOne_shape (s : State) : ∃ p, moveOne s = s.withReportPath p := by
  unfold moveOne
  split
  · exact moveReport_shape s
  · exact ⟨s.reportPath, rfl⟩

/-- The grant of a report write changes the bus path, P and the report path. -/
theorem grantReport_shape (s : State) : ∃ x p n,
    grantReport s = ((s.withBus x).withCmd { s.cmd with producer := n }).withReportPath p := by
  unfold grantReport
  split
  · exact ⟨s.bus, s.reportPath, s.cmd.producer, rfl⟩
  · obtain ⟨p, hp⟩ := moveReports_shape
      ((s.withBus _).withCmd { s.cmd with producer := s.cmd.producer + 1 })
    exact ⟨_, p, _, hp⟩

/-- A move leaves every block it does not touch. -/
theorem Move.run_same {m : Move} {s : State} (hm : m.Arises s) {b : Block} (hb : b ∉ m.blocks) :
    b.Same s (m.run s) := by
  by_cases hp : m.onlyPosts = true
  · exact (run_acts hm hp).same b hb
  · cases m with
    | command c => exact takeCommand_same c s hb
    | assert =>
      cases b
      case pending => rfl
      case free => rfl
      all_goals exact absurd (by decide) hb
    | grantReport =>
      obtain ⟨x, p, n, h⟩ := grantReport_shape s
      rw [run, h]
      cases b
      case bus => exact absurd (by decide) hb
      case cmd => exact absurd (by decide) hb
      all_goals rfl
    | moveOne =>
      obtain ⟨p, h⟩ := moveOne_shape s
      rw [run, h]
      exact Block.same_withReportPath s p b
    | _ => exact absurd rfl hp

/-! ## A step -/

theorem admits_forward {s : State} {b : Burst} (h : s.admits b) (hf : s.forwards b = true) :
    s.bus.forward.length < 16 := by
  simp only [State.admits, State.withholds, hf, Bool.true_and, Bool.or_eq_false_iff, decide_eq_false_iff_not,
    not_le] at h
  exact h.1.1

theorem whileRunning_keeps {P : State → Prop} {f : State → State} {s : State} (hf : P s → P (f s)) (h : P s) :
    P (whileRunning f s) := by
  unfold whileRunning
  split
  · exact h
  · exact hf h

section
variable {P : State → Prop} (hP : ∀ (m : Move) (s : State), m.Arises s → P s → P (m.run s))
include hP

theorem expiryPulse_keeps {s : State} (h : P s) (due : Bool) : P (expiryPulse due s) := by
  unfold expiryPulse
  split
  · exact hP .pulse s trivial h
  · exact h

/-- A burst that is taken as a command is forwarded first. -/
theorem acceptPresented_keeps {s : State} {b : Burst} (hb : s.admits b) (h : P s) :
    P (acceptPresented b s) := by
  by_cases hrecord : s.TakesRecord b
  · have htaken : acceptPresented b s =
        takeRecord b.data (forwardAsIs b (s.withBus { s.bus with withheld := none })) := acceptBurst_record hrecord
    have hforwards : s.forwards b = true := by simp [State.forwards, hrecord.1]
    rw [htaken]
    exact hP (.command _) _ trivial (hP (.record b) s (admits_forward hb hforwards) h)
  · exact hP (.accept b) s ⟨hb, hrecord⟩ h

theorem present_keeps {s : State} (b : Burst) (h : P s) : P (present b s) := by
  unfold present
  split
  · split
    next hw => exact hP (.withhold b) s hw h
    next hw => exact acceptPresented_keeps hP (Bool.eq_false_of_not_eq_true hw) h
  · exact h

theorem presentWithheld_keeps {s : State} (b : Burst) (h : P s) : P (presentWithheld b s) := by
  unfold presentWithheld
  split
  next hw =>
    rw [Bool.and_eq_true] at hw
    exact hP (.withhold b) s hw.2 h
  next => exact h

/-- A move that is made when a condition holds. -/
theorem guarded_keeps {s : State} (m : Move) {c : Prop} [Decidable c] (hc : c → m.Arises s) (h : P s) :
    P (if c then m.run s else s) := by
  split
  next hif => exact hP m s (hc hif) h
  next => exact h

theorem consoleEdge_keeps {s : State} (line : ConsoleLine) (edge : Edge) (h : P s) :
    P (consoleEdge line edge s) := by
  cases line with
  | gcStart => exact whileRunning_keeps (hP (.gcStart edge) _ trivial) (hP (.lines _) s trivial h)
  | gcStop => exact whileRunning_keeps (hP (.gcStop edge) _ trivial) (hP (.lines _) s trivial h)

/-- What every move keeps, a command or an event keeps. -/
theorem exec_keeps {c : Instr} {s t : State} (hst : exec c s = .next t) (h : P s) : P t := by
  by_cases hc : IsHostCommand c
  · obtain heq | ⟨-, heq⟩ := exec_hostCommand (s := s) hc
    · cases heq.symm.trans hst
      exact whileRunning_keeps (hP (.command c) s trivial) h
    · exact nomatch heq.symm.trans hst
  · have hnext : ∀ {u : State}, P u → exec c s = .next u → P t := by
      intro u hu heq
      cases heq.symm.trans hst
      exact hu
    cases c with
    | resetAssert => exact hnext (hP .assert s trivial h) rfl
    | resetRelease caSel => exact hnext (guarded_keeps hP (.release caSel) (fun _ => trivial) h) rfl
    | requestWithhold b =>
      by_cases hwf : b.wellFormed = true
      · exact hnext (whileRunning_keeps (presentWithheld_keeps hP b) h) (if_pos hwf)
      · exact nomatch (if_neg hwf).symm.trans hst
    | burstAccept b =>
      by_cases hwf : b.wellFormed = true
      · exact hnext (whileRunning_keeps (present_keeps hP b) h) (if_pos hwf)
      · exact nomatch (if_neg hwf).symm.trans hst
    | forwardGrant => exact hnext (whileRunning_keeps (guarded_keeps hP .grantForward (c := s.bus.winner = some .forward) id) h) rfl
    | mirrorGrant => exact hnext (whileRunning_keeps (guarded_keeps hP .grantMirror (c := s.bus.winner = some .mirror) id) h) rfl
    | reportWriteGrant => exact hnext (whileRunning_keeps (guarded_keeps hP .grantReport (c := s.bus.winner = some .reportWrite) id) h) rfl
    | mpResponse pixels =>
      by_cases hwf : responseWellFormed pixels = true
      · exact hnext (whileRunning_keeps (hP (.response pixels) s trivial) h) (if_pos hwf)
      · exact nomatch (if_neg hwf).symm.trans hst
    | responseReturn => exact hnext (whileRunning_keeps (hP .giveBack s trivial) h) rfl
    | reportMove => exact hnext (whileRunning_keeps (hP .moveOne s trivial) h) rfl
    | tableLockChange level => exact hnext (hP (.lines _) s trivial h) rfl
    | alertInChange level =>
      have hlines := hP (.lines { s.pins with alertIn := level }) s trivial h
      by_cases hr : s.pins.resetAsserted = true
      · exact hnext hlines (congrArg Host.Outcome.next (if_pos hr))
      · exact hnext (hP (.alertIn s) _ trivial hlines) (congrArg Host.Outcome.next (if_neg hr))
    | zonePulse z edge =>
      exact hnext (whileRunning_keeps (hP (.zoneEdge z edge) _ trivial) (hP (.lines _) s trivial h)) rfl
    | zoneLoss | gameClockExpire | possExpire | hornExpire | messageExpire | holdTimerExpire =>
      exact hnext (whileRunning_keeps (fun h => expiryPulse_keeps hP h _) h) rfl
    | msPulse => exact hnext (whileRunning_keeps (hP .pulse s trivial) h) rfl
    | lineStart edge => exact hnext (consoleEdge_keeps hP .gcStart edge h) rfl
    | lineStop line edge => exact hnext (consoleEdge_keeps hP line edge h) rfl
    | pcReset edge =>
      exact hnext (whileRunning_keeps (hP (.pcReset edge) _ trivial) (hP (.lines _) s trivial h)) rfl
    | recordFramePulse edge =>
      exact hnext (whileRunning_keeps (hP (.recordEdge edge) _ trivial) (hP (.lines _) s trivial h)) rfl
    | _ => exact absurd rfl hc

/-- What every move keeps, a step keeps. -/
theorem step_keeps {s t : State} (hst : step s = .next t) (h : P s) : P t := by
  unfold step at hst
  split at hst
  · cases hst
    exact whileRunning_keeps (hP .cycle s trivial) h
  next c rest _ => exact exec_keeps hP hst (hP (.queue rest) s trivial h)

end

end Sys2Proof.Machine
end

section
/-! SUPPORT. What stands in a block after reports were generated, a command acknowledged, or an operation ran that
does not touch the block. -/

namespace Sys2Proof.Machine

section
variable {B : List Block} {U : List UnitId} {s t : State}
theorem Acts.pending (h : Acts B U s t) (hb : Block.pending ∉ B) : t.pending = s.pending := h.same .pending hb
theorem Acts.pins (h : Acts B U s t) (hb : Block.pins ∉ B) : t.pins = s.pins := h.same .pins hb
theorem Acts.counters (h : Acts B U s t) (hb : Block.counters ∉ B) : t.counters = s.counters := h.same .counters hb
theorem Acts.zones (h : Acts B U s t) (hb : Block.zones ∉ B) : t.zones = s.zones := h.same .zones hb
theorem Acts.comp (h : Acts B U s t) (hb : Block.comp ∉ B) : t.comp = s.comp := h.same .comp hb
theorem Acts.glyph (h : Acts B U s t) (hb : Block.glyph ∉ B) : t.glyph = s.glyph := h.same .glyph hb
theorem Acts.timing (h : Acts B U s t) (hb : Block.timing ∉ B) : t.timing = s.timing := h.same .timing hb
theorem Acts.capture (h : Acts B U s t) (hb : Block.capture ∉ B) : t.capture = s.capture := h.same .capture hb
theorem Acts.player (h : Acts B U s t) (hb : Block.player ∉ B) : t.player = s.player := h.same .player hb
theorem Acts.sponsor (h : Acts B U s t) (hb : Block.sponsor ∉ B) : t.sponsor = s.sponsor := h.same .sponsor hb
theorem Acts.message (h : Acts B U s t) (hb : Block.message ∉ B) : t.message = s.message := h.same .message hb
theorem Acts.free (h : Acts B U s t) (hb : Block.free ∉ B) : t.free = s.free := h.same .free hb

end

section
variable (s : State) (r : Report) (rs : List Report)
@[simp] theorem offer_pending : (s.offer rs).pending = s.pending := by
  obtain ⟨p, hp⟩ := offer_shape rs s
  rw [hp, withReportPath_pending]
@[simp] theorem offer_pins : (s.offer rs).pins = s.pins := by
  obtain ⟨p, hp⟩ := offer_shape rs s
  rw [hp, withReportPath_pins]
@[simp] theorem offer_counters : (s.offer rs).counters = s.counters := by
  obtain ⟨p, hp⟩ := offer_shape rs s
  rw [hp, withReportPath_counters]
@[simp] theorem offer_zones : (s.offer rs).zones = s.zones := by
  obtain ⟨p, hp⟩ := offer_shape rs s
  rw [hp, withReportPath_zones]
@[simp] theorem offer_comp : (s.offer rs).comp = s.comp := by
  obtain ⟨p, hp⟩ := offer_shape rs s
  rw [hp, withReportPath_comp]
@[simp] theorem offer_glyph : (s.offer rs).glyph = s.glyph := by
  obtain ⟨p, hp⟩ := offer_shape rs s
  rw [hp, withReportPath_glyph]
@[simp] theorem offer_capture : (s.offer rs).capture = s.capture := by
  obtain ⟨p, hp⟩ := offer_shape rs s
  rw [hp, withReportPath_capture]
@[simp] theorem offer_player : (s.offer rs).player = s.player := by
  obtain ⟨p, hp⟩ := offer_shape rs s
  rw [hp, withReportPath_player]
@[simp] theorem offer_sponsor : (s.offer rs).sponsor = s.sponsor := by
  obtain ⟨p, hp⟩ := offer_shape rs s
  rw [hp, withReportPath_sponsor]
@[simp] theorem offer_message : (s.offer rs).message = s.message := by
  obtain ⟨p, hp⟩ := offer_shape rs s
  rw [hp, withReportPath_message]
@[simp] theorem offer_free : (s.offer rs).free = s.free := by
  obtain ⟨p, hp⟩ := offer_shape rs s
  rw [hp, withReportPath_free]
@[simp] theorem enqueue_pending : (enqueue r s).pending = s.pending :=
  offer_pending s [r]
@[simp] theorem enqueue_pins : (enqueue r s).pins = s.pins :=
  offer_pins s [r]
@[simp] theorem enqueue_counters : (enqueue r s).counters = s.counters :=
  offer_counters s [r]
@[simp] theorem enqueue_zones : (enqueue r s).zones = s.zones :=
  offer_zones s [r]
@[simp] theorem enqueue_comp : (enqueue r s).comp = s.comp :=
  offer_comp s [r]
@[simp] theorem enqueue_glyph : (enqueue r s).glyph = s.glyph :=
  offer_glyph s [r]
@[simp] theorem enqueue_timing : (enqueue r s).timing = s.timing :=
  offer_timing s [r]
@[simp] theorem enqueue_capture : (enqueue r s).capture = s.capture :=
  offer_capture s [r]
@[simp] theorem enqueue_player : (enqueue r s).player = s.player :=
  offer_player s [r]
@[simp] theorem enqueue_sponsor : (enqueue r s).sponsor = s.sponsor :=
  offer_sponsor s [r]
@[simp] theorem enqueue_message : (enqueue r s).message = s.message :=
  offer_message s [r]
@[simp] theorem enqueue_free : (enqueue r s).free = s.free :=
  offer_free s [r]

end

section
variable (unit : UnitId) (tag : BitVec 16) (kind : ReportKind) (code subject : Nat) (payload : List Byte) (s : State)
@[simp] theorem post_pending : (post unit tag kind code subject payload s).pending = s.pending :=
  enqueue_pending s _
@[simp] theorem post_pins : (post unit tag kind code subject payload s).pins = s.pins :=
  enqueue_pins s _
@[simp] theorem post_counters : (post unit tag kind code subject payload s).counters = s.counters :=
  enqueue_counters s _
@[simp] theorem post_zones : (post unit tag kind code subject payload s).zones = s.zones :=
  enqueue_zones s _
@[simp] theorem post_comp : (post unit tag kind code subject payload s).comp = s.comp :=
  enqueue_comp s _
@[simp] theorem post_glyph : (post unit tag kind code subject payload s).glyph = s.glyph :=
  enqueue_glyph s _
@[simp] theorem post_timing : (post unit tag kind code subject payload s).timing = s.timing :=
  enqueue_timing s _
@[simp] theorem post_capture : (post unit tag kind code subject payload s).capture = s.capture :=
  enqueue_capture s _
@[simp] theorem post_player : (post unit tag kind code subject payload s).player = s.player :=
  enqueue_player s _
@[simp] theorem post_sponsor : (post unit tag kind code subject payload s).sponsor = s.sponsor :=
  enqueue_sponsor s _
@[simp] theorem post_message : (post unit tag kind code subject payload s).message = s.message :=
  enqueue_message s _
@[simp] theorem post_free : (post unit tag kind code subject payload s).free = s.free :=
  enqueue_free s _

end

section
variable (code : Nat) (unit : UnitId) (h : Header) (s : State) (r : Reply)
theorem acknowledge_zones : (acknowledge code unit h s r).zones = (r.state s).zones := by
  obtain ⟨p, hp⟩ := acknowledge_shape code unit h s r
  rw [hp, withReportPath_zones]
theorem acknowledge_comp : (acknowledge code unit h s r).comp = (r.state s).comp := by
  obtain ⟨p, hp⟩ := acknowledge_shape code unit h s r
  rw [hp, withReportPath_comp]
theorem acknowledge_timing : (acknowledge code unit h s r).timing = (r.state s).timing := by
  obtain ⟨p, hp⟩ := acknowledge_shape code unit h s r
  rw [hp, withReportPath_timing]
theorem acknowledge_capture : (acknowledge code unit h s r).capture = (r.state s).capture := by
  obtain ⟨p, hp⟩ := acknowledge_shape code unit h s r
  rw [hp, withReportPath_capture]
theorem acknowledge_player : (acknowledge code unit h s r).player = (r.state s).player := by
  obtain ⟨p, hp⟩ := acknowledge_shape code unit h s r
  rw [hp, withReportPath_player]
theorem acknowledge_sponsor : (acknowledge code unit h s r).sponsor = (r.state s).sponsor := by
  obtain ⟨p, hp⟩ := acknowledge_shape code unit h s r
  rw [hp, withReportPath_sponsor]
theorem acknowledge_message : (acknowledge code unit h s r).message = (r.state s).message := by
  obtain ⟨p, hp⟩ := acknowledge_shape code unit h s r
  rw [hp, withReportPath_message]

end

/-! A DEPOSIT leaves in every block but the command unit's what the owner of the table made of it. -/

section
variable (h : Header) (o : List Byte) (s : State)
theorem takeDeposit_zones :
    (takeDeposit h o s).zones = ((depositAt s.cmd.pointer o h.tag s).state s).zones := by
  rw [takeDeposit, acknowledge_zones]
  dsimp only
  cases depositAt s.cmd.pointer o h.tag s <;> rfl
theorem takeDeposit_comp :
    (takeDeposit h o s).comp = ((depositAt s.cmd.pointer o h.tag s).state s).comp := by
  rw [takeDeposit, acknowledge_comp]
  dsimp only
  cases depositAt s.cmd.pointer o h.tag s <;> rfl
theorem takeDeposit_timing :
    (takeDeposit h o s).timing = ((depositAt s.cmd.pointer o h.tag s).state s).timing := by
  rw [takeDeposit, acknowledge_timing]
  dsimp only
  cases depositAt s.cmd.pointer o h.tag s <;> rfl
theorem takeDeposit_capture :
    (takeDeposit h o s).capture = ((depositAt s.cmd.pointer o h.tag s).state s).capture := by
  rw [takeDeposit, acknowledge_capture]
  dsimp only
  cases depositAt s.cmd.pointer o h.tag s <;> rfl
theorem takeDeposit_sponsor :
    (takeDeposit h o s).sponsor = ((depositAt s.cmd.pointer o h.tag s).state s).sponsor := by
  rw [takeDeposit, acknowledge_sponsor]
  dsimp only
  cases depositAt s.cmd.pointer o h.tag s <;> rfl

end

end Sys2Proof.Machine
end

section
/-! SUPPORT. The law of the clocks and the ranges of chapter 6 through every move. -/

namespace Sys2Proof.Machine

namespace TimingUnit.Lawful

variable {t : TimingUnit}

theorem start (h : t.Lawful) (hs : t.canStart = true) : t.start.Lawful := by
  simp only [TimingUnit.canStart, Bool.and_eq_true] at hs
  exact { h with running := fun _ => hs.2, expired := nofun }

theorem halt (h : t.Lawful) : t.halt.Lawful := { h with running := nofun, expired := nofun }

/-- A clock that is not RUNNING may take any value in the range, unless it is EXPIRED. -/
theorem stoppedAt (h : t.Lawful) {v : Nat} (hv : v ≤ 5999000) :
    { t with value := v, state := .stopped }.Lawful :=
  { h with value := hv, running := nofun, expired := nofun }

theorem runningAt (h : t.Lawful) {v : Nat} (hv : v ≤ 5999000) (hlimit : v ≠ clockLimit t.mode) :
    { t with value := v, state := .running }.Lawful := by
  refine { h with value := hv, running := fun _ => ?_, expired := nofun }
  show startable t.mode v = true
  cases hm : t.mode with
  | down => simpa [startable, clockLimit, hm, Nat.pos_iff_ne_zero] using hlimit
  | up =>
    have htop : v ≠ 5999000 := by simpa [clockLimit, hm, Config.gameClockTop] using hlimit
    exact decide_eq_true (show v < 5999000 by omega)

theorem clockLimit_le (mode : ClockMode) : clockLimit mode ≤ 5999000 := by
  cases mode <;> simp [clockLimit, Config.gameClockTop]

/-- An EXPIRED clock at its limit. -/
theorem restsAt (h : t.Lawful) : { t with value := clockLimit t.mode, state := .expired }.Lawful :=
  { h with value := clockLimit_le t.mode, running := nofun, expired := fun _ => rfl }

/-- The clock at its limit, with HORN_G triggered. -/
theorem expiredAt (h : t.Lawful) :
    { t with value := clockLimit t.mode, state := .expired, hornG := t.hornG.trigger }.Lawful := by
  exact { h.restsAt with sounding := ⟨h.durations.2.1, h.sounding.2⟩ }

theorem triggerG (h : t.Lawful) : { t with hornG := t.hornG.trigger }.Lawful :=
  { h with sounding := ⟨h.durations.2.1, h.sounding.2⟩ }

theorem triggerP (h : t.Lawful) : { t with hornP := t.hornP.trigger }.Lawful :=
  { h with sounding := ⟨h.sounding.1, h.durations.2.2.2⟩ }

theorem setMark (h : t.Lawful) (i : Fin 4) {m : Mark} (hm : m.value ≤ 5999000 ∧
    (m.action = .moment → m.panel < 8 ∧ m.entry < 128)) : { t with marks := t.marks.set i m }.Lawful := by
  refine { h with marks := fun j => ?_ }
  by_cases hj : i = j
  · subst hj
    rw [Tab.get_set_self]
    exact hm
  · rw [Tab.get_set_ne _ _ hj]
    exact h.marks j

theorem setField (h : t.Lawful) (i : Fin 8) {v : Nat} (hv : v ≤ 99) :
    { t with fields := t.fields.set i v }.Lawful := by
  refine { h with score := ⟨h.score.1, h.score.2.1, fun j => ?_⟩ }
  by_cases hj : i = j
  · subst hj
    rw [Tab.get_set_self]
    exact hv
  · rw [Tab.get_set_ne _ _ hj]
    exact h.score.2.2 j

theorem setScore (h : t.Lawful) (guest : Bool) {v : Nat} (hv : v ≤ 999) : (t.setScore guest v).Lawful := by
  cases guest
  · exact { h with score := ⟨hv, h.score.2⟩ }
  · exact { h with score := ⟨h.score.1, hv, h.score.2.2⟩ }

theorem loadPreset (h : t.Lawful) : { t with possValue := t.possPreset }.Lawful :=
  { h with possession := ⟨h.preset.2, h.possession.2⟩ }

end TimingUnit.Lawful

theorem TimingUnit.initial_lawful : TimingUnit.initial.Lawful := by
  constructor <;> simp [initial, Config.resetRate, Mark.initial]

/-! ## Operations -/

section
variable {s : State}

@[simp] theorem postStopped_timing (tag : BitVec 16) (cause : Nat) (s : State) :
    (postStopped tag cause s).timing = s.timing := post_timing ..

@[simp] theorem expireClock_timing (tag : BitVec 16) (s : State) :
    (expireClock tag s).timing = { s.timing with state := .expired, hornG := s.timing.hornG.trigger } :=
  post_timing ..

theorem setClock_lawful (tag : BitVec 16) {v : Nat} (hv : v ≤ 5999000) (h : s.timing.Lawful) :
    (setClock tag v s).timing.Lawful := by
  by_cases hexpires : s.timing.state = .running ∧ v = clockLimit s.timing.mode
  · obtain ⟨hrun, hlimit⟩ := hexpires
    rw [setClock_expires tag hrun hlimit, offer_timing, hlimit]
    exact h.expiredAt
  · rw [setClock_keeps tag hexpires, State.withTiming_timing]
    cases hstate : s.timing.state with
    | stopped => simpa using h.stoppedAt hv
    | running => simpa using h.runningAt hv fun hlimit => hexpires ⟨hstate, hlimit⟩
    | expired =>
      by_cases hlimit : v = clockLimit s.timing.mode
      · simpa [hlimit] using h.restsAt
      · simpa [hlimit] using h.stoppedAt hv

theorem lineStart_lawful (h : s.timing.Lawful) : (lineStart s).timing.Lawful := by
  unfold lineStart
  split
  next hstart => exact h.start hstart
  next => exact h

theorem lineStop_lawful (h : s.timing.Lawful) : (lineStop s).timing.Lawful := by
  unfold lineStop
  split
  · rw [postStopped_timing]
    exact h.halt
  · exact h

theorem gcStartEdge_lawful (edge : Edge) (h : s.timing.Lawful) : (gcStartEdge edge s).timing.Lawful := by
  unfold gcStartEdge
  split
  · exact h
  · split
    · exact lineStart_lawful h
    · split
      · exact h
      · exact lineStop_lawful h

theorem gcStopEdge_lawful (edge : Edge) (h : s.timing.Lawful) : (gcStopEdge edge s).timing.Lawful := by
  unfold gcStopEdge
  split
  · exact lineStop_lawful h
  · exact h

theorem pcResetEdge_lawful (edge : Edge) (h : s.timing.Lawful) : (pcResetEdge edge s).timing.Lawful := by
  unfold pcResetEdge
  split
  · exact h.loadPreset
  · exact h

/-! ## The millisecond pulse -/

theorem pulseHorns_lawful (h : s.timing.Lawful) : (pulseHorns s).timing.Lawful :=
  { h with sounding := ⟨(Nat.sub_le _ _).trans h.sounding.1, (Nat.sub_le _ _).trans h.sounding.2⟩ }

theorem movedValue_le (mode : ClockMode) {v : Nat} (hv : v ≤ 5999000) : movedValue mode v ≤ 5999000 := by
  cases mode with
  | down => exact (Nat.sub_le v 1).trans hv
  | up =>
    unfold movedValue Config.gameClockTop
    dsimp only
    split <;> omega

theorem pulseGame_lawful (h : s.timing.Lawful) : (pulseGame s).timing.Lawful := by
  unfold pulseGame
  dsimp only
  split
  next hrun =>
    split
    next hlimit =>
      rw [expireClock_timing, State.withTiming_timing, hlimit]
      exact h.expiredAt
    next hmoved =>
      rw [State.withTiming_timing]
      simpa [hrun] using h.runningAt (movedValue_le _ h.value) hmoved
  next => exact h

theorem stopGameByPossession_lawful (h : s.timing.Lawful) : (stopGameByPossession s).timing.Lawful := by
  unfold stopGameByPossession
  split
  · rw [postStopped_timing]
    exact h.halt
  · exact h

theorem pulsePossession_lawful (was : Bool) (h : s.timing.Lawful) : (pulsePossession was s).timing.Lawful := by
  have hless : { s.timing with possValue := s.timing.possValue - 1 }.Lawful :=
    { h with possession := ⟨(Nat.sub_le _ _).trans h.possession.1, h.possession.2⟩ }
  unfold pulsePossession
  dsimp only
  split
  · split
    · refine stopGameByPossession_lawful ?_
      rw [postPossExpired, post_timing]
      exact hless.triggerP
    · exact hless
  · exact h

theorem requestMoment_timing (m : Mark) (s : State) : (requestMoment m s).timing = s.timing := by
  unfold requestMoment
  split
  · rfl
  · rfl

theorem fireMark_lawful (before : Nat) (i : Fin 4) (h : s.timing.Lawful) :
    (fireMark before i s).timing.Lawful := by
  have hfired : { s.timing with
      marks := s.timing.marks.set i { s.timing.marks.get i with fired := true } }.Lawful :=
    h.setMark i (h.marks i)
  unfold fireMark
  dsimp only
  split
  · split
    · rw [post_timing]
      exact hfired
    · rw [triggerHorn, State.withTiming_timing, post_timing]
      exact hfired.triggerG
    · rw [requestMoment_timing, post_timing]
      exact hfired
  · exact h

/-- What one operation for each element of a list keeps, all of them keep. -/
theorem foldl_keeps {α : Type} {P : State → Prop} {f : State → α → State}
    (hf : ∀ s x, P s → P (f s x)) (l : List α) {s : State} (h : P s) : P (l.foldl f s) := by
  induction l generalizing s with
  | nil => exact h
  | cons x l ih => exact ih (hf s x h)

theorem fireMarks_lawful (was : Bool) (before : Nat) (h : s.timing.Lawful) :
    (fireMarks was before s).timing.Lawful := by
  unfold fireMarks
  split
  · exact foldl_keeps (P := fun s => s.timing.Lawful) (fun _ i => fireMark_lawful before i) _ h
  · exact h

theorem pulse_lawful (h : s.timing.Lawful) : (pulse s).timing.Lawful := by
  have huptime : (pulseUptime s).timing.Lawful := { h with }
  have hzones : (pulseZones (pulseUptime s)).timing.Lawful := by
    rw [(pulseZones_acts _).timing (by decide)]
    exact huptime
  have hclocks := pulsePossession_lawful (s.timing.state == .running)
    (pulseGame_lawful (pulseHorns_lawful hzones))
  rw [pulse, (pulseMessages_acts _).timing (by decide)]
  exact fireMarks_lawful _ s.timing.value hclocks

theorem advanceToPulse_lawful (h : s.timing.Lawful) : (advanceToPulse s).timing.Lawful := by
  refine pulse_lawful { h with accumulator := ?_ }
  have hrate := h.rate
  have hacc := h.accumulator
  simp only [State.withTiming_timing, TimingUnit.accumulatorAfterPulse, TimingUnit.cyclesToPulse,
    Config.accumulatorStep]
  omega

theorem refclkCycle_lawful (h : s.timing.Lawful) : (refclkCycle s).timing.Lawful := by
  have hrate := h.rate
  have hacc := h.accumulator
  unfold refclkCycle
  dsimp only [Config.accumulatorStep]
  split
  · refine pulse_lawful { h with accumulator := ?_ }
    simp only [State.withTiming_timing]
    omega
  · refine { h with accumulator := ?_ }
    simp only [State.withTiming_timing]
    omega

end

/-! ## Commands -/

theorem clamp_mem {lo hi : Nat} (hle : lo ≤ hi) (v : Nat) : lo ≤ clamp lo hi v ∧ clamp lo hi v ≤ hi := by
  unfold clamp
  omega

theorem addClamped_le (top value : Nat) (delta : BitVec 32) : (addClamped top value delta).1 ≤ top := by
  rw [addClamped_eq]
  dsimp only
  omega

section
variable (h : Header) {s : State}

theorem takeClockConfig_lawful (f : BitVec 32) (m a b : Byte) (t d : BitVec 32) (hs : s.timing.Lawful) :
    (takeClockConfig h f m a b t d s).timing.Lawful := by
  have hrate := clamp_mem (lo := Config.rateLow) (hi := Config.rateHigh) (by decide) f.toNat
  have hduration := clamp_mem (lo := 100) (hi := 5000) (by decide) d.toNat
  rw [takeClockConfig, acknowledge_timing]
  split
  · refine { hs with
      rate := hrate, accumulator := ?_, threshold := Nat.min_le_left _ _
      durations := ⟨hduration.1, hduration.2, hs.durations.2.2⟩, sounding := hs.sounding }
    dsimp only [State.withTiming_timing]
    split
    next heq => exact heq ▸ hs.accumulator
    next => exact Nat.lt_of_lt_of_le (show 0 < Config.rateLow by decide) hrate.1
  · exact hs

theorem takeClockMode_lawful (mode : Byte) (hs : s.timing.Lawful) :
    (takeClockMode h mode s).timing.Lawful := by
  rw [takeClockMode, acknowledge_timing]
  split
  · exact hs
  · split
    next hstopped =>
      refine { hs with running := fun hr => ?_, expired := fun he => ?_ }
      · exact absurd (hstopped.symm.trans hr) (by decide)
      · exact absurd (hstopped.symm.trans he) (by decide)
    next => exact hs

theorem takePossConfig_lawful (p t : BitVec 32) (g e : Byte) (d : BitVec 32) (hs : s.timing.Lawful) :
    (takePossConfig h p t g e d s).timing.Lawful := by
  have hduration := clamp_mem (lo := 100) (hi := 5000) (by decide) d.toNat
  rw [takePossConfig, acknowledge_timing]
  split
  · exact { hs with
      preset := clamp_mem (by decide) p.toNat, possession := ⟨hs.possession.1, Nat.min_le_left _ _⟩
      durations := ⟨hs.durations.1, hs.durations.2.1, hduration⟩, sounding := hs.sounding }
  · exact hs

theorem takeHorn_lawful (w a : Byte) (hs : s.timing.Lawful) : (takeHorn h w a s).timing.Lawful := by
  rw [takeHorn, acknowledge_timing]
  split
  next which silence _ _ =>
    cases silence <;> cases which
    · exact hs.triggerG
    · exact hs.triggerP
    · exact { hs with sounding := ⟨Nat.zero_le _, hs.sounding.2⟩ }
    · exact { hs with sounding := ⟨hs.sounding.1, Nat.zero_le _⟩ }
  next => exact hs

theorem takeScoreSet_lawful (side : Byte) (v : BitVec 16) (hs : s.timing.Lawful) :
    (takeScoreSet h side v s).timing.Lawful := by
  rw [takeScoreSet, acknowledge_timing]
  split
  · exact hs
  · exact hs.setScore _ (Nat.min_le_left _ _)

theorem takeScoreAdd_lawful (side : Byte) (d : BitVec 32) (hs : s.timing.Lawful) :
    (takeScoreAdd h side d s).timing.Lawful := by
  rw [takeScoreAdd, acknowledge_timing]
  split
  · exact hs
  · exact hs.setScore _ (addClamped_le _ _ _)

theorem takeFieldSet_lawful (f : Byte) (v : BitVec 16) (hs : s.timing.Lawful) :
    (takeFieldSet h f v s).timing.Lawful := by
  rw [takeFieldSet, acknowledge_timing]
  split
  · exact hs
  · exact hs.setField _ (Nat.min_le_left _ _)

theorem takeFieldAdd_lawful (f : Byte) (d : BitVec 32) (hs : s.timing.Lawful) :
    (takeFieldAdd h f d s).timing.Lawful := by
  rw [takeFieldAdd, acknowledge_timing]
  split
  · exact hs
  · exact hs.setField _ (addClamped_le _ _ _)

/-- A deposit into MARK leaves the value in its range, and the panel and the entry with action MOMENT. -/
theorem depositMark_lawful (i : Fin 4) (o : List Byte) (hs : s.timing.Lawful) :
    ((depositMark i o s).state s).timing.Lawful := by
  unfold depositMark
  split
  · exact hs
  next d _ =>
    split_ifs with hrefused
    · exact hs
    · refine hs.setMark i ⟨Nat.min_le_left _ _, fun haction => ?_⟩
      rw [not_and, not_or, Nat.not_lt, Nat.not_lt] at hrefused
      exact ⟨Nat.lt_succ_of_le (hrefused haction).1, Nat.lt_succ_of_le (hrefused haction).2⟩

end

theorem takeDeposit_lawful (h : Header) (o : List Byte) {s : State} (hs : s.timing.Lawful) :
    (takeDeposit h o s).timing.Lawful := by
  rw [takeDeposit_timing]
  by_cases hb : Block.timing ∈ s.cmd.pointer.blocks
  · cases hp : s.cmd.pointer with
    | mark i => exact depositMark_lawful i o hs
    | _ => simp [hp, Pointer.blocks] at hb
  · rw [(depositAt_acts _ o h.tag s).timing hb]
    exact hs

theorem takeCommand_lawful (c : Instr) {s : State} (hs : s.timing.Lawful)
    (hc : Block.timing ∈ commandBlocks c) : (takeCommand c s).timing.Lawful := by
  cases c with
  | deposit h o => exact takeDeposit_lawful h o hs
  | clockConfig h f m a b t d => exact takeClockConfig_lawful h f m a b t d hs
  | clockStart h =>
    rw [takeCommand, takeClockStart, acknowledge_timing]
    split
    next hstart => exact hs.start hstart
    next => exact hs
  | clockStop h =>
    rw [takeCommand, takeClockStop, acknowledge_timing]
    split
    · rw [Reply.ok, Reply.state, postStopped_timing]
      exact hs.halt
    · exact hs
  | clockSet h v =>
    rw [takeCommand, takeClockSet, acknowledge_timing]
    exact setClock_lawful h.tag (Nat.min_le_left _ _) hs
  | clockAdjust h d =>
    rw [takeCommand, takeClockAdjust, acknowledge_timing]
    exact setClock_lawful h.tag (addClamped_le _ _ _) hs
  | clockMode h m => exact takeClockMode_lawful h m hs
  | breakOn h =>
    rw [takeCommand, takeBreakOn, acknowledge_timing]
    split
    · exact hs
    · exact { hs with }
  | breakOff h =>
    rw [takeCommand, takeBreakOff, acknowledge_timing]
    exact { hs with }
  | possConfig h p t g e d => exact takePossConfig_lawful h p t g e d hs
  | possEnable h e =>
    rw [takeCommand, takePossEnable, acknowledge_timing]
    split
    · exact hs
    · exact { hs with }
  | possReset h =>
    rw [takeCommand, takePossReset, acknowledge_timing]
    exact hs.loadPreset
  | possSet h v =>
    rw [takeCommand, takePossSet, acknowledge_timing]
    exact { hs with possession := ⟨Nat.min_le_left _ _, hs.possession.2⟩ }
  | horn h w a => exact takeHorn_lawful h w a hs
  | scoreSet h side v => exact takeScoreSet_lawful h side v hs
  | scoreAdd h side d => exact takeScoreAdd_lawful h side d hs
  | fieldSet h f v => exact takeFieldSet_lawful h f v hs
  | fieldAdd h f d => exact takeFieldAdd_lawful h f d hs
  | _ => simp [commandBlocks, softResetBlocks] at hc

/-- Settles O52: the moves that touch the timing unit keep its law, and a step is a run of moves. -/
theorem timingStaysLawful : Obligations.TimingStaysLawful := by
  intro s t hs hst
  refine step_keeps (P := fun s => s.timing.Lawful) (fun m s hm hs => ?_) hst hs
  by_cases hb : Block.timing ∈ m.blocks
  · cases m with
    | assert => exact TimingUnit.initial_lawful
    | command c => exact takeCommand_lawful c hs hb
    | gcStart edge => exact gcStartEdge_lawful edge hs
    | gcStop edge => exact gcStopEdge_lawful edge hs
    | pcReset edge => exact pcResetEdge_lawful edge hs
    | pulse => exact advanceToPulse_lawful hs
    | cycle => exact refclkCycle_lawful hs
    | _ => simp [Move.blocks, burstBlocks, zoneBlocks] at hb
  · have hsame : (m.run s).timing = s.timing := Move.run_same hm hb
    rw [hsame]
    exact hs

end Sys2Proof.Machine
end

section
/-! SUPPORT. The law of the player record (chapter 8) through every move. -/

namespace Sys2Proof.Machine

namespace Player.Lawful

variable {p : Player}

theorem length_pos (h : p.Lawful) (hs : p.state ≠ .idle) : 1 ≤ p.length := h.source.resolve_left hs

/-- A selection shows the position it was made at. -/
theorem selected (h : p.Lawful) (x : Option (Fin 1024)) :
    { p with selection := x, shownPosition := p.position }.Lawful := { h with shown := h.position }

theorem pausedFor (h : p.Lawful) (hs : p.state ≠ .idle) (cause : PauseCause) : (p.pauseFor cause).Lawful :=
  { h with source := .inr (h.length_pos hs), position := h.shown, cause := fun hne => absurd rfl hne, step := fun _ => rfl }

/-- A state without a pause cause or a pending step. -/
theorem entered (h : p.Lawful) (hs : p.state ≠ .idle) (state : PlayerState) :
    { p with state := state, cause := .none, stepPending := false }.Lawful :=
  { h with source := .inr (h.length_pos hs), cause := fun _ => rfl, step := nofun }

/-- A position within the source, and a shown position no further on. -/
theorem moved (h : p.Lawful) {x y : Nat} (hx : x ≤ 16 * p.length + 31) (hy : y ≤ 16 * p.length + 31) :
    { p with position := x, shownPosition := y }.Lawful := { h with position := hx, shown := hy }

theorem cued (h : p.Lawful) (first : Fin 1024) {n : Nat} (hn : 1 ≤ n) : (p.cued first n).Lawful where
  rate := h.rate
  source := .inr hn
  absent := ⟨nofun, fun h0 => absurd h0 (Nat.ne_of_gt hn)⟩
  position := Nat.zero_le _
  shown := Nat.zero_le _
  cause := fun _ => rfl
  step := nofun

theorem stopped (h : p.Lawful) : p.stopped.Lawful where
  rate := h.rate
  source := .inl rfl
  absent := ⟨fun _ => rfl, fun _ => rfl⟩
  position := Nat.zero_le _
  shown := Nat.zero_le _
  cause := fun _ => rfl
  step := nofun

theorem stepped (h : p.Lawful) (hs : p.state = .paused) :
    { p with position := p.stepPosition, stepPending := true }.Lawful := by
  refine { h with position := ?_, step := fun _ => hs }
  dsimp only [Player.stepPosition]
  omega

end Player.Lawful

theorem Player.initial_lawful : Player.initial.Lawful := by
  constructor <;> simp [Player.initial]

/-! ## A frame start -/

section
variable {s : State}

theorem select_player (i : Nat) (s : State) : ∃ x,
    (select i s).player = { s.player with selection := x, shownPosition := s.player.position } := ⟨_, rfl⟩

theorem select_lawful (i : Nat) (h : s.player.Lawful) : (select i s).player.Lawful := by
  obtain ⟨x, hx⟩ := select_player i s
  rw [hx]
  exact h.selected x

/-- The end test leaves a PLAYING player on a position of its source. -/
def Player.Within (p : Player) : Prop := p.state = .playing → p.position < 16 * p.length

theorem select_within (i : Nat) (h : s.player.Within) : (select i s).player.Within := by
  obtain ⟨x, hx⟩ := select_player i s
  rw [hx]
  exact h

theorem endOrSelect_lawful (latch : Bool) (hs : s.player.state = .playing) (h : s.player.Lawful) :
    (endOrSelect latch s).player.Lawful ∧ (endOrSelect latch s).player.Within := by
  have hne : s.player.state ≠ .idle := hs ▸ nofun
  have hpos := h.length_pos hne
  unfold endOrSelect
  dsimp only
  split
  next hin => exact ⟨select_lawful _ h, select_within _ fun _ => by omega⟩
  next =>
    split
    next =>
      refine ⟨select_lawful _ ?_, select_within _ nofun⟩
      exact { h with
        source := .inr hpos, cause := fun _ => h.cause (hs ▸ nofun)
        step := fun hstep => absurd ((h.step hstep).symm.trans hs) nofun }
    next =>
      have hmod := Nat.mod_lt s.player.position (show 16 * s.player.length > 0 by omega)
      exact ⟨select_lawful _ (h.moved (by omega) h.shown), select_within _ fun _ => hmod⟩

theorem paceSelection_lawful (latch : Bool) (h : s.player.Lawful) :
    (paceSelection latch s).player.Lawful ∧ (paceSelection latch s).player.Within := by
  have hother : s.player.state ≠ .playing → s.player.Within := fun hne hs => absurd hs hne
  unfold paceSelection
  split
  next hs => exact ⟨h, hother (hs ▸ nofun)⟩
  next hs => exact ⟨h, hother (hs ▸ nofun)⟩
  next hs => exact ⟨select_lawful _ h, select_within _ (hother (hs ▸ nofun))⟩
  next hs => exact endOrSelect_lawful latch hs h
  next hs =>
    split
    · obtain ⟨x, hx⟩ := select_player (s.player.position / 16) s
      dsimp only [State.withPlayer_player]
      rw [hx]
      exact ⟨{ h.selected x with step := nofun }, fun hp => absurd (hs.symm.trans hp) nofun⟩
    · exact ⟨h, hother (hs ▸ nofun)⟩

theorem applyAlertPolicy_lawful (latch : Bool) (h : s.player.Lawful) :
    (applyAlertPolicy latch s).player.Lawful := by
  unfold applyAlertPolicy
  split
  next hs =>
    rw [pauseByAlert, post_player]
    exact h.pausedFor (hs.2.1 ▸ nofun) .alert
  next => exact h

theorem paceAdvance_lawful (hin : s.player.Within) (h : s.player.Lawful) : (paceAdvance s).player.Lawful := by
  unfold paceAdvance
  split
  next hs =>
    have hpos := hin hs
    have hrate := h.rate
    exact { h with position := by dsimp only [State.withPlayer_player]; omega }
  next => exact h

theorem playerFrameStart_lawful (z : Fin 4) (h : s.player.Lawful) : (playerFrameStart z s).player.Lawful := by
  have hlatched : ∀ {t : State}, t.player.Lawful → (latchSlot z t).player.Lawful := fun ht => { ht with }
  unfold playerFrameStart
  split
  · obtain ⟨hlawful, hwithin⟩ := paceSelection_lawful (s.comp.alertLatch.get z)
      (applyAlertPolicy_lawful (s.comp.alertLatch.get z) h)
    exact hlatched (paceAdvance_lawful hwithin hlawful)
  · exact hlatched h

theorem startReactions_player (z : Fin 4) (s : State) :
    (startReactions z s).player = (playerFrameStart z (composerFrameStart z s)).player := by
  rw [startReactions, latchContent, State.withGlyph_player, (crawlFrameStart_acts z _).player (by decide)]
  rfl

theorem startReactions_playerLawful (z : Fin 4) (h : s.player.Lawful) : (startReactions z s).player.Lawful := by
  rw [startReactions_player]
  exact playerFrameStart_lawful z h

theorem framePulse_player (z : Fin 4) (h : s.player.Lawful) : (framePulse z s).player.Lawful := by
  unfold framePulse
  dsimp only
  split
  · exact h
  · exact startReactions_playerLawful z h
  · refine startReactions_playerLawful z ?_
    rw [postRegained, post_player]
    exact h
  · split
    · refine startReactions_playerLawful z ?_
      rw [openFrame, State.setZone, State.withZones_player, (closeByPulse_acts z s).player (by decide)]
      exact h
    · rw [refusePulse, (count_acts (B := [.counters]) (.refl _ _ _) _ (List.mem_singleton_self _)
        (by decide)).player (by decide)]
      split
      · exact h
      · rw [postSyncError, post_player]
        exact h

theorem zoneEdge_player (z : Fin 4) (edge : Edge) (h : s.player.Lawful) : (zoneEdge z edge s).player.Lawful := by
  unfold zoneEdge
  split
  · exact framePulse_player z h
  · exact h

/-! ## Commands -/

/-- A closed slot counts itself among those from it on. -/
theorem rangeLength_pos {c : Capture} {k : Fin 1024} (hk : (c.slots.get k).closed = true) (n : Nat) :
    1 ≤ c.rangeLength k n := by
  have hmem : k ∈ c.run 1024 (some k) := List.mem_cons_self
  have hcount : 0 < c.closedFrom k := List.countP_pos_iff.2 ⟨k, hmem, hk⟩
  unfold Capture.rangeLength
  omega

theorem mem_of_nearest {c : Capture} {v : Nat} {l : List (Fin 1024)} {k : Fin 1024}
    (h : c.nearest v l = some k) : k ∈ l := by
  induction l generalizing k with
  | nil => exact nomatch h
  | cons j rest ih =>
    rw [Capture.nearest] at h
    split at h
    · cases h
      exact List.mem_cons_self
    next i hi =>
      split at h
      · cases h
        exact List.mem_cons_of_mem _ (ih hi)
      · cases h
        exact List.mem_cons_self

theorem findClock_closed {c : Capture} {v : Nat} {k : Fin 1024} (h : c.findClock v = some k) :
    (c.slots.get k).closed = true := by
  have hmem : k ∈ c.completeSlots := by
    unfold Capture.findClock at h
    split at h
    next j hj =>
      cases h
      exact List.mem_of_find?_eq_some hj
    next => exact mem_of_nearest h
  have hslot := (List.mem_filter.1 hmem).2
  rw [Bool.and_eq_true] at hslot
  exact hslot.1

theorem cue_player {k : Fin 1024} {n : Nat} {t : State} (h : cue k n s = .ok t) :
    t.player = s.player.cued k n := by
  unfold cue at h
  split at h
  · cases h
  · cases h
    rfl

/-- A cue of at least one slot keeps the law, whatever it answers. -/
theorem cueReply_lawful {k : Fin 1024} {n : Nat} (hn : 1 ≤ n) (h : s.player.Lawful) (reply : State → Reply)
    (hreply : ∀ t, (reply t).state s = t) :
    (Reply.state s (match cue k n s with
      | .error code => .refuse code
      | .ok t => reply t)).player.Lawful := by
  split
  · exact h
  next t heq =>
    rw [hreply, cue_player heq]
    exact h.cued k hn

theorem takeCueClip_lawful (hd : Header) (clip : Byte) (h : s.player.Lawful) :
    (takeCueClip hd clip s).player.Lawful := by
  rw [takeCueClip, acknowledge_player]
  split
  · exact h
  · dsimp only
    split
    · exact h
    · split
      · exact h
      · split
        · exact h
        next hlen => exact cueReply_lawful (Nat.one_le_iff_ne_zero.2 hlen) h (playerReply false) fun _ => rfl

theorem takeCueRange_lawful (hd : Header) (first n : BitVec 16) (h : s.player.Lawful) :
    (takeCueRange hd first n s).player.Lawful := by
  rw [takeCueRange, acknowledge_player]
  split
  · exact h
  · split
    next hclosed => exact cueReply_lawful (rangeLength_pos hclosed _) h (playerReply _) fun _ => rfl
    next => exact h

theorem takeCueClock_lawful (hd : Header) (v : BitVec 32) (n : BitVec 16) (h : s.player.Lawful) :
    (takeCueClock hd v n s).player.Lawful := by
  rw [takeCueClock, acknowledge_player]
  dsimp only
  split
  · exact h
  next hfound =>
    exact cueReply_lawful (rangeLength_pos (findClock_closed hfound) _) h (fun t => .done t _ _ _) fun _ => rfl

theorem takePlay_lawful (hd : Header) (h : s.player.Lawful) : (takePlay hd s).player.Lawful := by
  rw [takePlay, acknowledge_player]
  dsimp only
  split
  next hs => exact h.entered (hs ▸ nofun) .playing
  next hs => exact h.entered (hs ▸ nofun) .playing
  next hs => exact (h.entered (hs ▸ nofun) .playing).moved (Nat.zero_le _) (Nat.zero_le _)
  next => exact h
  next => exact h

theorem softReset_player (tag : BitVec 16) (s : State) :
    (softReset tag s).player = { s.player.stopped with latched := Tab.fill 4 none } := by
  have hbefore : (softResetCapture tag (softResetRenderer (softResetCompositor tag
      (softResetZones s)))).player = s.player := by
    rw [softResetCapture, (stopRecorder_acts tag .softReset _).player (by decide), softResetRenderer,
      State.withGlyph_player, softResetCompositor,
      (reportAlertChange_acts (B := [.comp]) (U := UnitId.all) ((Acts.refl _ _ _).withComp _ (by decide)) tag _
        (UnitId.mem_all _)).player (by decide)]
    rfl
  rw [softReset, setPointer, State.withCmd_player, softResetMessages,
    (testHold_acts (.refl _ _ _) tag).player (by decide), State.withMessage_player, softResetSponsor,
    State.withSponsor_player, ← hbefore]
  rfl

theorem takeCommand_playerLawful (c : Instr) (hs : s.player.Lawful) (hc : Block.player ∈ commandBlocks c) :
    (takeCommand c s).player.Lawful := by
  cases c with
  | softReset h =>
    rw [takeCommand, takeSoftReset, acknowledge_player, Reply.ok, Reply.state, softReset_player]
    exact { hs.stopped with }
  | playerConfig h z e p a =>
    rw [takeCommand, takePlayerConfig, acknowledge_player]
    split
    · split
      · exact hs
      · exact { hs with }
    · exact hs
  | cueClip h c => exact takeCueClip_lawful h c hs
  | cueRange h f n => exact takeCueRange_lawful h f n hs
  | cueClock h v n => exact takeCueClock_lawful h v n hs
  | play h => exact takePlay_lawful h hs
  | pause h =>
    rw [takeCommand, takePause, acknowledge_player]
    split
    next hp => exact hs.pausedFor (hp ▸ nofun) .command
    next => exact hs
  | step h =>
    rw [takeCommand, takeStep, acknowledge_player]
    split
    next hp => exact hs.stepped hp
    next => exact hs
  | rate h r =>
    rw [takeCommand, takeRate, acknowledge_player]
    exact { hs with rate := clamp_mem (by decide) r.toNat }
  | stop h =>
    rw [takeCommand, takeStop, acknowledge_player]
    exact hs.stopped
  | _ => simp [commandBlocks] at hc

end

/-- Settles O57: the moves that touch the player keep its law. -/
theorem playerStaysLawful : Obligations.PlayerStaysLawful := by
  intro s t hs hst
  refine step_keeps (P := fun s => s.player.Lawful) (fun m s hm hs => ?_) hst hs
  by_cases hb : Block.player ∈ m.blocks
  · cases m with
    | assert => exact Player.initial_lawful
    | command c => exact takeCommand_playerLawful c hs hb
    | zoneEdge z edge => exact zoneEdge_player z edge hs
    | _ => simp [Move.blocks, burstBlocks, pulseBlocks] at hb
  · have hsame : (m.run s).player = s.player := Move.run_same hm hb
    rw [hsame]
    exact hs

end Sys2Proof.Machine
end

section
/-! SUPPORT. The law of the panels (chapter 9) through every move. -/

namespace Sys2Proof.Machine

namespace Panel.Lawful

variable {p : Panel}

/-- A panel that is not STOPPED may show anything, at any count. -/
theorem showing (h : p.Lawful) (hs : p.state ≠ .stopped) (k : Fin 32) (e : Option (Fin 128)) (n : Nat) (c : Count) :
    { p with position := k, shown := e, count := n, showing := c }.Lawful :=
  { h with stopped := fun h0 => absurd h0 hs }

theorem counted (h : p.Lawful) (hs : p.state ≠ .stopped) (n : Nat) : { p with count := n }.Lawful :=
  { h with stopped := fun h0 => absurd h0 hs }

/-- Between ROTATING and HELD. -/
theorem turned (h : p.Lawful) (hm : p.state ≠ .moment) {state : PanelState} (hs : state ≠ .stopped) :
    { p with state := state }.Lawful :=
  { h with saved := fun _ => h.saved hm, stopped := fun h0 => absurd h0 hs }

/-- A moment that begins saves what the panel did, unless one runs already. -/
theorem momentOf (h : p.Lawful) (e : Fin 128) (n : Nat) (c : Count) :
    { (if p.state = PanelState.moment then p
        else { p with savedState := p.state, savedEntry := p.shown, savedProgress := p.count }) with
      state := .moment, shown := some e, count := n, showing := c }.Lawful := by
  split
  next => exact { h with saved := fun hne => absurd rfl hne, stopped := nofun }
  next hs =>
    exact { h with
      saved := fun hne => absurd rfl hne, notNested := hs, savedStopped := fun h0 => h.stopped h0, stopped := nofun }

theorem momentEnded (h : p.Lawful) (c : Count) :
    { p with
      state := p.savedState, shown := p.savedEntry, count := p.savedProgress
      savedState := .stopped, savedEntry := none, savedProgress := 0, showing := c }.Lawful where
  saved := fun _ => ⟨rfl, rfl, rfl⟩
  notNested := nofun
  savedStopped := fun _ => ⟨rfl, rfl⟩
  stopped := fun h0 => h.savedStopped h0
  list := h.list

theorem halted (h : p.Lawful) : p.halt.Lawful where
  saved := fun _ => ⟨rfl, rfl, rfl⟩
  notNested := nofun
  savedStopped := fun _ => ⟨rfl, rfl⟩
  stopped := fun _ => ⟨rfl, rfl⟩
  list := h.list

end Panel.Lawful

theorem Panel.initial_lawful : Panel.initial.Lawful := by
  constructor <;> simp [Panel.initial]

/-- Every panel keeps its law. -/
def State.PanelsLawful (s : State) : Prop := ∀ p, (s.panel p).Lawful

theorem State.PanelsLawful.congr {s t : State} (h : s.PanelsLawful) (heq : t.sponsor.panels = s.sponsor.panels) :
    t.PanelsLawful := fun p => by
  have hp : t.panel p = s.panel p := congrArg (·.get p) heq
  rw [hp]
  exact h p

theorem panel_setPanel_self (s : State) (p : Fin 8) (x : Panel) : (s.setPanel p x).panel p = x :=
  Tab.get_set_self _ _ _

theorem State.PanelsLawful.setPanel {s : State} (h : s.PanelsLawful) (p : Fin 8) {x : Panel} (hx : x.Lawful) :
    (s.setPanel p x).PanelsLawful := by
  intro q
  by_cases hq : p = q
  · subst hq
    rw [panel_setPanel_self]
    exact hx
  · have hother : (s.setPanel p x).panel q = s.panel q := Tab.get_set_ne _ _ hq
    rw [hother]
    exact h q

/-! ## Operations -/

section
variable {s : State}

theorem search_lawful (p : Fin 8) (first : Nat) (hs : (s.panel p).state ≠ .stopped) (h : s.PanelsLawful) :
    (search p first s).PanelsLawful := by
  unfold search
  dsimp only
  split
  · exact h.setPanel p ((h p).showing hs _ _ _ _)
  · exact h.setPanel p ((h p).showing hs (s.panel p).position _ _ _)

theorem search_state (p : Fin 8) (first : Nat) (s : State) :
    ((search p first s).panel p).state = (s.panel p).state := by
  unfold search
  dsimp only
  split
  · rw [panel_setPanel_self]
  · rw [panel_setPanel_self]

theorem rotateDecision_lawful (p : Fin 8) (hs : (s.panel p).state = .rotating) (h : s.PanelsLawful) :
    (rotateDecision p s).PanelsLawful := by
  have hsearched := search_lawful p (advanceFrom (s.panel p)) (hs ▸ nofun) h
  unfold rotateDecision advanceSearch
  dsimp only
  split
  · exact hsearched
  · split
    · exact hsearched
    · exact h

theorem decision_lawful (p : Fin 8) (h : s.PanelsLawful) : (decision p s).PanelsLawful := by
  have hended : (endMoment p s).PanelsLawful := h.setPanel p ((h p).momentEnded _)
  unfold decision
  dsimp only
  split
  · exact h
  · exact h
  next hs => exact rotateDecision_lawful p hs h
  · split
    · split
      next hs => exact rotateDecision_lawful p hs hended
      next => exact hended
    · exact h

theorem progress_lawful (c : Count) (p : Fin 8) (h : s.PanelsLawful) : (progress c p s).PanelsLawful := by
  unfold progress
  dsimp only
  split
  · split
    next hs => exact h.setPanel p ((h p).counted (hs ▸ nofun) _)
    next hs => exact h.setPanel p ((h p).counted (hs ▸ nofun) _)
    next => exact h
    next => exact h
  · exact h

theorem count_lawful (id : CounterId) (h : s.PanelsLawful) : (count id s).PanelsLawful := by
  refine h.congr ?_
  obtain ⟨p, hp⟩ := count_shape id s
  rw [hp]
  rfl

theorem fulfil_panels (e : Fin 128) (cause : Nat) (p : Option (Fin 8)) (s : State) :
    (fulfil e cause p s).sponsor.panels = s.sponsor.panels := by
  unfold fulfil
  split
  · rw [postFulfilled, post_sponsor]
    rfl
  · rfl

theorem expose_lawful (e : Fin 128) (cause : Nat) (p : Option (Fin 8)) (h : s.PanelsLawful) :
    (expose e cause p s).PanelsLawful := (count_lawful (.exposed e) h).congr (fulfil_panels e cause p _)

theorem settlePanel_lawful (z : Fin 4) (r : CloseRecord) (p : Fin 8) (h : s.PanelsLawful) :
    (settlePanel z r s p).PanelsLawful := by
  unfold settlePanel
  dsimp only
  split
  · exact h
  split
  · exact count_lawful _ h
  split
  · refine decision_lawful p (progress_lawful _ p ?_)
    split
    · exact expose_lawful _ _ _ h
    · exact h
  · exact decision_lawful p (count_lawful _ h)

theorem creditMentions_lawful (l : List (Fin 128)) (h : s.PanelsLawful) : (creditMentions l s).PanelsLawful := by
  refine foldl_keeps (P := State.PanelsLawful) (fun s e h => ?_) _ h
  split
  · exact expose_lawful _ _ _ h
  · exact h

theorem closeReactions_panels (z : Fin 4) (h : s.PanelsLawful) : (closeReactions z s).PanelsLawful := by
  have hsettled : (settlePanels z (s.closeRecord z) s).PanelsLawful :=
    foldl_keeps (P := State.PanelsLawful) (fun s p => settlePanel_lawful z _ p) _ h
  refine (creditMentions_lawful (s.mentionList z (s.closeRecord z)) hsettled).congr ?_
  rw [closeReactions, discardRecord, State.withComp_sponsor, (discardCrawlRecord_acts z _).sponsor (by decide)]

theorem closeByPulse_panels (z : Fin 4) (h : s.PanelsLawful) : (closeByPulse z s).PanelsLawful :=
  closeReactions_panels z (h.congr (by rw [(countClose_acts z _ _ s).sponsor (by decide)]))

theorem startReactions_panels (z : Fin 4) (h : s.PanelsLawful) : (startReactions z s).PanelsLawful := by
  refine h.congr ?_
  rw [startReactions, latchContent, State.withGlyph_sponsor, (crawlFrameStart_acts z _).sponsor (by decide),
    latchPanels, State.withSponsor_sponsor, (playerFrameStart_acts z _).sponsor (by decide)]
  rfl

theorem framePulse_panels (z : Fin 4) (h : s.PanelsLawful) : (framePulse z s).PanelsLawful := by
  unfold framePulse
  dsimp only
  split
  · exact h
  · exact startReactions_panels z (h.congr rfl)
  · exact startReactions_panels z (h.congr (by rw [postRegained, post_sponsor]; rfl))
  · split
    · exact startReactions_panels z ((closeByPulse_panels z h).congr rfl)
    · refine count_lawful _ ?_
      split
      · exact h
      · exact h.congr (by rw [postSyncError, post_sponsor])

theorem loseZone_panels (z : Fin 4) (h : s.PanelsLawful) : (loseZone z s).PanelsLawful := by
  refine closeReactions_panels z ?_
  have hclosed : (countClose z false true s).PanelsLawful :=
    h.congr (by rw [(countClose_acts z _ _ s).sponsor (by decide)])
  refine (count_lawful (zoneCounter z 3) hclosed).congr ?_
  rw [State.setZone, State.withZones_sponsor, postLost, post_sponsor]

theorem pulseZone_panels (z : Fin 4) (h : s.PanelsLawful) : (pulseZone z s).PanelsLawful := by
  unfold pulseZone
  dsimp only
  split
  · exact loseZone_panels z h
  · split
    · exact h.congr rfl
    · exact h

theorem startMoment_lawful (p : Fin 8) (e : Fin 128) (n : Nat) (h : s.PanelsLawful) :
    (startMoment p e n s).PanelsLawful := h.setPanel p ((h p).momentOf e n _)

theorem fireMark_panels (before : Nat) (i : Fin 4) (h : s.PanelsLawful) : (fireMark before i s).PanelsLawful := by
  unfold fireMark
  dsimp only
  split
  · have hfired : ∀ x p, (post .timing 0 .mark 0 i.val p (s.withTiming x)).PanelsLawful :=
      fun x p => h.congr (by rw [post_sponsor]; rfl)
    split
    · exact hfired _ _
    · exact (hfired _ _).congr rfl
    · unfold requestMoment
      split
      · exact startMoment_lawful _ _ _ (hfired _ _)
      · exact hfired _ _
  · exact h

theorem fireMarks_panels (was : Bool) (before : Nat) (h : s.PanelsLawful) :
    (fireMarks was before s).PanelsLawful := by
  unfold fireMarks
  split
  · exact foldl_keeps (P := State.PanelsLawful) (fun _ i => fireMark_panels before i) _ h
  · exact h

theorem pulse_panels (h : s.PanelsLawful) : (pulse s).PanelsLawful := by
  have hzones : (pulseZones (pulseUptime s)).PanelsLawful :=
    foldl_keeps (P := State.PanelsLawful) (fun _ z => pulseZone_panels z) _ (h.congr rfl)
  have hclocks : (pulsePossession (s.timing.state == .running) (pulseGame (pulseHorns (pulseZones
      (pulseUptime s))))).PanelsLawful :=
    hzones.congr (congrArg Sponsor.panels ((pulseClocks_acts _ _).sponsor (by decide)))
  exact (fireMarks_panels (s.timing.state == .running) s.timing.value hclocks).congr
    (congrArg Sponsor.panels ((pulseMessages_acts _).sponsor (by decide)))

theorem advanceToPulse_panels (h : s.PanelsLawful) : (advanceToPulse s).PanelsLawful := by
  unfold advanceToPulse
  exact pulse_panels (h.congr rfl)

theorem refclkCycle_panels (h : s.PanelsLawful) : (refclkCycle s).PanelsLawful := by
  unfold refclkCycle
  dsimp only
  split
  · exact pulse_panels (h.congr rfl)
  · exact h.congr rfl

theorem startPanel_lawful (p : Fin 8) (hs : (s.panel p).state = .stopped) (h : s.PanelsLawful) :
    (startPanel p s).PanelsLawful := by
  have hturned : (s.setPanel p { s.panel p with state := .rotating }).PanelsLawful :=
    h.setPanel p ((h p).turned (hs ▸ nofun) nofun)
  have hstate : ((s.setPanel p { s.panel p with state := .rotating }).panel p).state ≠ .stopped := by
    rw [panel_setPanel_self]
    nofun
  have hsearched := search_lawful p (startFrom (s.panel p)) hstate hturned
  refine hsearched.setPanel p ((hsearched p).showing ?_ _ _ _ _)
  rw [search_state]
  exact hstate

/-! ## Commands -/

theorem depositPanel_lawful (i : Fin 8) (o : List Byte) (h : s.PanelsLawful) :
    ((depositPanel i o s).state s).PanelsLawful := by
  unfold depositPanel
  split
  · exact h
  · split_ifs
    · exact h
    · exact h.setPanel i { h i with list := Nat.min_le_left _ _ }

theorem depositSponsor_lawful (i : Fin 128) (o : List Byte) (tag : BitVec 16) (h : s.PanelsLawful) :
    ((depositSponsor i o tag s).state s).PanelsLawful := by
  unfold depositSponsor
  split
  · exact h
  · dsimp only
    split
    · exact h
    · split
      · exact h
      · dsimp only [Deposit.state]
        split
        all_goals
          split
          · exact h.congr (by rw [postFulfilled, post_sponsor]; rfl)
          · exact h.congr rfl

theorem takeDeposit_panels (hd : Header) (o : List Byte) (h : s.PanelsLawful) :
    (takeDeposit hd o s).PanelsLawful := by
  have hat : ((depositAt s.cmd.pointer o hd.tag s).state s).PanelsLawful := by
    by_cases hb : Block.sponsor ∈ s.cmd.pointer.blocks
    · cases hp : s.cmd.pointer with
      | sponsor i => exact depositSponsor_lawful i o hd.tag h
      | panel i => exact depositPanel_lawful i o h
      | panelList i =>
        unfold depositAt depositPanelList
        dsimp only
        split
        · exact h
        · exact h.congr rfl
      | _ => simp [hp, Pointer.blocks] at hb
    · exact h.congr (by rw [(depositAt_acts _ o hd.tag s).sponsor hb])
  exact hat.congr (by rw [takeDeposit_sponsor])

theorem softReset_sponsor (tag : BitVec 16) (s : State) : (softReset tag s).sponsor =
    { s.sponsor with
      panels := s.sponsor.panels.map Panel.halt
      latches := s.sponsor.latches.map (softResetLatches s.sponsor.panels) } := by
  have hbefore : (softResetPlayer (softResetCapture tag (softResetRenderer (softResetCompositor tag
      (softResetZones s))))).sponsor = s.sponsor := by
    rw [softResetPlayer, State.withPlayer_sponsor, (stopPlayer_acts _).sponsor (by decide), softResetCapture,
      (stopRecorder_acts tag .softReset _).sponsor (by decide), softResetRenderer,
      State.withGlyph_sponsor, softResetCompositor,
      (reportAlertChange_acts (B := [.comp]) (U := UnitId.all) ((Acts.refl _ _ _).withComp _ (by decide)) tag _
        (UnitId.mem_all _)).sponsor (by decide)]
    rfl
  rw [softReset, setPointer, State.withCmd_sponsor, softResetMessages,
    (testHold_acts (.refl _ _ _) tag).sponsor (by decide), State.withMessage_sponsor, softResetSponsor,
    State.withSponsor_sponsor, hbefore]

theorem takeCommand_panels (c : Instr) (hs : s.PanelsLawful) (hc : Block.sponsor ∈ commandBlocks c) :
    (takeCommand c s).PanelsLawful := by
  -- An acknowledgement leaves the panels as the command left them.
  have hack : ∀ {code unit h r}, (Reply.state s r).PanelsLawful → (acknowledge code unit h s r).PanelsLawful :=
    fun hr => hr.congr (by rw [acknowledge_sponsor])
  cases c with
  | deposit h o => exact takeDeposit_panels h o hs
  | counterClear h =>
    refine hack ?_
    split
    · exact hs
    · exact hs.congr rfl
  | softReset h =>
    refine hack fun p => ?_
    have hp : ((softReset h.tag s).panel p) = (s.panel p).halt := by
      rw [State.panel, softReset_sponsor]
      exact Tab.get_map _ _ _
    rw [Reply.ok, Reply.state, hp]
    exact (hs p).halted
  | panelStart h p =>
    refine hack ?_
    split
    · exact hs
    · split
      next hstopped => exact startPanel_lawful _ hstopped hs
      next => exact hs
  | panelStop h p =>
    refine hack ?_
    split
    · exact hs
    · exact hs.setPanel _ (hs _).halted
  | panelHold h p =>
    refine hack ?_
    split
    · exact hs
    · split
      next hstate => exact hs.setPanel _ ((hs _).turned (hstate ▸ nofun) nofun)
      next hstate => exact hs.setPanel _ ((hs _).turned (hstate ▸ nofun) nofun)
      next => exact hs
      next => exact hs
  | panelForce h p e n =>
    refine hack ?_
    split
    · exact startMoment_lawful _ _ _ hs
    · exact hs
  | _ => simp [commandBlocks] at hc

end

/-- Settles O58: the moves that touch the sponsor unit keep the law of every panel. -/
theorem panelsStayLawful : Obligations.PanelsStayLawful := by
  intro s t hs hst
  refine step_keeps (P := State.PanelsLawful) (fun m s hm hs => ?_) hst hs
  by_cases hb : Block.sponsor ∈ m.blocks
  · cases m with
    | assert =>
      intro p
      have hp : (Move.assert.run s).panel p = Panel.initial := Tab.get_fill Panel.initial p
      rw [hp]
      exact Panel.initial_lawful
    | command c => exact takeCommand_panels c hs hb
    | zoneEdge z edge =>
      rw [Move.run, zoneEdge]
      split
      · exact framePulse_panels z hs
      · exact hs
    | pulse => exact advanceToPulse_panels hs
    | cycle => exact refclkCycle_panels hs
    | _ => simp [Move.blocks, burstBlocks] at hb
  · have hsame : (m.run s).sponsor = s.sponsor := Move.run_same hm hb
    exact hs.congr (by rw [hsame])

end Sys2Proof.Machine
end

section
/-! SUPPORT. The law of the report ring (section 2.4) through every move. It reads the report wire alone, so that the
moves which only generate reports need no more than the law of one report generated. -/

namespace Sys2Proof.Machine

/-- The law of the ring before the reports have had their chance to move. -/
structure State.RingOrdered (s : State) : Prop where
  queue : s.cmd.queue.length ≤ 8
  accounted : (s.cmd.producer - s.cmd.consumer).toNat + s.bus.reportWrites.length =
    (s.cmd.nextEntry - s.cmd.consumer).toNat
  inOrder : ∀ k (hk : k < s.bus.reportWrites.length),
    (s.bus.reportWrites[k]).entry = s.cmd.producer + BitVec.ofNat 6 k

theorem State.RingLawful.ordered {s : State} (h : s.RingLawful) : s.RingOrdered := ⟨h.queue, h.accounted, h.inOrder⟩

theorem State.RingOrdered.settle {s : State} (h : s.RingOrdered) (hs : s.canMove = false) : s.RingLawful :=
  ⟨h.queue, h.accounted, h.inOrder, hs⟩

theorem ringOrdered_congr {s t : State} (h : t.wire = s.wire) (hs : s.RingOrdered) : t.RingOrdered := by
  obtain ⟨⟨hq, -, hn, -, hw⟩, hp, hc⟩ := wire_eq_iff.1 h
  constructor
  · rw [hq]
    exact hs.queue
  · rw [hn, hp, hc, hw]
    exact hs.accounted
  · rw [hp, hw]
    exact hs.inOrder

theorem ringLawful_congr {s t : State} (h : t.wire = s.wire) (hs : s.RingLawful) : t.RingLawful :=
  (ringOrdered_congr h hs.ordered).settle ((canMove_congr h).trans hs.settled)

/-! ## One move -/

theorem canMove_iff (s : State) : s.canMove = true ↔
    s.cmd.queue ≠ [] ∧ s.cmd.unacknowledged < 63 ∧ s.bus.reportWrites.length < 2 := by
  unfold State.canMove Config.ringCapacity Config.reportWriteCapacity
  simp [and_assoc]

theorem moveReport_cons {s : State} {r : Report} {rest : List Report} (hq : s.cmd.queue = r :: rest) :
    moveReport s = (s.withBus { s.bus with
        reportWrites := s.bus.reportWrites ++
          [{ entry := s.cmd.nextEntry, data := r.bytes s.cmd.lost (!s.cmd.oddLap) }] }).withCmd
      { s.cmd with
        queue := rest, lost := false, nextEntry := s.cmd.nextEntry + 1
        oddLap := if s.cmd.nextEntry = 63 then !s.cmd.oddLap else s.cmd.oddLap } := by
  unfold moveReport
  rw [hq]

/-- The place of the last of `n` steps round the ring of 64. -/
theorem ring_place {p c n : BitVec 6} {k : Nat} (h : (p - c).toNat + k = (n - c).toNat) :
    n = p + BitVec.ofNat 6 k := by
  apply BitVec.eq_of_toNat_eq
  rw [ringDistance_toNat, ringDistance_toNat] at h
  rw [BitVec.toNat_add, BitVec.toNat_ofNat]
  omega

/-- One step of the ring, short of a full lap. -/
theorem ring_succ {n c : BitVec 6} (h : (n - c).toNat < 63) : (n + 1 - c).toNat = (n - c).toNat + 1 := by
  have hone : (n + 1).toNat = (n.toNat + 1) % 64 := BitVec.toNat_add n 1
  simp only [ringDistance_toNat, hone] at h ⊢
  omega

theorem moveReport_ordered {s : State} (hm : s.canMove = true) (h : s.RingOrdered) :
    (moveReport s).RingOrdered := by
  obtain ⟨hq, hroom, -⟩ := (canMove_iff s).1 hm
  obtain ⟨r, rest, hq⟩ := List.exists_cons_of_ne_nil hq
  have hlen : rest.length + 1 ≤ 8 := by simpa [hq] using h.queue
  have hplace := ring_place h.accounted
  rw [moveReport_cons hq]
  constructor
  · exact Nat.le_of_succ_le hlen
  · simp only [State.withCmd_cmd, State.withCmd_bus, State.withBus_bus, List.length_append, List.length_singleton]
    rw [ring_succ hroom, ← h.accounted]
    omega
  · intro k hk
    simp only [State.withCmd_bus, State.withBus_bus, List.length_append, List.length_singleton] at hk
    simp only [State.withCmd_cmd, State.withCmd_bus, State.withBus_bus]
    by_cases hlast : k < s.bus.reportWrites.length
    · rw [List.getElem_append_left hlast]
      exact h.inOrder k hlast
    · have hk' : k = s.bus.reportWrites.length := by omega
      subst hk'
      rw [List.getElem_append_right (Nat.le_refl _)]
      simpa using hplace

theorem moveUpTo_lawful (n : Nat) {s : State} (hn : s.cmd.queue.length ≤ n) (h : s.RingOrdered) :
    (moveUpTo n s).RingLawful := by
  induction n generalizing s with
  | zero =>
    have hempty : s.cmd.queue = [] := List.length_eq_zero_iff.1 (Nat.le_zero.1 hn)
    exact h.settle (Bool.eq_false_of_not_eq_true fun hm => ((canMove_iff s).1 hm).1 hempty)
  | succ n ih =>
    unfold moveUpTo
    split
    next hm =>
      obtain ⟨r, rest, hq⟩ := List.exists_cons_of_ne_nil ((canMove_iff s).1 hm).1
      refine ih ?_ (moveReport_ordered hm h)
      rw [moveReport_cons hq]
      simpa [hq] using hn
    next hm => exact h.settle (Bool.eq_false_of_not_eq_true hm)

theorem moveReports_lawful {s : State} (h : s.RingOrdered) : (moveReports s).RingLawful :=
  moveUpTo_lawful _ (Nat.le_refl _) h

theorem moveOne_lawful {s : State} (h : s.RingLawful) : (moveOne s).RingLawful := by
  rw [moveOne, h.settled]
  exact h

/-! ## A report generated -/

theorem lost_lawful {s : State} (h : s.RingLawful) : (s.withCmd { s.cmd with lost := true }).RingLawful :=
  ⟨h.queue, h.accounted, h.inOrder, h.settled⟩

theorem enqueue_lawful (r : Report) {s : State} (h : s.RingLawful) : (enqueue r s).RingLawful := by
  unfold enqueue
  split
  next hroom =>
    have hjoined : (s.withCmd { s.cmd with queue := s.cmd.queue ++ [r] }).RingOrdered := by
      refine ⟨?_, h.accounted, h.inOrder⟩
      simpa using (show s.cmd.queue.length + 1 ≤ 8 from hroom)
    dsimp only
    split
    · exact moveReports_lawful hjoined
    next hq =>
      refine hjoined.settle (Bool.eq_false_of_not_eq_true fun hm => ?_)
      have hwould : s.canMove = true := by
        rw [canMove_iff] at hm ⊢
        exact ⟨fun hnil => hq (by rw [hnil]; rfl), hm.2⟩
      exact absurd (h.settled.symm.trans hwould) Bool.false_ne_true
  · exact lost_lawful h

theorem offer_lawful (rs : List Report) {s : State} (h : s.RingLawful) : (s.offer rs).RingLawful :=
  foldl_keeps (P := State.RingLawful) (fun _ r => enqueue_lawful r) rs h

theorem enqueuePair_lawful (r₁ r₂ : Report) {s : State} (h : s.RingLawful) :
    (enqueuePair r₁ r₂ s).RingLawful := by
  unfold enqueuePair
  split
  · exact enqueue_lawful r₂ (enqueue_lawful r₁ h)
  · exact lost_lawful h

/-- A move that only generates reports. -/
theorem Acts.ringLawful {B : List Block} {U : List UnitId} {s t : State} (h : Acts B U s t) (hs : s.RingLawful) :
    t.RingLawful := by
  obtain ⟨rs, -, hrs⟩ := h.sent
  exact ringLawful_congr hrs (offer_lawful rs hs)

/-! ## The moves that do more -/

/-- C forward, no further than P. -/
theorem ring_acknowledge {p c n d : BitVec 6} {k : Nat} (h : (p - c).toNat + k = (n - c).toNat)
    (hd : (d - c).toNat ≤ (p - c).toNat) : (p - d).toNat + k = (n - d).toNat := by
  simp only [ringDistance_toNat] at *
  omega

theorem takeReportAck_lawful (hd : Header) (index : Byte) {s : State} (h : s.RingLawful) :
    (takeReportAck hd index s).RingLawful := by
  by_cases hin : s.cmd.AckInRange index
  · rw [takeReportAck_accepted hd hin]
    refine offer_lawful _ (moveReports_lawful ⟨h.queue, ?_, h.inOrder⟩)
    obtain ⟨-, hacc⟩ := (ackTest_iff s.cmd index).2 hin
    exact ring_acknowledge h.accounted (of_decide_eq_true hacc)
  · rw [takeReportAck_refused hd hin]
    exact offer_lawful _ h

theorem takeExamine_lawful (hd : Header) {s : State} (h : s.RingLawful) : (takeExamine hd s).RingLawful := by
  refine ringLawful_congr (s := answerEntry hd s.cmd.pointer (s.entryBytes s.cmd.pointer) s) rfl ?_
  unfold answerEntry
  split
  · exact enqueue_lawful _ h
  · exact enqueuePair_lawful _ _ h

theorem grantReport_lawful {s : State} (h : s.RingLawful) : (grantReport s).RingLawful := by
  unfold grantReport
  split
  · exact h
  next w rest hw =>
    have hacc := h.accounted
    have hfull := (s.cmd.nextEntry - s.cmd.consumer).isLt
    rw [hw, List.length_cons] at hacc
    refine moveReports_lawful ⟨h.queue, ?_, fun k hk => ?_⟩
    · show (s.cmd.producer + 1 - s.cmd.consumer).toNat + rest.length = (s.cmd.nextEntry - s.cmd.consumer).toNat
      rw [ring_succ (by omega)]
      omega
    · have hentry := h.inOrder (k + 1) (by rw [hw]; exact Nat.succ_lt_succ hk)
      simp only [hw, List.getElem_cons_succ] at hentry
      refine hentry.trans ?_
      show _ = s.cmd.producer + 1 + BitVec.ofNat 6 k
      rw [BitVec.add_assoc, Nat.add_comm k 1, BitVec.ofNat_add]
      rfl

theorem resetAsserted_ring (s : State) : (resetAsserted s).RingLawful where
  queue := Nat.zero_le _
  accounted := rfl
  inOrder := fun _ hk => absurd hk (Nat.not_lt_zero _)
  settled := rfl

/-- Settles O54: a move either only generates reports, or it is one of those that move them, acknowledge them or
clear the ring. -/
theorem reportRingStaysLawful : Obligations.ReportRingStaysLawful := by
  intro s t hs hst
  refine step_keeps (P := State.RingLawful) (fun m s hm hs => ?_) hst hs
  by_cases hp : m.onlyPosts = true
  · exact (Move.run_acts hm hp).ringLawful hs
  · cases m with
    | assert => exact resetAsserted_ring s
    | grantReport => exact grantReport_lawful hs
    | moveOne => exact moveOne_lawful hs
    | command c =>
      cases c with
      | examine h => exact takeExamine_lawful h hs
      | reportAck h index => exact takeReportAck_lawful h index hs
      | _ => exact absurd rfl hp
    | _ => exact absurd rfl hp

end Sys2Proof.Machine
end

section
/-! SUPPORT. The capacities of the bus path (chapter 1) through every move. Reports that are generated or moved
only lengthen the report write queue, up to its capacity; what else a move does is said of the other queues. -/

namespace Sys2Proof.Machine

/-! ## The report write queue -/

/-- The report writes of `s` stand at the head of those of `t`, and there are no more than the queue holds. -/
def State.Lengthens (s t : State) : Prop :=
  ∃ ws, t.bus.reportWrites = s.bus.reportWrites ++ ws ∧
    (s.bus.reportWrites.length ≤ 2 → t.bus.reportWrites.length ≤ 2)

theorem lengthens_of_eq {s t : State} (h : t.bus.reportWrites = s.bus.reportWrites) : s.Lengthens t :=
  ⟨[], by rw [h, List.append_nil], fun hs => h ▸ hs⟩

theorem State.Lengthens.trans {s t u : State} (h : s.Lengthens t) (k : t.Lengthens u) : s.Lengthens u := by
  obtain ⟨ws, hws, hle⟩ := h
  obtain ⟨vs, hvs, kle⟩ := k
  exact ⟨ws ++ vs, by rw [hvs, hws, List.append_assoc], fun hs => kle (hle hs)⟩

theorem moveReport_lengthens {s : State} (hm : s.canMove = true) : s.Lengthens (moveReport s) := by
  obtain ⟨hq, -, hroom⟩ := (canMove_iff s).1 hm
  obtain ⟨r, rest, hq⟩ := List.exists_cons_of_ne_nil hq
  rw [moveReport_cons hq]
  refine ⟨_, rfl, fun _ => ?_⟩
  simp only [State.withCmd_bus, State.withBus_bus, List.length_append, List.length_singleton]
  omega

theorem moveUpTo_lengthens (n : Nat) (s : State) : s.Lengthens (moveUpTo n s) := by
  induction n generalizing s with
  | zero => exact lengthens_of_eq rfl
  | succ n ih =>
    unfold moveUpTo
    split
    next hm => exact (moveReport_lengthens hm).trans (ih _)
    next => exact lengthens_of_eq rfl

theorem enqueue_lengthens (r : Report) (s : State) : s.Lengthens (enqueue r s) := by
  unfold enqueue
  split
  · dsimp only
    split
    · exact (lengthens_of_eq rfl).trans (moveUpTo_lengthens _ _)
    · exact lengthens_of_eq rfl
  · exact lengthens_of_eq rfl

theorem offer_lengthens (rs : List Report) (s : State) : s.Lengthens (s.offer rs) := by
  induction rs generalizing s with
  | nil => exact lengthens_of_eq rfl
  | cons r rs ih => exact (enqueue_lengthens r s).trans (ih _)

theorem Acts.lengthens {B : List Block} {U : List UnitId} {s t : State} (h : Acts B U s t) : s.Lengthens t := by
  obtain ⟨rs, -, hrs⟩ := h.sent
  exact (offer_lengthens rs s).trans (lengthens_of_eq (wire_eq_iff.1 hrs).1.2.2.2.2)

/-! ## The other queues -/

/-- The queues of the bus path but for the report writes, and the wait count. -/
structure BusPath.Holds (w : Nat) (b : BusPath) : Prop where
  forward : b.forward.length ≤ 16
  responses : b.responses.length ≤ 32
  mirrors : b.mirrors.length ≤ 32
  synth : ∀ e ∈ b.responses, e.kind = .synth → e.complete = true
  wait : b.waitCount = w

theorem BusPath.Lawful.holds {b : BusPath} (h : b.Lawful) : b.Holds b.waitCount :=
  ⟨h.forward, h.responses, h.mirrors, h.synth, rfl⟩

/-- A block left as it is, the report writes apart. -/
theorem BusPath.Holds.same {w : Nat} {s t : State} (h : s.bus.Holds w) (hsame : Block.bus.Same s t) : t.bus.Holds w := by
  have hbus : t.bus = { s.bus with reportWrites := t.bus.reportWrites } := hsame
  rw [hbus]
  exact { h with }

theorem lawful_of_holds {s t : State} {w : Nat} (hs : s.bus.Lawful) (ht : t.bus.Holds w) (hlen : s.Lengthens t)
    (hw : w ≤ 64) (hidle : s.bus.reportWrites = [] → w = 0) : t.bus.Lawful := by
  obtain ⟨ws, hws, hle⟩ := hlen
  have hwait := ht.wait
  refine { ht with reportWrites := hle hs.reportWrites, wait := hwait ▸ hw, idleWait := fun hnil => ?_ }
  rw [hwait]
  exact hidle (List.append_eq_nil_iff.1 (hws ▸ hnil)).1

/-- A move that leaves the wait count. -/
theorem lawful_of_same_wait {s t : State} (hs : s.bus.Lawful) (ht : t.bus.Holds s.bus.waitCount)
    (hlen : s.Lengthens t) : t.bus.Lawful := lawful_of_holds hs ht hlen hs.wait hs.idleWait

/-! ## The acceptance of a burst -/

/-- What the bus path must have room for (R4). -/
structure State.Room (s : State) (b : Burst) : Prop where
  forward : s.forwards b = true → s.bus.forward.length < 16
  responses : b.dir = .read → s.bus.responses.length < 32

theorem State.admits.room {s : State} {b : Burst} (h : s.admits b) : s.Room b := by
  refine ⟨admits_forward h, fun hread => ?_⟩
  have hwithholds : s.withholds b = false := h
  rw [State.withholds, Bool.or_eq_false_iff, Bool.or_eq_false_iff, hread] at hwithholds
  exact Nat.lt_of_not_le (of_decide_eq_false (show decide (32 ≤ s.bus.responses.length) = false from hwithholds.1.2))

section
variable {w : Nat} {s : State} {b : Burst}

theorem forwardAt_holds (a : BitVec 36) (hroom : s.bus.forward.length < 16) (h : s.bus.Holds w) :
    (forwardAt a b s).bus.Holds w :=
  { h with forward := by simp only [forwardAt, State.withBus_bus, List.length_append, List.length_singleton]; omega }

theorem addEntry_holds {kind : ResponseKind} {data : List Pixel} {complete : Bool}
    (hroom : s.bus.responses.length < 32) (hsynth : kind = .synth → complete = true) (h : s.bus.Holds w) :
    (addEntry b kind data complete s).bus.Holds w := by
  refine { h with responses := ?_, synth := ?_ }
  · simp only [addEntry, State.withBus_bus, List.length_append, List.length_singleton]
    omega
  · intro e he
    simp only [addEntry, State.withBus_bus, List.mem_append, List.mem_singleton] at he
    obtain hold | rfl := he
    · exact h.synth e hold
    · exact hsynth

theorem passThrough_holds (hforward : s.bus.forward.length < 16)
    (hresponses : b.dir = .read → s.bus.responses.length < 32) (h : s.bus.Holds w) :
    (passThrough b s).bus.Holds w := by
  have hf := forwardAt_holds (b := b) b.addr hforward h
  unfold passThrough
  dsimp only
  split
  · exact hf
  next hread => exact addEntry_holds (hresponses hread) nofun hf

theorem actOn_holds {o : ReadOutcome} (hforward : (∀ pixels, o ≠ .synthesize pixels) → s.bus.forward.length < 16)
    (hresponses : s.bus.responses.length < 32) (h : s.bus.Holds w) : (actOn b o s).bus.Holds w := by
  unfold actOn
  split
  · exact addEntry_holds hresponses nofun (forwardAt_holds b.addr (hforward nofun) h)
  · exact addEntry_holds hresponses nofun (forwardAt_holds _ (hforward nofun) h)
  · exact addEntry_holds hresponses nofun (forwardAt_holds _ (hforward nofun) h)
  · exact addEntry_holds hresponses (fun _ => rfl) h

/-- Only a READ is classified as a zone read. -/
theorem read_of_zoneRead {z : Fin 4} (h : s.classify b = .zoneRead z) : b.dir = .read := by
  cases hdir : b.dir with
  | read => rfl
  | write =>
    simp only [State.classify, hdir] at h
    split_ifs at h

theorem acceptZoneRead_holds {z : Fin 4} (hclass : s.classify b = .zoneRead z) (hroom : s.Room b)
    (h : s.bus.Holds w) : (acceptZoneRead z b s).bus.Holds w := by
  unfold acceptZoneRead
  dsimp only
  have hbus : (markServed z ((s.zone z).place b.addr.toNat)
      (coverRead z ((s.zone z).place b.addr.toNat).line s)).bus = s.bus := by
    unfold markServed coverRead
    dsimp only
    split
    · split <;> rfl
    · split <;> rfl
  refine actOn_holds (fun hforwards => ?_) ?_ ?_
  · rw [hbus]
    refine hroom.forward ?_
    rw [State.forwards, hclass]
    dsimp only
    split
    next pixels hsynth => exact absurd hsynth (hforwards pixels)
    next => rfl
    next => rfl
  · rw [hbus]
    exact hroom.responses (read_of_zoneRead hclass)
  · rw [hbus]
    exact h

theorem queueCopy_holds (k : Fin 1024) (b : Burst) (h : s.bus.Holds w) : (queueCopy k b s).bus.Holds w := by
  unfold queueCopy
  split
  · have hcount : Acts [.counters] UnitId.all (markDropped k s) (countMirrorDrop (markDropped k s)) :=
      count_acts (.refl _ _ _) (.path 2) (UnitId.mem_all _) (by decide)
    exact h.same (s := markDropped k s) (hcount.same .bus (by decide))
  next hfull =>
    have hroom : s.bus.mirrors.length < 32 :=
      Nat.lt_of_not_le fun hle => hfull (decide_eq_true (show 32 ≤ s.bus.mirrors.length from hle))
    exact { h with
      mirrors := by
        simp only [raiseOutstanding, State.withCapture_bus, State.withBus_bus, List.length_append,
          List.length_singleton]
        omega }

theorem acceptLiveWrite_holds (hforward : s.bus.forward.length < 16) (h : s.bus.Holds w) :
    (acceptLiveWrite b s).bus.Holds w := by
  have hf := forwardAt_holds (b := b) b.addr hforward h
  unfold acceptLiveWrite
  dsimp only
  split
  · exact hf
  next k _ => exact queueCopy_holds k b (s := coverLine k b.addr.toNat (forwardAsIs b s)) hf

/-- A burst that is no command. -/
theorem acceptBurst_holds (hroom : s.Room b) (h : s.bus.Holds w)
    (hrecord : ¬ s.TakesRecord b) : (acceptBurst b s).bus.Holds w := by
  have hforward : (∀ z, s.classify b ≠ .zoneRead z) → s.bus.forward.length < 16 := by
    intro hno
    refine hroom.forward ?_
    unfold State.forwards
    split
    next z hz => exact absurd hz (hno z)
    next => rfl
  have hcount : ∀ {t : State} i, t.bus.Holds w → (count (.path i) t).bus.Holds w := by
    intro t i ht
    have hcounted : Acts [.counters] UnitId.all t (count (.path i) t) :=
      count_acts (.refl _ _ _) (.path i) (UnitId.mem_all _) (by decide)
    exact ht.same (hcounted.same .bus (by decide))
  unfold acceptBurst
  split
  next hclass => exact hcount 0 (passThrough_holds (hforward (hclass ▸ nofun)) hroom.responses h)
  next hclass =>
    have hroom' := hforward (hclass ▸ nofun)
    unfold acceptControl
    split
    · exact passThrough_holds hroom' hroom.responses h
    next hwrite =>
      unfold acceptControlWrite
      dsimp only
      split
      next hhalf =>
        split
        next hwhole => exact absurd ⟨hclass, hwrite, hhalf, hwhole⟩ hrecord
        next => exact hcount 1 (forwardAt_holds b.addr hroom' h)
      · exact forwardAt_holds b.addr hroom' h
  next hclass => exact acceptLiveWrite_holds (hforward (hclass ▸ nofun)) h
  next z hclass => exact acceptZoneRead_holds hclass hroom h
  next hclass => exact passThrough_holds (hforward (hclass ▸ nofun)) hroom.responses h

end

/-! ## The memory port and the responses -/

section
variable {s : State}

/-- A report write that has waited long enough wins, so that another winner leaves room to count one grant more. -/
theorem waited_le {c : Candidate} (hwin : s.bus.winner = some c) (hc : c ≠ .reportWrite) (h : s.bus.Lawful) :
    s.bus.waited ≤ 64 := by
  unfold BusPath.waited
  split
  · exact h.wait
  next hwrites =>
    by_contra hle
    have hpatience : s.bus.waitCount ≥ Config.reportPatience := by
      unfold Config.reportPatience
      omega
    have hfirst : s.bus.winner = some .reportWrite := by
      unfold BusPath.winner
      rw [if_pos]
      simp [hwrites, hpatience]
    exact hc (Option.some.inj (hwin.symm.trans hfirst))

theorem waited_idle (h : s.bus.Lawful) (hnil : s.bus.reportWrites = []) : s.bus.waited = 0 := by
  rw [BusPath.waited, hnil]
  exact h.idleWait hnil

theorem grantForward_lawful (hwin : s.bus.winner = some .forward) (h : s.bus.Lawful) :
    (grantForward s).bus.Lawful := by
  have hlen := (grantForward_acts s).lengthens
  revert hlen
  unfold grantForward
  split
  · exact fun _ => h
  next b rest hq =>
    intro hlen
    refine lawful_of_holds h ?_ hlen (waited_le hwin nofun h) (waited_idle h)
    refine { h.holds with forward := ?_, wait := rfl }
    have hle := h.forward
    rw [hq, List.length_cons] at hle
    exact Nat.le_of_succ_le hle

theorem grantMirror_lawful (hwin : s.bus.winner = some .mirror) (h : s.bus.Lawful) :
    (grantMirror s).bus.Lawful := by
  have hlen := (grantMirror_acts s).lengthens
  revert hlen
  unfold grantMirror
  split
  · exact fun _ => h
  next m rest hq =>
    intro hlen
    refine lawful_of_holds h ?_ hlen (waited_le hwin nofun h) (waited_idle h)
    refine { h.holds with mirrors := ?_, wait := rfl }
    have hle := h.mirrors
    rw [hq, List.length_cons] at hle
    exact Nat.le_of_succ_le hle

theorem moveReports_busLawful (h : s.bus.Lawful) : (moveReports s).bus.Lawful := by
  obtain ⟨p, hp⟩ := moveReports_shape s
  refine lawful_of_same_wait h (h.holds.same ?_) (moveUpTo_lengthens _ s)
  rw [hp]
  exact Block.same_withReportPath s p .bus

theorem grantReport_busLawful (h : s.bus.Lawful) : (grantReport s).bus.Lawful := by
  unfold grantReport
  split
  · exact h
  next w rest hw =>
    have hle := h.reportWrites
    rw [hw, List.length_cons] at hle
    exact moveReports_busLawful
      { h with reportWrites := Nat.le_of_succ_le hle, wait := Nat.zero_le _, idleWait := fun _ => rfl }

theorem matchResponse_length (free : Nat) (pixels : List Pixel) (l : List ResponseEntry) :
    (matchResponse free pixels l).length = l.length := by
  induction l with
  | nil => rfl
  | cons e rest ih =>
    unfold matchResponse
    split
    · simp [ih]
    · rfl

theorem matchResponse_synth {free : Nat} {pixels : List Pixel} {l : List ResponseEntry}
    (h : ∀ e ∈ l, e.kind = .synth → e.complete = true) :
    ∀ e ∈ matchResponse free pixels l, e.kind = .synth → e.complete = true := by
  induction l with
  | nil => exact h
  | cons e rest ih =>
    have hrest : ∀ e ∈ rest, e.kind = .synth → e.complete = true :=
      fun e he => h e (List.mem_cons_of_mem _ he)
    unfold matchResponse
    split
    · intro x hx
      obtain rfl | hx := List.mem_cons.1 hx
      · exact h x List.mem_cons_self
      · exact ih hrest x hx
    · intro x hx
      obtain rfl | hx := List.mem_cons.1 hx
      · intro _
        unfold ResponseEntry.answer
        split <;> rfl
      · exact hrest x hx

theorem takeResponse_lawful (pixels : List Pixel) (h : s.bus.Lawful) : (takeResponse pixels s).bus.Lawful := by
  refine lawful_of_same_wait h ?_ (takeResponse_acts pixels s).lengthens
  exact { h.holds with
    responses := (matchResponse_length _ _ _).trans_le h.responses
    synth := matchResponse_synth h.synth }

theorem returnResponse_lawful (h : s.bus.Lawful) : (returnResponse s).bus.Lawful := by
  unfold returnResponse
  split
  · exact h
  next e rest hq =>
    split
    · have hle := h.responses
      rw [hq, List.length_cons] at hle
      exact { h with
        responses := Nat.le_of_succ_le hle
        synth := fun x hx => h.synth x (hq ▸ List.mem_cons_of_mem _ hx) }
    · exact h

theorem withhold_lawful (b : Burst) (h : s.bus.Lawful) : (withhold b s).bus.Lawful := by
  refine lawful_of_same_wait h ?_ (withhold_acts b s).lengthens
  let held := s.withBus { s.bus with withheld := some { burst := b, counted := s.bus.counted || s.mirrorStalled b } }
  have hheld : held.bus.Holds s.bus.waitCount := { h.holds with }
  unfold withhold
  dsimp only
  split
  · have hcount : Acts [.counters] UnitId.all held (countStall held) :=
      count_acts (.refl _ _ _) (.path 3) (UnitId.mem_all _) (by decide)
    exact hheld.same (hcount.same .bus (by decide))
  · exact hheld

/-! What a read is composed to does not depend on the bus path. -/

theorem walk_withBus (x : BusPath) (z : Fin 4) (p : ReadPlace) (beat k : Nat) (clockOnly : Bool)
    (l : List Placed) : (s.withBus x).walk z p beat k clockOnly l = s.walk z p beat k clockOnly l := by
  induction l generalizing clockOnly with
  | nil => rfl
  | cons w rest ih => simp only [State.walk, ih, State.withBus_glyph]

theorem decided_withBus (x : BusPath) (z : Fin 4) (p : ReadPlace) (n : Nat) :
    (s.withBus x).decided z p n = s.decided z p n := by
  unfold State.decided
  simp only [walk_withBus]
  rfl

theorem compose_withBus (x : BusPath) (z : Fin 4) (a n : Nat) : (s.withBus x).compose z a n = s.compose z a n := by
  unfold State.compose
  simp only [decided_withBus]
  rfl

theorem forwards_withBus (x : BusPath) (b : Burst) : (s.withBus x).forwards b = s.forwards b := by
  unfold State.forwards
  simp only [compose_withBus]
  rfl

theorem acceptPresented_lawful {b : Burst} (hadmits : s.admits b) (hrecord : ¬ s.TakesRecord b)
    (h : s.bus.Lawful) : (acceptPresented b s).bus.Lawful := by
  let freed : State := s.withBus { s.bus with withheld := none }
  have hroom : freed.Room b :=
    ⟨fun hf => hadmits.room.forward ((forwards_withBus _ b).symm.trans hf), hadmits.room.responses⟩
  have hfreed : freed.bus.Holds s.bus.waitCount := { h.holds with }
  exact lawful_of_same_wait h (acceptBurst_holds hroom hfreed hrecord) (acceptPresented_acts hrecord).lengthens

end

/-- Any move lengthens the report writes, but for the two that take some away. -/
theorem Move.run_lengthens {m : Move} {s : State} (hm : m.Arises s) (ha : m ≠ .assert) (hg : m ≠ .grantReport) :
    s.Lengthens (m.run s) := by
  by_cases hp : m.onlyPosts = true
  · exact (Move.run_acts hm hp).lengthens
  · cases m with
    | assert => exact absurd rfl ha
    | grantReport => exact absurd rfl hg
    | moveOne =>
      rw [run, Machine.moveOne]
      split
      next hm => exact moveReport_lengthens hm
      next => exact lengthens_of_eq rfl
    | command c =>
      cases c with
      | examine h =>
        refine State.Lengthens.trans ?_ (lengthens_of_eq (s := answerEntry h s.cmd.pointer
          (s.entryBytes s.cmd.pointer) s) rfl)
        unfold answerEntry
        split
        · exact enqueue_lengthens _ s
        · unfold enqueuePair
          split
          · exact (enqueue_lengthens _ s).trans (enqueue_lengthens _ _)
          · exact lengthens_of_eq rfl
      | reportAck h index =>
        rw [run, takeCommand]
        by_cases hin : s.cmd.AckInRange index
        · rw [takeReportAck_accepted h hin]
          refine (lengthens_of_eq (t := s.withCmd { s.cmd with consumer := index.setWidth 6 }) rfl).trans ?_
          exact State.Lengthens.trans (moveUpTo_lengthens _ _) (offer_lengthens _ (moveReports _))
        · rw [takeReportAck_refused h hin]
          exact offer_lengthens _ s
      | _ => exact absurd rfl hp
    | _ => exact absurd rfl hp

/-- Settles O53: the moves that touch the bus path respect its capacities, and every other one lengthens the
report writes at most. -/
theorem busPathStaysLawful : Obligations.BusPathStaysLawful := by
  intro s t hs hst
  refine step_keeps (P := fun s => s.bus.Lawful) (fun m s hm hs => ?_) hst hs
  by_cases hb : Block.bus ∈ m.blocks
  · cases m with
    | assert => constructor <;> simp [Move.run, resetAsserted, State.initial, BusPath.initial]
    | command c => cases c <;> simp [Move.blocks, commandBlocks, softResetBlocks] at hb
    | withhold b => exact withhold_lawful b hs
    | accept b => exact acceptPresented_lawful hm.1 hm.2 hs
    | record b =>
      refine lawful_of_same_wait hs ?_ (Move.run_lengthens hm nofun nofun)
      exact forwardAt_holds (s := s.withBus { s.bus with withheld := none }) b.addr hm { hs.holds with }
    | grantForward => exact grantForward_lawful hm hs
    | grantMirror => exact grantMirror_lawful hm hs
    | grantReport => exact grantReport_busLawful hs
    | response pixels => exact takeResponse_lawful pixels hs
    | giveBack => exact returnResponse_lawful hs
    | _ => simp [Move.blocks, zoneBlocks, pulseBlocks] at hb
  · refine lawful_of_same_wait hs (hs.holds.same (Move.run_same hm hb)) (Move.run_lengthens hm ?_ ?_)
    · rintro rfl
      exact hb (by decide)
    · rintro rfl
      exact hb (by decide)

end Sys2Proof.Machine
end

section
/-! SUPPORT. The law of the zones and the law of the windows (chapters 3 and 4) through every move. -/

namespace Sys2Proof.Machine

/-! ## One zone -/

namespace Zone.Lawful

variable {z : Zone}

theorem openFrame (h : z.Lawful) (hs : z.state ≠ .idle) : z.opened.Lawful where
  geometry := fun _ => h.geometry hs
  closed := fun hne => absurd rfl hne
  opened := fun _ => rfl
  coverage := ⟨List.nodup_nil, nofun⟩

theorem lose (h : z.Lawful) (hs : z.state ≠ .idle) : z.lose.Lawful where
  geometry := fun _ => h.geometry hs
  closed := fun _ => ⟨rfl, rfl⟩
  opened := nofun
  coverage := ⟨List.nodup_nil, nofun⟩

theorem softReset (_ : z.Lawful) : z.softReset.Lawful where
  geometry := fun hne => absurd rfl hne
  closed := fun _ => ⟨rfl, rfl⟩
  opened := nofun
  coverage := ⟨List.nodup_nil, nofun⟩

theorem timed (h : z.Lawful) (hs : z.state = .scanning) (n : Nat) : { z with lossTimer := some n }.Lawful :=
  { h with closed := fun hne => absurd hs hne, opened := fun _ => rfl }

theorem cover (h : z.Lawful) (hs : z.state = .scanning) {line : Nat} (hline : line < z.lines) :
    { z with coverage := addLine line z.coverage }.Lawful := by
  refine { h with closed := fun hne => absurd hs hne, coverage := ?_ }
  dsimp only
  unfold addLine
  split
  · exact h.coverage
  next hnew =>
    refine ⟨?_, fun l hl => ?_⟩
    · rw [List.nodup_append]
      refine ⟨h.coverage.1, List.nodup_singleton _, fun a ha b hb hab => hnew ?_⟩
      rw [List.mem_singleton.1 hb] at hab
      exact List.contains_iff_mem.2 (hab ▸ ha)
    · obtain hl | hl := List.mem_append.1 hl
      · exact h.coverage.2 l hl
      · exact List.mem_singleton.1 hl ▸ hline

/-- An accepted deposit: either the zone goes to IDLE or comes from it, and no frame is open; or it goes on with the
geometry it has. -/
theorem written (h : z.Lawful) {d : ZoneDeposit} (hd : d.enabled = true → 1 ≤ d.lines ∧ 1 ≤ d.width ∧
    d.base + d.lines * d.pitch ≤ 0x1000000000) (hsame : z.state ≠ .idle → d.enabled = true → d.lines = z.lines) :
    (z.written d).Lawful := by
  by_cases henabled : d.enabled = true
  · by_cases hidle : z.state = .idle
    · refine ⟨fun _ => hd henabled, fun _ => ?_, fun hs => ?_, ?_⟩
      · simp [Zone.written, hidle]
      · simp [Zone.written, Zone.stateAfter, henabled, hidle] at hs
      · simp [Zone.written, hidle]
    · have hgo : (d.enabled && z.state != .idle) = true := by simp [henabled, hidle]
      have hstate : (z.written d).state = z.state := by simp [Zone.written, Zone.stateAfter, henabled, hidle]
      have hcover : (z.written d).coverage = z.coverage := by simp [Zone.written, hgo]
      have htimer : (z.written d).lossTimer = z.lossTimer := by simp [Zone.written, hgo]
      refine ⟨fun _ => hd henabled, ?_, ?_, ?_⟩
      · rw [hstate, hcover, htimer]
        exact h.closed
      · rw [hstate, htimer]
        exact h.opened
      · rw [hcover]
        refine ⟨h.coverage.1, fun l hl => ?_⟩
        show l < d.lines
        rw [hsame hidle henabled]
        exact h.coverage.2 l hl
  · have hoff : d.enabled = false := Bool.eq_false_of_not_eq_true henabled
    refine ⟨fun hs => ?_, fun _ => ?_, fun hs => ?_, ?_⟩
    · simp [Zone.written, Zone.stateAfter, hoff] at hs
    · simp [Zone.written, hoff]
    · simp [Zone.written, Zone.stateAfter, hoff] at hs
    · simp [Zone.written, hoff]

end Zone.Lawful

theorem Zone.initial_lawful : Zone.initial.Lawful := by
  constructor <;> simp [Zone.initial]

/-! ## Zones and windows together -/

/-- The law of the zones and of the windows. -/
structure State.FramesLawful (s : State) : Prop where
  zones : ∀ z, (s.zone z).Lawful
  windows : s.WindowsLawful

theorem zone_setZone_self (s : State) (z : Fin 4) (x : Zone) : (s.setZone z x).zone z = x :=
  Tab.get_set_self _ _ _

theorem zone_setZone_ne (s : State) {z y : Fin 4} (x : Zone) (h : z ≠ y) : (s.setZone z x).zone y = s.zone y :=
  Tab.get_set_ne _ _ h

namespace State.FramesLawful

variable {s t : State}

theorem congr (h : s.FramesLawful) (hz : t.zones = s.zones) (hc : t.comp = s.comp) : t.FramesLawful := by
  have hzone : ∀ z, t.zone z = s.zone z := fun z => congrArg (·.get z) hz
  refine ⟨fun z => hzone z ▸ h.zones z, ?_⟩
  obtain ⟨h1, h2, h3, h4, h5, h6, h7, h8⟩ := h.windows
  constructor
  all_goals rw [hc]
  case records => exact fun z hs => h8 z (hzone z ▸ hs)
  all_goals assumption

/-- A zone replaced, with no record unless it is SCANNING. -/
theorem setZone (h : s.FramesLawful) (z : Fin 4) {x : Zone} (hx : x.Lawful)
    (hrecord : x.state ≠ .scanning → s.comp.frameRecord.get z = none) : (s.setZone z x).FramesLawful := by
  refine ⟨fun y => ?_, { h.windows with records := fun y hy => ?_ }⟩
  · by_cases hzy : z = y
    · subst hzy
      rw [zone_setZone_self]
      exact hx
    · rw [zone_setZone_ne s x hzy]
      exact h.zones y
  · by_cases hzy : z = y
    · subst hzy
      rw [zone_setZone_self] at hy
      exact hrecord hy
    · rw [zone_setZone_ne s x hzy] at hy
      exact h.windows.records y hy

/-- The record of a zone replaced, by none unless the zone is SCANNING. -/
theorem setRecord (h : s.FramesLawful) (z : Fin 4) {r : Option (List FrameMark)}
    (hr : (s.zone z).state ≠ .scanning → r = none) :
    (s.withComp { s.comp with frameRecord := s.comp.frameRecord.set z r }).FramesLawful := by
  refine ⟨h.zones, { h.windows with records := fun y hy => ?_ }⟩
  by_cases hzy : z = y
  · subst hzy
    exact (Tab.get_set_self _ _ _).trans (hr hy)
  · exact (Tab.get_set_ne _ _ hzy).trans (h.windows.records y hy)

/-- The parts of the compositor the laws do not speak of. -/
theorem withFlags (h : s.FramesLawful) (pending latch : Tab Bool 4) (on : Bool) :
    (s.withComp { s.comp with applyPending := pending, alertLatch := latch, alertOn := on }).FramesLawful :=
  ⟨h.zones, { h.windows with }⟩

end State.FramesLawful

/-- After a zone is discarded its record is none, so that the zone may leave SCANNING. -/
theorem discardRecord_record (z : Fin 4) (s : State) : (discardRecord z s).comp.frameRecord.get z = none :=
  Tab.get_set_self _ _ _

/-! ## Reads -/

section
variable {s : State}

/-- A read of an enabled zone's region falls on one of its lines. -/
theorem place_line_lt {z : Zone} {a : Nat} (h : z.inRegion a = true) : (z.place a).line < z.lines := by
  simp only [Zone.inRegion, Bool.and_eq_true, decide_eq_true_eq] at h
  refine Nat.div_lt_of_lt_mul ?_
  rw [Nat.mul_comm]
  omega

theorem zoneAt_inRegion {a : Nat} {z : Fin 4} (h : s.zoneAt a = some z) :
    (s.zone z).enabled = true ∧ (s.zone z).inRegion a = true := by
  have hfound := List.find?_some h
  rwa [Bool.and_eq_true] at hfound

theorem zoneAt_of_zoneRead {b : Burst} {z : Fin 4} (h : s.classify b = .zoneRead z) :
    s.zoneAt b.addr.toNat = some z := by
  have hread := read_of_zoneRead h
  simp only [State.classify, hread, State.readClass] at h
  split_ifs at h
  split at h
  next y hy =>
    cases h
    exact hy
  next => exact nomatch h

theorem coverRead_frames {z : Fin 4} {line : Nat} (hline : line < (s.zone z).lines) (h : s.FramesLawful) :
    (coverRead z line s).FramesLawful := by
  unfold coverRead
  dsimp only
  split
  next hs => exact h.setZone z ((h.zones z).cover hs hline) fun hne => absurd hs hne
  next => exact h

theorem markServed_frames (z : Fin 4) (p : ReadPlace) (h : s.FramesLawful) : (markServed z p s).FramesLawful := by
  unfold markServed
  split
  · exact h
  next marks hmarks =>
    refine h.setRecord z fun hs => ?_
    exact absurd ((h.windows.records z hs).symm.trans hmarks) nofun

theorem acceptBurst_frames {b : Burst} (hrecord : ¬ s.TakesRecord b) (h : s.FramesLawful) :
    (acceptBurst b s).FramesLawful := by
  have hpass : (passThrough b s).FramesLawful := h.congr
    ((passThrough_acts (B := [.bus]) (U := []) (.refl _ _ s) b (by decide)).zones (by decide))
    ((passThrough_acts (B := [.bus]) (U := []) (.refl _ _ s) b (by decide)).comp (by decide))
  have hcount : ∀ {t : State} i, t.FramesLawful → (count (.path i) t).FramesLawful := by
    intro t i ht
    have hcounted : Acts [.counters] UnitId.all t (count (.path i) t) :=
      count_acts (.refl _ _ _) (.path i) (UnitId.mem_all _) (by decide)
    exact ht.congr (hcounted.zones (by decide)) (hcounted.comp (by decide))
  unfold acceptBurst
  split
  · exact hcount 0 hpass
  next hclass =>
    unfold acceptControl
    split
    · exact hpass
    next hwrite =>
      unfold acceptControlWrite
      dsimp only
      split
      next hhalf =>
        split
        next hwhole => exact absurd ⟨hclass, hwrite, hhalf, hwhole⟩ hrecord
        next => exact hcount 1 (h.congr rfl rfl)
      · exact h.congr rfl rfl
  · exact h.congr ((acceptLiveWrite_acts b s).zones (by decide)) ((acceptLiveWrite_acts b s).comp (by decide))
  next z hclass =>
    have hline := place_line_lt (zoneAt_inRegion (zoneAt_of_zoneRead hclass)).2
    have hmarked := markServed_frames z ((s.zone z).place b.addr.toNat) (coverRead_frames hline h)
    have hacts := actOn_acts (B := [.bus]) (U := []) b (s.compose z b.addr.toNat b.beats)
      (.refl _ _ (markServed z ((s.zone z).place b.addr.toNat)
        (coverRead z ((s.zone z).place b.addr.toNat).line s))) (by decide)
    exact hmarked.congr (hacts.zones (by decide)) (hacts.comp (by decide))
  · exact hpass

/-! ## Frames -/

theorem closeReactions_zones (z : Fin 4) (s : State) : (closeReactions z s).zones = s.zones :=
  (closeReactions_acts z s).zones (by decide)

/-- A close discards the record of its zone, and leaves the rest of the compositor. -/
theorem closeReactions_comp (z : Fin 4) (s : State) :
    (closeReactions z s).comp = { s.comp with frameRecord := s.comp.frameRecord.set z none } := by
  have hbefore : (discardCrawlRecord z (creditMentions (s.mentionList z (s.closeRecord z))
      (settlePanels z (s.closeRecord z) s))).comp = s.comp := by
    rw [(discardCrawlRecord_acts z _).comp (by decide), (creditMentions_acts _ _).comp (by decide),
      (settlePanels_acts z _ s).comp (by decide)]
  rw [closeReactions, discardRecord, State.withComp_comp, hbefore]

theorem closeByPulse_frames (z : Fin 4) (h : s.FramesLawful) : (closeByPulse z s).FramesLawful := by
  have hcount := countClose_acts z (s.zone z).covered false s
  have hcounted : (countClose z (s.zone z).covered false s).FramesLawful :=
    h.congr (hcount.zones (by decide)) (hcount.comp (by decide))
  exact (hcounted.setRecord z fun _ => rfl).congr (closeReactions_zones z _) (closeReactions_comp z _)

theorem openFrame_frames (z : Fin 4) (hs : (s.zone z).state ≠ .idle) (h : s.FramesLawful) :
    (openFrame z s).FramesLawful := h.setZone z ((h.zones z).openFrame hs) fun hne => absurd rfl hne

/-- The windows as taken, and the staged ones that name the zone. -/
theorem takeWindows_taken (z y : Fin 4) (c : Compositor) (i : Fin 16) :
    ((takeWindows z c).taken.get y).get i = (c.taken.get y).get i ∨
      y = z ∧ ((takeWindows z c).taken.get y).get i =
        if (c.staged.get i).zone = z then some (c.staged.get i) else none := by
  unfold takeWindows
  split
  · by_cases hzy : z = y
    · subst hzy
      refine .inr ⟨rfl, ?_⟩
      rw [Tab.get_set_self, Tab.get_map]
    · exact .inl (by rw [Tab.get_set_ne _ _ hzy])
  · exact .inl rfl

theorem takeWindows_staged (z : Fin 4) (c : Compositor) : (takeWindows z c).staged = c.staged := by
  unfold takeWindows
  split <;> rfl

theorem takeWindows_other (z : Fin 4) {y : Fin 4} (hzy : z ≠ y) (c : Compositor) :
    (takeWindows z c).taken.get y = c.taken.get y := by
  unfold takeWindows
  split
  · exact Tab.get_set_ne _ _ hzy
  · rfl

theorem takeWindows_active (z : Fin 4) (c : Compositor) :
    (takeWindows z c).active = c.active ∧ (takeWindows z c).frameRecord = c.frameRecord := by
  unfold takeWindows
  split <;> exact ⟨rfl, rfl⟩

theorem clipWindow_eq (zone : Zone) (w : Window) :
    clipWindow zone w = { w with height := (clipWindow zone w).height, width := (clipWindow zone w).width } ∧
      (clipWindow zone w).height ≤ w.height ∧ (clipWindow zone w).width ≤ w.width := by
  unfold clipWindow
  split
  · exact ⟨rfl, Nat.zero_le _, Nat.zero_le _⟩
  · exact ⟨rfl, Nat.min_le_left _ _, Nat.min_le_left _ _⟩

theorem composerFrameStart_active (z : Fin 4) (s : State) (i : Fin 16) :
    ((composerFrameStart z s).comp.active.get z).get i =
      (((takeWindows z s.comp).taken.get z).get i).map (clipWindow (s.zone z)) := by
  show ((((takeWindows z s.comp).active.set z _).get z).get i) = _
  rw [Tab.get_set_self, Tab.get_map]

theorem composerFrameStart_active_ne {z y : Fin 4} (hzy : z ≠ y) (s : State) :
    (composerFrameStart z s).comp.active.get y = s.comp.active.get y := by
  show ((takeWindows z s.comp).active.set z _).get y = _
  rw [Tab.get_set_ne _ _ hzy, (takeWindows_active z s.comp).1]

theorem composerFrameStart_frames (z : Fin 4) (hs : (s.zone z).state = .scanning) (h : s.FramesLawful) :
    (composerFrameStart z s).FramesLawful := by
  have hw := h.windows
  -- What a taken window comes from.
  have htaken : ∀ y i w, ((takeWindows z s.comp).taken.get y).get i = some w →
      w.zone = y ∧ (w.enabled = true → 1 ≤ w.height ∧ 1 ≤ w.width) := by
    intro y i w hget
    obtain hold | ⟨rfl, hnew⟩ := takeWindows_taken z y s.comp i
    · rw [hold] at hget
      exact ⟨hw.takenOfZone y i w hget, hw.takenExtents y i w hget⟩
    · rw [hnew] at hget
      split at hget
      next hzone =>
        cases hget
        exact ⟨hzone, hw.extents i⟩
      next => exact nomatch hget
  have hactive : ∀ i w, ((composerFrameStart z s).comp.active.get z).get i = some w →
      ∃ v, ((takeWindows z s.comp).taken.get z).get i = some v ∧ clipWindow (s.zone z) v = w := by
    intro i w hget
    rw [composerFrameStart_active] at hget
    exact Option.map_eq_some_iff.1 hget
  refine ⟨h.zones, ?_, fun y i w hget => (htaken y i w hget).1, ?_, ?_, ?_,
    fun y i w hget => (htaken y i w hget).2, ?_, ?_⟩
  · intro y i w hget
    by_cases hzy : z = y
    · subst hzy
      obtain ⟨v, hv, rfl⟩ := hactive i w hget
      rw [(clipWindow_eq (s.zone z) v).1]
      exact (htaken z i v hv).1
    · rw [composerFrameStart_active_ne hzy] at hget
      exact hw.ofZone y i w hget
  · intro y i
    by_cases hzy : z = y
    · subst hzy
      rw [composerFrameStart_active, Option.isSome_map]
      rfl
    · rw [composerFrameStart_active_ne hzy, hw.held y i]
      exact congrArg (fun t : Tab (Option Window) 16 => (t.get i).isSome) (takeWindows_other z hzy s.comp).symm
  · intro y i v hv w hget
    by_cases hzy : z = y
    · subst hzy
      obtain ⟨v', hv', rfl⟩ := hactive i w hget
      obtain rfl : v' = v := Option.some.inj (hv'.symm.trans hv)
      exact clipWindow_eq (s.zone z) v'
    · rw [composerFrameStart_active_ne hzy] at hget
      refine hw.clipped y i v ?_ w hget
      exact (congrArg (·.get i) (takeWindows_other z hzy s.comp)).symm.trans hv
  · exact fun i => (takeWindows_staged z s.comp) ▸ hw.extents i
  · exact fun i => (takeWindows_staged z s.comp) ▸ hw.alertOpaque i
  · intro y hy
    by_cases hzy : z = y
    · subst hzy
      exact absurd hs hy
    · show ((takeWindows z s.comp).frameRecord.set z _).get y = none
      rw [Tab.get_set_ne _ _ hzy, (takeWindows_active z s.comp).2]
      exact hw.records y hy

/-- The other reactions leave the zones and the compositor. -/
theorem startReactions_frames (z : Fin 4) (hs : (s.zone z).state = .scanning) (h : s.FramesLawful) :
    (startReactions z s).FramesLawful := by
  obtain ⟨player, u, p, -, -, heq⟩ := startReactions_shape z s
  refine (composerFrameStart_frames z hs h).congr ?_ ?_ <;> rw [heq] <;> rfl

theorem openFrame_state (z : Fin 4) (s : State) : ((openFrame z s).zone z).state = .scanning := by
  rw [openFrame, zone_setZone_self]
  rfl

theorem count_frames (id : CounterId) (h : s.FramesLawful) : (count id s).FramesLawful := by
  obtain ⟨p, hp⟩ := count_shape id s
  exact h.congr (by rw [hp]; rfl) (by rw [hp]; rfl)

theorem post_frames {unit : UnitId} {tag : BitVec 16} {kind : ReportKind} {code subject : Nat} {payload : List Byte}
    (h : s.FramesLawful) : (post unit tag kind code subject payload s).FramesLawful :=
  h.congr (post_zones ..) (post_comp ..)

theorem framePulse_frames (z : Fin 4) (h : s.FramesLawful) : (framePulse z s).FramesLawful := by
  unfold framePulse
  dsimp only
  split
  · exact h
  next hs => exact startReactions_frames z (openFrame_state z s) (openFrame_frames z (hs ▸ nofun) h)
  next hs =>
    refine startReactions_frames z ?_ (post_frames (openFrame_frames z (hs ▸ nofun) h))
    have hzone : (postRegained z (openFrame z s)).zone z = (openFrame z s).zone z := congrArg (·.get z) (post_zones ..)
    rw [hzone]
    exact openFrame_state z s
  next hs =>
    split
    · have hstate : ((closeByPulse z s).zone z).state ≠ .idle := by
        have hzone : (closeByPulse z s).zone z = s.zone z :=
          congrArg (·.get z) ((closeByPulse_acts z s).zones (by decide))
        rw [hzone]
        exact hs ▸ nofun
      exact startReactions_frames z (openFrame_state z _) (openFrame_frames z hstate (closeByPulse_frames z h))
    · refine count_frames _ ?_
      split
      · exact h
      · exact post_frames h

/-- A zone goes LOST and its frame closes: the close discards the record. -/
theorem closeLost_frames (z : Fin 4) (hs : (s.zone z).state = .scanning) (h : s.FramesLawful) :
    (closeReactions z (s.setZone z (s.zone z).lose)).FramesLawful := by
  have hdiscarded := h.setRecord z (r := none) fun _ => rfl
  have hlost := hdiscarded.setZone z ((h.zones z).lose (hs ▸ nofun)) fun _ => discardRecord_record z s
  exact hlost.congr (closeReactions_zones z _) (closeReactions_comp z _)

theorem zone_congr {t : State} (h : t.zones = s.zones) (z : Fin 4) : t.zone z = s.zone z := by
  rw [State.zone, State.zone, h]

theorem loseZone_frames (z : Fin 4) (hs : (s.zone z).state = .scanning) (h : s.FramesLawful) :
    (loseZone z s).FramesLawful := by
  have hclose := countClose_acts z false true s
  have hclosed : (countClose z false true s).FramesLawful := h.congr (hclose.zones (by decide)) (hclose.comp (by decide))
  refine closeLost_frames z ?_ (post_frames (count_frames _ hclosed))
  have hcount := count_acts (B := [.counters]) (.refl _ _ (countClose z false true s)) (zoneCounter z 3)
    (List.mem_singleton_self _) (by decide)
  rw [postLost, zone_congr (post_zones ..) z, zone_congr (hcount.zones (by decide)) z, zone_congr (hclose.zones (by decide)) z]
  exact hs

theorem pulseZone_frames (z : Fin 4) (h : s.FramesLawful) : (pulseZone z s).FramesLawful := by
  unfold pulseZone
  dsimp only
  split
  next hloses =>
    simp only [Zone.losesNext, Bool.and_eq_true, beq_iff_eq] at hloses
    exact loseZone_frames z hloses.1 h
  · split
    next hs => exact h.setZone z ((h.zones z).timed hs _) fun hne => absurd hs hne
    next => exact h

theorem pulse_frames (h : s.FramesLawful) : (pulse s).FramesLawful := by
  have hzones : (pulseZones (pulseUptime s)).FramesLawful :=
    foldl_keeps (P := State.FramesLawful) (fun _ z => pulseZone_frames z) _ (h.congr rfl rfl)
  exact hzones.congr ((pulse_afterZones s).zones (by decide)) ((pulse_afterZones s).comp (by decide))

theorem advanceToPulse_frames (h : s.FramesLawful) : (advanceToPulse s).FramesLawful := by
  unfold advanceToPulse
  exact pulse_frames (h.congr rfl rfl)

theorem refclkCycle_frames (h : s.FramesLawful) : (refclkCycle s).FramesLawful := by
  unfold refclkCycle
  dsimp only
  split
  · exact pulse_frames (h.congr rfl rfl)
  · exact h.congr rfl rfl

/-! ## Commands -/

theorem depositZone_frames (i : Fin 4) (o : List Byte) (h : s.FramesLawful) :
    ((depositZone i o s).state s).FramesLawful := by
  unfold depositZone
  split
  · exact h
  next d _ =>
    dsimp only
    split_ifs with hfits hsame hempty hspace henabled
    · exact h
    · exact h
    · exact h
    · exact h
    · refine h.setZone i ((h.zones i).written (fun _ => ?_) fun hidle _ => ?_) fun hs => ?_
      · rw [not_and, not_or] at hempty
        rw [not_and, Nat.not_lt] at hspace
        have hnonzero := hempty henabled
        exact ⟨Nat.one_le_iff_ne_zero.2 hnonzero.1, Nat.one_le_iff_ne_zero.2 hnonzero.2, hspace henabled⟩
      · have hgeometry : d.adjust.sameGeometry (s.zone i) = true := by
          by_contra hno
          exact hsame ⟨hidle, henabled, by simp [hno]⟩
        simp only [ZoneDeposit.sameGeometry, Bool.and_eq_true, beq_iff_eq] at hgeometry
        exact hgeometry.1.2
      · by_cases hscan : (s.zone i).state = .scanning
        · exact absurd (by simp [Zone.written, Zone.stateAfter, henabled, hscan]) hs
        · exact h.windows.records i hscan
    · have hrecord := h.setRecord i (r := none) fun _ => rfl
      have hoff : ∀ {P : Prop}, d.adjust.enabled = true → P := fun he => absurd he henabled
      exact hrecord.setZone i ((h.zones i).written (fun he => hoff he) fun _ he => hoff he)
        fun _ => discardRecord_record i s

theorem bound_extent (zone : Zone) {d : WindowDeposit} (hh : 1 ≤ d.height) (hw : 1 ≤ d.width) :
    1 ≤ (d.bound zone).height ∧ 1 ≤ (d.bound zone).width := by
  unfold WindowDeposit.bound
  split
  · dsimp only
    omega
  · exact ⟨hh, hw⟩

theorem depositWindow_frames (i : Fin 16) (o : List Byte) (h : s.FramesLawful) :
    ((depositWindow i o s).state s).FramesLawful := by
  unfold depositWindow
  split
  · exact h
  next d _ =>
    split
    next z _ _ _ _ _ _ _ =>
      split_ifs
      · exact h
      · have hsize := bound_extent (s.zone z) (d := d.adjust) (clamp_mem (by decide) d.height).1
          (clamp_mem (by decide) d.width).1
        refine ⟨h.zones, { h.windows with extents := fun j hj => ?_, alertOpaque := fun j hj => ?_ }⟩
        · by_cases hij : i = j
          · subst hij
            simp only [Deposit.state, State.withComp_comp, Tab.get_set_self]
            exact hsize
          · simp only [Deposit.state, State.withComp_comp, Tab.get_set_ne _ _ hij] at hj ⊢
            exact h.windows.extents j hj
        · by_cases hij : i = j
          · subst hij
            simp only [Deposit.state, State.withComp_comp, Tab.get_set_self] at hj ⊢
            exact if_pos hj
          · simp only [Deposit.state, State.withComp_comp, Tab.get_set_ne _ _ hij] at hj ⊢
            exact h.windows.alertOpaque j hj
    · exact h

theorem takeDeposit_frames (hd : Header) (o : List Byte) (h : s.FramesLawful) :
    (takeDeposit hd o s).FramesLawful := by
  have hat : ((depositAt s.cmd.pointer o hd.tag s).state s).FramesLawful := by
    have hacts := depositAt_acts s.cmd.pointer o hd.tag s
    cases hp : s.cmd.pointer with
    | zone i => exact depositZone_frames i o h
    | stagedWindow i => exact depositWindow_frames i o h
    | _ =>
      rw [hp] at hacts
      exact h.congr (hacts.zones (by simp [Pointer.blocks])) (hacts.comp (by simp [Pointer.blocks]))
  exact hat.congr (takeDeposit_zones ..) (takeDeposit_comp ..)

theorem softReset_zones (tag : BitVec 16) (s : State) : (softReset tag s).zones = s.zones.map Zone.softReset := by
  rw [softReset, setPointer, State.withCmd_zones, softResetMessages,
    (testHold_acts (.refl _ _ _) tag).zones (by decide), State.withMessage_zones, softResetSponsor,
    State.withSponsor_zones, softResetPlayer, State.withPlayer_zones, (stopPlayer_acts _).zones (by decide),
    softResetCapture, (stopRecorder_acts tag .softReset _).zones (by decide), softResetRenderer,
    State.withGlyph_zones, softResetCompositor,
    (reportAlertChange_acts (B := [.comp]) (U := UnitId.all) ((Acts.refl _ _ _).withComp _ (by decide)) tag _
      (UnitId.mem_all _)).zones (by decide)]
  rfl

theorem reportAlertChange_comp (tag : BitVec 16) (before s : State) :
    (reportAlertChange tag before s).comp = s.comp :=
  (reportAlertChange_acts (B := []) (U := UnitId.all) (.refl _ _ s) tag before (UnitId.mem_all _)).comp (by decide)

theorem softReset_comp (tag : BitVec 16) (s : State) : (softReset tag s).comp = s.comp.softReset := by
  rw [softReset, setPointer, State.withCmd_comp, softResetMessages,
    (testHold_acts (.refl _ _ _) tag).comp (by decide), State.withMessage_comp, softResetSponsor,
    State.withSponsor_comp, softResetPlayer, State.withPlayer_comp, (stopPlayer_acts _).comp (by decide),
    softResetCapture, (stopRecorder_acts tag .softReset _).comp (by decide), softResetRenderer,
    State.withGlyph_comp, softResetCompositor, reportAlertChange_comp]
  rfl

theorem softReset_frames (tag : BitVec 16) (h : s.FramesLawful) : (softReset tag s).FramesLawful := by
  refine ⟨fun z => ?_, ?_⟩
  · have hz : (softReset tag s).zone z = (s.zone z).softReset := by
      rw [State.zone, softReset_zones, Tab.get_map]
      rfl
    rw [hz]
    exact (h.zones z).softReset
  · have hopaque := h.windows.alertOpaque
    constructor
    all_goals rw [softReset_comp]
    case alertOpaque => simpa [Compositor.softReset] using hopaque
    all_goals simp [Compositor.softReset]

theorem resetAsserted_frames (s : State) : (resetAsserted s).FramesLawful := by
  refine ⟨fun z => ?_, ?_⟩
  · have hz : (resetAsserted s).zone z = Zone.initial := Tab.get_fill Zone.initial z
    rw [hz]
    exact Zone.initial_lawful
  · constructor <;> simp [resetAsserted, State.initial, Compositor.initial, Window.initial]

theorem takeCommand_frames (c : Instr) (hs : s.FramesLawful)
    (hc : Block.zones ∈ commandBlocks c ∨ Block.comp ∈ commandBlocks c) : (takeCommand c s).FramesLawful := by
  have hack : ∀ {code unit h r}, (Reply.state s r).FramesLawful → (acknowledge code unit h s r).FramesLawful :=
    fun hr => hr.congr (acknowledge_zones ..) (acknowledge_comp ..)
  have hflag : ∀ tag on, (setAlertFlag tag on s).FramesLawful := fun tag on =>
    (hs.withFlags s.comp.applyPending s.comp.alertLatch on).congr
      ((reportAlertChange_acts (B := [.comp]) (U := UnitId.all) ((Acts.refl _ _ s).withComp _ (by decide)) tag _
        (UnitId.mem_all _)).zones (by decide))
      (reportAlertChange_comp ..)
  cases c with
  | deposit h o => exact takeDeposit_frames h o hs
  | softReset h => exact hack (r := .ok _) (softReset_frames h.tag hs)
  | apply h => exact hack (r := .ok _) (hs.withFlags _ _ _)
  | alertOn h => exact hack (r := .ok _) (hflag _ _)
  | alertOff h => exact hack (r := .ok _) (hflag _ _)
  | _ => simp [commandBlocks] at hc

end

/-- Settles O55: the moves that touch the zones or the compositor keep both laws together. -/
theorem zonesAndWindowsStayLawful : Obligations.ZonesAndWindowsStayLawful := by
  intro s t hz hw hst
  have ht : t.FramesLawful := by
    refine step_keeps (P := State.FramesLawful) (fun m s hm hs => ?_) hst ⟨hz, hw⟩
    by_cases hb : Block.zones ∈ m.blocks ∨ Block.comp ∈ m.blocks
    · cases m with
      | assert => exact resetAsserted_frames s
      | command c => exact takeCommand_frames c hs hb
      | accept b => exact acceptBurst_frames hm.2 (hs.congr rfl rfl)
      | zoneEdge z edge =>
        rw [Move.run, zoneEdge]
        split
        · exact framePulse_frames z hs
        · exact hs
      | pulse => exact advanceToPulse_frames hs
      | cycle => exact refclkCycle_frames hs
      | _ => simp [Move.blocks] at hb
    · rw [not_or] at hb
      exact hs.congr (Move.run_same hm hb.1) (Move.run_same hm hb.2)
  exact ⟨ht.zones, ht.windows⟩

end Sys2Proof.Machine
end

section
/-! SUPPORT. The state after reset has every invariant, block by block. -/

namespace Sys2Proof.Machine

theorem BusPath.initial_lawful : BusPath.initial.Lawful := by
  constructor <;> simp [BusPath.initial]

theorem reset_ring : State.reset.RingLawful where
  queue := Nat.zero_le _
  accounted := rfl
  inOrder := nofun
  settled := rfl

theorem zone_reset (z : Fin 4) : State.reset.zone z = Zone.initial := Tab.get_fill Zone.initial z

theorem panel_reset (p : Fin 8) : State.reset.panel p = Panel.initial := Tab.get_fill Panel.initial p

theorem reset_windows : State.reset.WindowsLawful := by
  constructor <;> simp [State.reset, State.initial, Compositor.initial, Window.initial]

theorem slots_initial (k : Fin 1024) : Capture.initial.slots.get k = Slot.initial := Tab.get_fill Slot.initial k

theorem Capture.initial_holds : Capture.initial.HoldsLawful := by
  have hnone : Capture.initial.heldCount = 0 :=
    List.countP_eq_zero.2 fun t ht => by
      rw [List.eq_of_mem_replicate ht]
      exact Bool.false_ne_true
  exact hnone.trans_le (Nat.zero_le _)

theorem Capture.initial_chain : Capture.initial.ChainLawful where
  chain := ⟨[], List.nodup_nil, fun k => by simp [slots_initial, Slot.initial], rfl, rfl, nofun⟩
  writing k := by simp [Slot.initial, Capture.initial]
  recording := nofun
  unheld k := by simp [slots_initial, Slot.initial]
  count := ⟨Nat.zero_le _, fun h => absurd rfl h⟩
  within k _ := by rw [slots_initial]; rfl

theorem MessageUnit.initial_hold : MessageUnit.initial.HoldLawful where
  marks := by decide
  times := by decide
  released _ := by decide
  holding := nofun

theorem store_initial (i : Fin 64) : MessageUnit.initial.store.get i = none := Tab.get_fill none i

theorem MessageUnit.initial_store : MessageUnit.initial.StoreLawful where
  config := by constructor <;> decide
  messages i m h := by simp [store_initial] at h
  ids i j m n h := by simp [store_initial] at h
  lead i := by simp [initial]
  follow i := by simp [initial]
  behind := nofun
  travel i m h := by simp [store_initial] at h
  queued c i := by simp [store_initial]; cases c <;> exact List.not_mem_nil
  once c := by cases c <;> exact List.nodup_nil

/-- Settles O60: each block of the reset state has the law of its block. -/
theorem resetIsLawful : Obligations.ResetIsLawful where
  timing := TimingUnit.initial_lawful
  bus := BusPath.initial_lawful
  ring := reset_ring
  zones z := (zone_reset z).symm ▸ Zone.initial_lawful
  windows := reset_windows
  holds := Capture.initial_holds
  chain := Capture.initial_chain
  player := Player.initial_lawful
  panels p := (panel_reset p).symm ▸ Panel.initial_lawful
  queueHold := MessageUnit.initial_hold
  store := MessageUnit.initial_store

end Sys2Proof.Machine
end

section
/-! SUPPORT. The front of the queue, NOP and its like, SELECT, the step of the table pointer, and the tables that
refuse every DEPOSIT (R23, R32, R34, R35, R41). -/

namespace Sys2Proof.Machine

/-- Settles O1: a step takes the front command off the queue and executes it. -/
theorem stepRunsTheFrontCommand : Obligations.StepRunsTheFrontCommand := fun _ _ _ => rfl

/-- A well-formed host command runs when RESET_N is released. -/
theorem exec_running {c : Instr} {s : State} (hc : IsHostCommand c) (hwf : c.wellFormed = true) (hrun : s.Running) :
    exec c s = .next (takeCommand c s) := by
  rw [exec_wellFormed hc hwf, whileRunning_running _ hrun]

/-- Settles O7: NOP answers DONE, an unknown code REFUSED, and TABLE_LOCK has no state beyond its level. -/
theorem nopUnknownAndLock : Obligations.NopUnknownAndLock := by
  refine fun h code level s => ⟨fun hrun => ?nop, fun hrun => ?unknown, rfl⟩
  case nop =>
    rw [exec_running (c := .nop h) rfl rfl hrun]
    exact congrArg _ (acknowledge_ok 0x01 .commandUnit h s s)
  case unknown =>
    rw [show exec (.commandUnknown h code) s = _ from congrArg Host.Outcome.next (whileRunning_running _ hrun)]
    exact congrArg _ (acknowledge_refuse code.toNat .commandUnit h s .unknown)

/-! ## SELECT -/

theorem entryOf_val {n : Nat} (i : Fin n) (make : Fin n → Pointer) : entryOf n i.val make = .ok (make i) := by
  simp [entryOf, index?]

theorem entryOf_beyond {n index : Nat} (h : n ≤ index) (make : Fin n → Pointer) :
    entryOf n index make = .error .range := by
  simp [entryOf, index?, Nat.not_lt.2 h]

/-- Every entry of every table can be selected. -/
theorem selectPointer_self (p : Pointer) {view zone : Nat} (hstaged : ∀ i, p = .stagedWindow i → view = 0)
    (hactive : ∀ z i, p = .activeWindow z i → view = 1 ∧ zone = z.val) :
    selectPointer p.table p.index view zone = .ok p := by
  cases p with
  | stagedWindow i =>
    obtain rfl := hstaged i rfl
    exact entryOf_val i _
  | activeWindow z i =>
    obtain ⟨rfl, rfl⟩ := hactive z i rfl
    simp [selectPointer, Pointer.table, Pointer.index, windowPointer, index?]
  | record => exact entryOf_val (0 : Fin 1) fun _ => .record
  | clock => exact entryOf_val (0 : Fin 1) fun _ => .clock
  | _ i => exact entryOf_val i _

theorem selectPointer_unknown {table index view zone : Nat} (h : table = 0 ∨ 15 < table ∨ table = 2 ∧ 1 < view) :
    selectPointer table index view zone = .error .unknown := by
  obtain rfl | habove | ⟨rfl, hview⟩ := h
  · rfl
  · unfold selectPointer
    split <;> first | omega | rfl
  · match view, hview with
    | n + 2, _ => rfl

/-- A WINDOW index or, with ACTIVE, a zone that names nothing. -/
theorem windowPointer_range {index view zone : Nat} (hview : view ≤ 1) (h : 16 ≤ index ∨ view = 1 ∧ 4 ≤ zone) :
    windowPointer index view zone = .error .range := by
  obtain rfl | rfl : view = 0 ∨ view = 1 := by omega
  · exact entryOf_beyond (by omega) _
  · obtain hindex | ⟨-, hzone⟩ := h
    · simp [windowPointer, index?, Nat.not_lt.2 hindex]
    · simp only [windowPointer]
      split
      next hz => simp [index?, Nat.not_lt.2 hzone] at hz
      next => rfl

theorem selectPointer_range {table index view zone : Nat} (hlow : 1 ≤ table) (hhigh : table ≤ 15)
    (hview : table = 2 → view ≤ 1) (hbeyond : tableSize table ≤ index) :
    selectPointer table index view zone = .error .range := by
  interval_cases table
  on_goal 2 => exact windowPointer_range (hview rfl) (.inl hbeyond)
  all_goals exact entryOf_beyond hbeyond _

theorem exec_select (h : Header) (table : Byte) (index : BitVec 16) (view zone : Byte) {s : State}
    (hrun : s.Running) : exec (.select h table index view zone) s = .next (takeSelect h table index view zone s) :=
  congrArg Host.Outcome.next (whileRunning_running _ hrun)

theorem takeSelect_placed (h : Header) {table : Byte} {index : BitVec 16} {view zone : Byte} {p : Pointer}
    (s : State) (hp : selectPointer table.toNat index.toNat view.toNat zone.toNat = .ok p) :
    takeSelect h table index view zone s =
      (s.withCmd { s.cmd with pointer := p }).done 0x03 .commandUnit h false [] := by
  unfold takeSelect
  rw [hp]
  exact acknowledge_ok 0x03 .commandUnit h s _

theorem takeSelect_refused (h : Header) {table : Byte} {index : BitVec 16} {view zone : Byte} {why : RefusalCode}
    (s : State) (hp : selectPointer table.toNat index.toNat view.toNat zone.toNat = .error why) :
    takeSelect h table index view zone s = s.refuse 0x03 .commandUnit h why := by
  unfold takeSelect
  rw [hp]
  exact acknowledge_refuse 0x03 .commandUnit h s why

/-- Settles O8: what SELECT answers is what `selectPointer` finds, an entry or the refusal. -/
theorem selectCommand : Obligations.SelectCommand := by
  intro h table index view zone s hrun
  rw [exec_select h table index view zone hrun]
  refine ⟨fun p htable hindex hstaged hactive => ?placed, fun hunknown => ?unknown,
    fun hlow hhigh hview hbeyond => ?range, fun htable hview hzone => ?zone⟩
  case placed =>
    refine congrArg _ (takeSelect_placed h s ?_)
    rw [htable, hindex]
    exact selectPointer_self p (fun i hi => congrArg BitVec.toNat (hstaged i hi))
      fun z i hi => ⟨congrArg BitVec.toNat (hactive z i hi).1, (hactive z i hi).2⟩
  case unknown =>
    refine congrArg _ (takeSelect_refused h s (selectPointer_unknown ?_))
    exact hunknown.imp_right (.imp_right fun ⟨htable, hview⟩ => ⟨congrArg BitVec.toNat htable, hview⟩)
  case range =>
    exact congrArg _ (takeSelect_refused h s (selectPointer_range hlow hhigh
      (fun htable => hview (BitVec.eq_of_toNat_eq htable)) hbeyond))
  case zone =>
    subst htable hview
    exact congrArg _ (takeSelect_refused h s (windowPointer_range (Nat.le_refl 1) (.inr ⟨rfl, hzone⟩)))

/-! ## The step of the pointer -/

theorem wrapStep_val {n : Nat} (i : Fin n) : (wrapStep i).val = if i.val + 1 = n then 0 else i.val + 1 := by
  unfold wrapStep
  have := i.isLt
  split <;> split <;> first | rfl | omega

/-- Within a block the step goes on, and at its end it stays. -/
theorem blockStep_eq {n b : Nat} (hb : b ∣ n) (i : Fin n) :
    (i.val % b + 1 ≠ b → (blockStep b i).val = i.val + 1) ∧ (i.val % b + 1 = b → blockStep b i = i) := by
  have hlt := i.isLt
  have hpos : 0 < b := Nat.pos_of_dvd_of_pos hb (by omega)
  have hmod := Nat.mod_lt i.val hpos
  refine ⟨fun hin => ?_, fun hend => dif_neg (by omega)⟩
  have hnext : i.val + 1 < n := by
    by_contra hlast
    have hin' : (i.val + 1) % b = 0 := by
      rw [show i.val + 1 = n by omega]
      exact Nat.mod_eq_zero_of_dvd hb
    have hsum : i.val + 1 = b * (i.val / b) + (i.val % b + 1) := by
      rw [← Nat.add_assoc, Nat.div_add_mod]
    rw [hsum, Nat.mul_add_mod, Nat.mod_eq_of_lt (by omega)] at hin'
    omega
  unfold blockStep
  rw [dif_pos ⟨by omega, hnext⟩]

/-- What O9 says of the index after a step. -/
def StepsFrom (p : Pointer) : Prop :=
  let last := if tableBlock p.table = 0 then p.index + 1 = tableSize p.table
    else p.index % tableBlock p.table + 1 = tableBlock p.table
  (¬ last → p.step.index = p.index + 1 ∧ p.staysAtEnd = false) ∧
  (last → tableBlock p.table = 0 → tableSize p.table ≤ 16 → p.step.index = 0 ∧ p.staysAtEnd = false) ∧
  (last → tableBlock p.table ≠ 0 ∨ 16 < tableSize p.table → p.step = p ∧ p.staysAtEnd = true)

/-- A table of at most 16 entries wraps. -/
theorem stepsFrom_wrapping {n : Nat} (make : Fin n → Pointer) (i : Fin n) (hn : n ≤ 16)
    (hindex : ∀ j, (make j).index = j.val) (hsize : tableSize (make i).table = n)
    (hblock : tableBlock (make i).table = 0) (hstep : (make i).step = make (wrapStep i))
    (hend : (make i).staysAtEnd = false) : StepsFrom (make i) := by
  simp only [StepsFrom, hindex, hsize, hblock, hstep, hend, wrapStep_val, if_true]
  refine ⟨fun hlast => ⟨if_neg hlast, trivial⟩, fun hlast _ _ => ⟨if_pos hlast, trivial⟩, fun _ hwide => ?_⟩
  exact absurd hwide (by omega)

/-- A blocked table, or one of more than 16 entries, stays at the end of a block of `b`. -/
theorem stepsFrom_blocked {n : Nat} (b : Nat) (make : Fin n → Pointer) (i : Fin n) (hb : b ∣ n) (hpos : b ≠ 0)
    (hindex : ∀ j, (make j).index = j.val) (hsize : tableSize (make i).table = n)
    (hblock : tableBlock (make i).table = b ∨ tableBlock (make i).table = 0 ∧ b = n ∧ 16 < n)
    (hstep : (make i).step = make (blockStep b i)) (hend : (make i).staysAtEnd = atBlockEnd b i) :
    StepsFrom (make i) := by
  obtain ⟨hgoes, hstays⟩ := blockStep_eq hb i
  have hlt := i.isLt
  have hlast : (if tableBlock (make i).table = 0 then i.val + 1 = n
      else i.val % tableBlock (make i).table + 1 = tableBlock (make i).table) ↔ i.val % b + 1 = b := by
    obtain hblock | ⟨hblock, rfl, -⟩ := hblock
    · rw [hblock, if_neg hpos]
    · rw [if_pos hblock, Nat.mod_eq_of_lt hlt]
  simp only [StepsFrom, hindex, hsize, hstep, hend, hlast, atBlockEnd]
  refine ⟨fun h => ⟨hgoes h, by simpa using h⟩, fun _ hnone hnarrow => ?_, fun h _ => ⟨by rw [hstays h], by simpa using h⟩⟩
  omega

theorem stepsFrom (p : Pointer) : StepsFrom p := by
  cases p with
  | zone i => exact stepsFrom_wrapping .zone i (by omega) (fun _ => rfl) rfl rfl rfl rfl
  | stagedWindow i => exact stepsFrom_wrapping .stagedWindow i (by omega) (fun _ => rfl) rfl rfl rfl rfl
  | activeWindow z i => exact stepsFrom_wrapping (.activeWindow z) i (by omega) (fun _ => rfl) rfl rfl rfl rfl
  | colour i => exact stepsFrom_wrapping .colour i (by omega) (fun _ => rfl) rfl rfl rfl rfl
  | alertText i => exact stepsFrom_wrapping .alertText i (by omega) (fun _ => rfl) rfl rfl rfl rfl
  | panel i => exact stepsFrom_wrapping .panel i (by omega) (fun _ => rfl) rfl rfl rfl rfl
  | mark i => exact stepsFrom_wrapping .mark i (by omega) (fun _ => rfl) rfl rfl rfl rfl
  | record =>
    exact stepsFrom_wrapping (fun _ : Fin 1 => .record) 0 (by omega) (fun j => (Fin.val_eq_zero j).symm) rfl rfl rfl rfl
  | clock =>
    exact stepsFrom_wrapping (fun _ : Fin 1 => .clock) 0 (by omega) (fun j => (Fin.val_eq_zero j).symm) rfl rfl rfl rfl
  | glyph i =>
    exact stepsFrom_blocked 24 .glyph i (by omega) (by omega) (fun _ => rfl) rfl (.inl rfl) rfl rfl
  | layout i =>
    exact stepsFrom_blocked 12 .layout i (by omega) (by omega) (fun _ => rfl) rfl (.inl rfl) rfl rfl
  | panelList i =>
    exact stepsFrom_blocked 32 .panelList i (by omega) (by omega) (fun _ => rfl) rfl (.inl rfl) rfl rfl
  | sponsor i =>
    exact stepsFrom_blocked 128 .sponsor i (by omega) (by omega) (fun _ => rfl) rfl
      (.inr ⟨rfl, rfl, by omega⟩) rfl rfl
  | slot i =>
    exact stepsFrom_blocked 1024 .slot i (by omega) (by omega) (fun _ => rfl) rfl
      (.inr ⟨rfl, rfl, by omega⟩) rfl rfl
  | clip i =>
    exact stepsFrom_blocked 32 .clip i (by omega) (by omega) (fun _ => rfl) rfl (.inr ⟨rfl, rfl, by omega⟩) rfl rfl
  | message i =>
    exact stepsFrom_blocked 64 .message i (by omega) (by omega) (fun _ => rfl) rfl
      (.inr ⟨rfl, rfl, by omega⟩) rfl rfl

theorem index_lt (p : Pointer) : p.index < tableSize p.table := by
  cases p with
  | record => exact Nat.one_pos
  | clock => exact Nat.one_pos
  | activeWindow z i => exact i.isLt
  | _ i => exact i.isLt

/-- Settles O9: every table either wraps or stays at the end of its blocks. -/
theorem pointerSteps : Obligations.PointerSteps := by
  intro p
  refine ⟨by cases p <;> rfl, by cases p <;> rfl, index_lt p, stepsFrom p, ?_, ?_⟩
  · rintro z i rfl
    exact ⟨wrapStep i, rfl⟩
  · rintro i rfl
    exact ⟨wrapStep i, rfl⟩

/-! ## The read-only tables -/

theorem exec_deposit (h : Header) {o : List Byte} {s : State} (hrun : s.Running) (ho : o.length = 28) :
    exec (.deposit h o) s = .next (takeDeposit h o s) :=
  exec_running rfl (beq_iff_eq.2 ho) hrun

theorem takeDeposit_refused (h : Header) {o : List Byte} {s : State} {why : RefusalCode}
    (hat : depositAt s.cmd.pointer o h.tag s = .refuse why) : takeDeposit h o s = depositRefused h s why := by
  unfold takeDeposit
  dsimp only
  rw [hat]
  exact acknowledge_refuse 0x05 .commandUnit h s why

theorem takeDeposit_accepted (h : Header) {o : List Byte} {s t : State} {clamped : Bool}
    (hat : depositAt s.cmd.pointer o h.tag s = .accept t clamped) :
    takeDeposit h o s = deposited h s t clamped := by
  unfold takeDeposit
  dsimp only
  rw [hat]
  exact acknowledge_done 0x05 .commandUnit h s _ clamped [] _

/-- A refused DEPOSIT. -/
theorem exec_deposit_refused (h : Header) {o : List Byte} {s : State} {why : RefusalCode} (hrun : s.Running)
    (ho : o.length = 28) {p : Pointer} (hp : s.cmd.pointer = p) (hat : depositAt p o h.tag s = .refuse why) :
    exec (.deposit h o) s = .next (depositRefused h s why) := by
  rw [exec_deposit h hrun ho, takeDeposit_refused h (hp ▸ hat)]

/-- An accepted DEPOSIT. -/
theorem exec_deposit_accepted (h : Header) {o : List Byte} {s t : State} {clamped : Bool} (hrun : s.Running)
    (ho : o.length = 28) {p : Pointer} (hp : s.cmd.pointer = p) (hat : depositAt p o h.tag s = .accept t clamped) :
    exec (.deposit h o) s = .next (deposited h s t clamped) := by
  rw [exec_deposit h hrun ho, takeDeposit_accepted h (hp ▸ hat)]

/-- Settles O11: the owner of each of these tables answers STATE whatever the operands are. -/
theorem readOnlyTablesRefuse : Obligations.ReadOnlyTablesRefuse := by
  refine fun h o s hrun => ⟨fun ho => if_neg fun hwf => ho (beq_iff_eq.1 hwf), fun ho hp => ?_⟩
  obtain ⟨k, hp⟩ | ⟨k, hp⟩ | ⟨k, hp⟩ | hp | ⟨⟨z, i, hp⟩, hread⟩ := hp
  case inr.inr.inr.inr =>
    exact exec_deposit_refused h hrun ho hp (by rw [depositAt, if_pos hread])
  all_goals exact exec_deposit_refused h hrun ho hp rfl

end Sys2Proof.Machine
end

section
/-! SUPPORT. Byte order (R43): what a field reads back, in a record and behind other fields. -/

namespace Sys2Proof

@[simp] theorem length_leBytes (w v : Nat) : (leBytes w v).length = w := by
  induction w generalizing v with
  | zero => rfl
  | succ w ih => exact congrArg Nat.succ (ih _)

@[simp] theorem length_bytesOf (w : Nat) (v : BitVec (8 * w)) : (bytesOf w v).length = w := length_leBytes w _

/-- A value that fits its width is read back. -/
theorem leNat_leBytes (w v : Nat) : leNat (leBytes w v) = v % 256 ^ w := by
  induction w generalizing v with
  | zero => exact (Nat.mod_one v).symm
  | succ w ih =>
    have hlow : (BitVec.ofNat 8 v).toNat = v % 256 := BitVec.toNat_ofNat ..
    rw [leBytes, leNat, ih, hlow, Nat.pow_succ', Nat.mod_mul]

@[simp] theorem fieldAt_leBytes (w v : Nat) (rest : List Byte) : fieldAt w (leBytes w v ++ rest) 0 = v % 256 ^ w := by
  rw [fieldAt, List.drop_zero, List.take_append_of_le_length (length_leBytes w v).ge,
    List.take_of_length_le (length_leBytes w v).le, leNat_leBytes]

/-- A field behind other bytes. -/
theorem fieldAt_append {w off : Nat} {before : List Byte} (rest : List Byte) (h : before.length ≤ off) :
    fieldAt w (before ++ rest) off = fieldAt w rest (off - before.length) := by
  rw [fieldAt, List.drop_append, List.drop_of_length_le h, List.nil_append, fieldAt]

@[simp] theorem bitsAt_bytesOf (w : Nat) (v : BitVec (8 * w)) (rest : List Byte) :
    bitsAt w (bytesOf w v ++ rest) 0 = v := by
  have hpow : 256 ^ w = 2 ^ (8 * w) := by rw [Nat.pow_mul]
  apply BitVec.eq_of_toNat_eq
  rw [bitsAt, bytesOf, fieldAt_leBytes, BitVec.toNat_ofNat, hpow, Nat.mod_mod, Nat.mod_eq_of_lt v.isLt]

theorem bitsAt_append {w off : Nat} {before : List Byte} (rest : List Byte) (h : before.length ≤ off) :
    bitsAt w (before ++ rest) off = bitsAt w rest (off - before.length) := by
  rw [bitsAt, fieldAt_append rest h, bitsAt]

/-- A field behind one other field. -/
@[simp] theorem bitsAt_skip {w off v : Nat} (x : BitVec (8 * v)) (rest : List Byte) (h : v ≤ off) :
    bitsAt w (bytesOf v x ++ rest) off = bitsAt w rest (off - v) := by
  rw [bitsAt_append rest ((length_bytesOf v x).trans_le h), length_bytesOf]

/-- Every byte of a field is one of its bits' 256 values. -/
theorem fieldAt_one_lt (bytes : List Byte) (off : Nat) : fieldAt 1 bytes off < 256 := by
  unfold fieldAt
  match bytes.drop off with
  | [] => exact Nat.zero_lt_succ _
  | b :: rest => exact b.isLt

/-! ## The command record -/

section
variable (code : Nat) (h : Header) (operands : List Byte)

theorem length_recordOf (hlen : operands.length ≤ 28) : (recordOf code h operands).length = 32 := by
  simp only [recordOf, operandBytes, List.length_append, length_leBytes, length_bytesOf, List.length_replicate]
  omega

theorem recordOf_code (hcode : code < 256) : fieldAt 1 (recordOf code h operands) 0 = code := by
  simp only [recordOf, List.append_assoc, fieldAt_leBytes]
  exact Nat.mod_eq_of_lt hcode

theorem recordOf_header : recordHeader (recordOf code h operands) = h := by
  have hquiet : (bitsAt 1 (recordOf code h operands) 1).getLsbD 0 = h.quiet := by
    simp only [recordOf, List.append_assoc]
    rw [bitsAt_append _ (length_leBytes 1 code).le, length_leBytes, bitsAt, fieldAt_leBytes]
    cases h.quiet <;> rfl
  have htag : bitsAt 2 (recordOf code h operands) 2 = h.tag := by
    simp only [recordOf, List.append_assoc]
    rw [bitsAt_append _ (by simp), bitsAt_append _ (by simp)]
    simp
  rw [recordHeader, hquiet, htag]

theorem recordOf_operands :
    (recordOf code h operands).drop 4 = operands ++ List.replicate (28 - operands.length) 0 := by
  simp only [recordOf, List.append_assoc]
  rw [← List.append_assoc, ← List.append_assoc]
  exact List.drop_left' (by simp)

end

/-- A code that is not in the list. -/
theorem decodeRecord_unknown {record : List Byte} (h : commandCodeDefined (bitsAt 1 record 0) = false) :
    decodeRecord record = .commandUnknown (recordHeader record) (bitsAt 1 record 0) := by
  have hcode : (bitsAt 1 record 0).toNat = fieldAt 1 record 0 := by
    rw [bitsAt, BitVec.toNat_ofNat]
    exact Nat.mod_eq_of_lt (fieldAt_one_lt record 0)
  rw [commandCodeDefined, hcode] at h
  unfold decodeRecord
  dsimp only
  split
  case h_54 => rfl
  all_goals
    next hcode => rw [hcode] at h; exact absurd h (by decide)

/-- Settles O2, by the command: its code, its flags and its tag lie in front of its operands, which lie one behind
another. -/
theorem hostCommandsRoundTrip : Obligations.HostCommandsRoundTrip := by
  intro c record hwf hrecord
  cases c with
  | commandUnknown h code =>
    obtain rfl := Option.some.inj hrecord
    have hbits : bitsAt 1 (recordOf code.toNat h []) 0 = code := by
      rw [bitsAt, recordOf_code _ _ _ code.isLt]
      exact BitVec.ofNat_toNat ..
    refine ⟨length_recordOf _ _ _ (Nat.zero_le _), ?_⟩
    rw [decodeRecord_unknown, hbits, recordOf_header]
    rw [hbits]
    simpa [Instr.wellFormed] using hwf
  | deposit h o =>
    obtain rfl := Option.some.inj hrecord
    have ho : o.length = 28 := beq_iff_eq.1 hwf
    refine ⟨length_recordOf _ _ _ ho.le, ?_⟩
    simp [decodeRecord, recordOf_code, recordOf_header, recordOf_operands, ho]
  | msgText h id offset count codes =>
    obtain rfl := Option.some.inj hrecord
    have hcodes : codes.length = 23 := beq_iff_eq.1 hwf
    refine ⟨length_recordOf _ _ _ (by simp [hcodes]), ?_⟩
    have htext : (bytesOf 2 id ++ (bytesOf 2 offset ++ (bytesOf 1 count ++ codes))).drop 5 = codes := by
      rw [← List.append_assoc, ← List.append_assoc]
      exact List.drop_left' (by simp)
    simp [decodeRecord, recordOf_code, recordOf_header, recordOf_operands, hcodes, htext]
  | resetAssert | resetRelease | requestWithhold | burstAccept | forwardGrant | mirrorGrant
  | reportWriteGrant | mpResponse | responseReturn | reportMove | tableLockChange | alertInChange
  | zonePulse | zoneLoss | msPulse | gameClockExpire | possExpire | hornExpire | messageExpire
  | holdTimerExpire | lineStart | lineStop | pcReset | recordFramePulse => exact absurd hrecord nofun
  | _ =>
    obtain rfl := Option.some.inj hrecord
    refine ⟨length_recordOf _ _ _ (by simp), ?_⟩
    simp [decodeRecord, recordOf_code, recordOf_header, recordOf_operands]

end Sys2Proof
end

section
/-! SUPPORT. The report record (R43) and the travel of reports (R27, R28): what becomes of one that is generated, and
which reports a chance to move takes. -/

namespace Sys2Proof.Machine

/-! ## The record -/

theorem length_bytes (r : Report) (lost phase : Bool) (h : r.payload.length ≤ 20) :
    (r.bytes lost phase).length = 32 := by
  simp only [Report.bytes, List.length_append, length_leBytes, length_bytesOf, List.length_replicate]
  omega

/-- The four flags of a report, by bit. -/
theorem flags_bit (r : Report) (lost phase : Bool) (k : Nat) :
    (BitVec.ofNat 8 (r.flags lost phase)).getLsbD k =
      (k = 0 && lost || k = 1 && r.lastOfTable || k = 2 && r.more || k = 3 && phase) := by
  unfold Report.flags
  by_cases hk : k < 8
  · interval_cases k <;> cases lost <;> cases r.lastOfTable <;> cases r.more <;> cases phase <;> rfl
  · rw [BitVec.getLsbD_of_ge _ _ (Nat.not_lt.1 hk), decide_eq_false (show ¬ k = 0 by omega),
      decide_eq_false (show ¬ k = 1 by omega), decide_eq_false (show ¬ k = 2 by omega),
      decide_eq_false (show ¬ k = 3 by omega)]
    rfl

theorem flags_lt (r : Report) (lost phase : Bool) : r.flags lost phase < 256 := by
  unfold Report.flags yesNo
  split <;> split <;> split <;> split <;> omega

theorem kindNumber_lt (k : ReportKind) : k.number < 256 := by cases k <;> decide

theorem unitNumber_lt (u : UnitId) : u.number < 256 := by cases u <;> decide

/-- Settles O3: each field of the record lies behind those before it. -/
theorem reportRecordLayout : Obligations.ReportRecordLayout := by
  refine ⟨fun k => by cases k <;> decide, fun u => by cases u <;> decide, fun c => by cases c <;> decide, ?_⟩
  intro r lost phase hpayload hsubject hcode
  refine ⟨length_bytes r lost phase hpayload, ?kind, ?code, ?flags, ?unit, ?tag, ?subject, ?uptime, ?payload⟩
  all_goals simp only [Report.bytes, List.append_assoc]
  case kind => simp [Nat.mod_eq_of_lt (kindNumber_lt r.kind)]
  case code =>
    rw [fieldAt_append _ (by simp)]
    simp [Nat.mod_eq_of_lt hcode]
  case flags =>
    intro k
    rw [← flags_bit, bitsAt_append _ (by simp), bitsAt_append _ (by simp)]
    simp [bitsAt, Nat.mod_eq_of_lt (flags_lt r lost phase)]
  case unit =>
    rw [fieldAt_append _ (by simp), fieldAt_append _ (by simp), fieldAt_append _ (by simp)]
    simp [Nat.mod_eq_of_lt (unitNumber_lt r.unit)]
  case tag =>
    rw [bitsAt_append _ (by simp), bitsAt_append _ (by simp), bitsAt_append _ (by simp), bitsAt_append _ (by simp)]
    simp
  case subject =>
    rw [fieldAt_append _ (by simp), fieldAt_append _ (by simp), fieldAt_append _ (by simp),
      fieldAt_append _ (by simp), fieldAt_append _ (by simp)]
    simp [Nat.mod_eq_of_lt hsubject]
  case uptime =>
    rw [bitsAt_append _ (by simp), bitsAt_append _ (by simp), bitsAt_append _ (by simp), bitsAt_append _ (by simp),
      bitsAt_append _ (by simp), bitsAt_append _ (by simp)]
    simp
  case payload =>
    simp only [← List.append_assoc]
    rw [List.append_assoc _ r.payload]
    exact List.drop_left' (by simp)

/-! ## A report generated -/

/-- The state after the report `r` has gone to entry N and left `rest` in the queue. -/
def State.headTaken (s : State) (r : Report) (rest : List Report) : State :=
  (s.withBus { s.bus with
    reportWrites := s.bus.reportWrites ++
      [{ entry := s.cmd.nextEntry, data := r.bytes s.cmd.lost (!s.cmd.oddLap) }] }).withCmd
  { s.cmd with
    queue := rest, lost := false, nextEntry := s.cmd.nextEntry + 1
    oddLap := if s.cmd.nextEntry = 63 then !s.cmd.oddLap else s.cmd.oddLap }

/-- A report with nothing before it moves at once, if the ring and the report write queue have room. -/
theorem moveReports_single (r : Report) (s : State) :
    moveReports (s.withCmd { s.cmd with queue := [r] }) =
      if (s.withCmd { s.cmd with queue := [r] }).canMove then moveReport (s.withCmd { s.cmd with queue := [r] })
      else s.withCmd { s.cmd with queue := [r] } := rfl

theorem enqueue_empty (r : Report) {s : State} (hq : s.cmd.queue = []) :
    enqueue r s = moveReports (s.withCmd { s.cmd with queue := [r] }) := by
  simp [enqueue, hq, Config.reportQueueCapacity]

/-- Settles O4, by the length of the queue and the room in front of it. -/
theorem reportJoins : Obligations.ReportJoins := by
  refine fun r s => ⟨fun hfull => if_neg (Nat.not_lt.2 hfull), fun hbehind hroom => ?behind, fun hempty hno => ?waits,
    fun hempty hring hwrites => ?moves⟩
  case behind =>
    rw [enqueue, if_pos (show s.cmd.queue.length < Config.reportQueueCapacity from hroom)]
    exact if_neg (by simpa using hbehind)
  case waits =>
    rw [enqueue_empty r hempty, moveReports_single, if_neg]
    rw [canMove_iff]
    rintro ⟨-, hring, hwrites⟩
    obtain h | h := hno
    · exact absurd hring (Nat.not_lt.2 h)
    · exact absurd hwrites (Nat.not_lt.2 h)
  case moves =>
    have hmove : (s.withCmd { s.cmd with queue := [r] }).canMove = true :=
      (canMove_iff _).2 ⟨List.cons_ne_nil _ _, hring, hwrites⟩
    rw [enqueue_empty r hempty, moveReports_single, if_pos hmove, moveReport_cons (r := r) (rest := []) rfl]
    show s.headTaken r [] = s.headTaken r s.cmd.queue
    rw [hempty]

/-! ## A chance to move -/

/-- The lap of the entry `j` places after N. -/
def CommandUnit.oddLapAt (c : CommandUnit) (j : Nat) : Bool := c.oddLap ^^ decide (64 ≤ c.nextEntry.toNat + j)

/-- The report write of the report that goes to the entry `j` places after N. -/
def CommandUnit.writeAt (c : CommandUnit) (j : Nat) (r : Report) : ReportWrite :=
  { entry := c.nextEntry + BitVec.ofNat 6 j, data := r.bytes (c.lost && decide (j = 0)) (!c.oddLapAt j) }

/-- The first reports of the queue have moved, in order. -/
structure ReportsMoved (moved : List Report) (s t : State) : Prop where
  queue : s.cmd.queue = moved ++ t.cmd.queue
  room : moved ≠ [] → (s.cmd.nextEntry - s.cmd.consumer).toNat + moved.length ≤ 63 ∧
    s.bus.reportWrites.length + moved.length ≤ 2
  next : t.cmd.nextEntry = s.cmd.nextEntry + BitVec.ofNat 6 moved.length
  lost : t.cmd.lost = (s.cmd.lost && decide (moved = []))
  lap : t.cmd.oddLap = s.cmd.oddLapAt moved.length
  writes : t.bus.reportWrites = s.bus.reportWrites ++ moved.mapIdx s.cmd.writeAt

theorem oddLapAt_zero (c : CommandUnit) : c.oddLapAt 0 = c.oddLap := by
  have hn := c.nextEntry.isLt
  rw [CommandUnit.oddLapAt, decide_eq_false (by omega), Bool.xor_false]

theorem ReportsMoved.none (s : State) : ReportsMoved [] s s where
  queue := rfl
  room h := absurd rfl h
  next := (BitVec.add_zero _).symm
  lost := (Bool.and_true _).symm
  lap := (oddLapAt_zero s.cmd).symm
  writes := (List.append_nil _).symm

/-- A lap is counted where N passes from 63 to 0. -/
theorem oddLapAt_succ {n : BitVec 6} {odd : Bool} {j : Nat} (hj : j < 64) :
    ((if n = 63 then !odd else odd) ^^ decide (64 ≤ (n + 1).toNat + j)) = (odd ^^ decide (64 ≤ n.toNat + (j + 1))) := by
  have hone : (n + 1).toNat = (n.toNat + 1) % 64 := BitVec.toNat_add n 1
  by_cases hlap : n = 63
  · subst hlap
    rw [if_pos rfl, hone, decide_eq_false (by simp; omega), decide_eq_true (show 64 ≤ (63 : BitVec 6).toNat + (j + 1) by rw [show (63 : BitVec 6).toNat = 63 from rfl]; omega)]
    cases odd <;> rfl
  · have hlt : n.toNat ≠ 63 := fun h => hlap (BitVec.eq_of_toNat_eq h)
    have hn := n.isLt
    rw [if_neg hlap, hone, Nat.mod_eq_of_lt (by omega), decide_eq_decide.2 (show _ ↔ 64 ≤ n.toNat + (j + 1) by omega)]

/-- One report more in front. -/
theorem ReportsMoved.cons {s t : State} {r : Report} {rest moved : List Report} (hq : s.cmd.queue = r :: rest)
    (hring : (s.cmd.nextEntry - s.cmd.consumer).toNat < 63) (hwrites : s.bus.reportWrites.length < 2)
    (h : ReportsMoved moved (moveReport s) t) : ReportsMoved (r :: moved) s t := by
  rw [moveReport_cons hq] at h
  obtain ⟨hqueue, hroom, hnext, hlost, hlap, hwr⟩ := h
  simp only [State.withCmd_cmd, State.withCmd_bus, State.withBus_bus, List.length_append, List.length_singleton,
    ring_succ hring, Bool.false_and] at hqueue hroom hnext hlost hlap hwr
  have hlen : moved.length ≤ 1 := by
    by_cases hm : moved = []
    · simp [hm]
    · have := (hroom hm).2
      omega
  have hplace : ∀ j, s.cmd.nextEntry + 1 + BitVec.ofNat 6 j = s.cmd.nextEntry + BitVec.ofNat 6 (j + 1) := fun j => by
    rw [BitVec.add_assoc, BitVec.add_comm 1, BitVec.ofNat_add]
    rfl
  have hodd : ∀ j, j < 64 → CommandUnit.oddLapAt
      { s.cmd with queue := rest, lost := false, nextEntry := s.cmd.nextEntry + 1
                   oddLap := if s.cmd.nextEntry = 63 then !s.cmd.oddLap else s.cmd.oddLap } j =
        s.cmd.oddLapAt (j + 1) := fun j hj => oddLapAt_succ hj
  constructor
  · rw [hq, hqueue]
    rfl
  · intro _
    by_cases hm : moved = []
    · simp only [hm, List.length_singleton]
      omega
    · have := hroom hm
      simp only [List.length_cons]
      omega
  · rw [hnext, hplace, List.length_cons]
  · rw [hlost]
    simp
  · rw [hlap, hodd _ (by omega), List.length_cons]
  · rw [hwr, List.mapIdx_cons, List.append_assoc]
    refine congrArg _ (congrArg₂ List.cons ?_ (List.mapIdx_eq_mapIdx_iff.2 fun j hj => ?_))
    · simp [CommandUnit.writeAt, oddLapAt_zero]
    · simp only [CommandUnit.writeAt, hplace, hodd j (by omega)]
      simp

theorem moveUpTo_moved (n : Nat) (s : State) : ∃ moved, ReportsMoved moved s (moveUpTo n s) := by
  induction n generalizing s with
  | zero => exact ⟨[], .none s⟩
  | succ n ih =>
    unfold moveUpTo
    split
    next hm =>
      obtain ⟨hq, hring, hwrites⟩ := (canMove_iff s).1 hm
      obtain ⟨r, rest, hq⟩ := List.exists_cons_of_ne_nil hq
      obtain ⟨moved, h⟩ := ih (moveReport s)
      exact ⟨r :: moved, .cons hq hring hwrites h⟩
    next => exact ⟨[], .none s⟩

/-- After as many moves as reports wait, none can move. -/
theorem moveUpTo_settled (n : Nat) {s : State} (hn : s.cmd.queue.length ≤ n) : (moveUpTo n s).canMove = false := by
  induction n generalizing s with
  | zero =>
    refine Bool.eq_false_of_not_eq_true fun hm => ((canMove_iff s).1 hm).1 ?_
    exact List.length_eq_zero_iff.1 (Nat.le_zero.1 hn)
  | succ n ih =>
    unfold moveUpTo
    split
    next hm =>
      obtain ⟨r, rest, hq⟩ := List.exists_cons_of_ne_nil ((canMove_iff s).1 hm).1
      refine ih ?_
      rw [moveReport_cons hq]
      simpa [hq] using hn
    next hm => exact Bool.eq_false_of_not_eq_true hm

theorem moveReports_settled (s : State) : (moveReports s).canMove = false := moveUpTo_settled _ (Nat.le_refl _)

theorem canMove_false_iff (s : State) : s.canMove = false ↔
    s.cmd.queue = [] ∨ 63 ≤ (s.cmd.nextEntry - s.cmd.consumer).toNat ∨ 2 ≤ s.bus.reportWrites.length := by
  rw [Bool.eq_false_iff, Ne, canMove_iff, CommandUnit.unacknowledged, ne_eq, not_and_or, not_and_or, not_not,
    Nat.not_lt, Nat.not_lt]

theorem exec_reportMove {s : State} (hrun : s.Running) : exec .reportMove s = .next (moveOne s) :=
  congrArg Host.Outcome.next (whileRunning_running _ hrun)

/-- Settles O5: the moves one after another, and the one of REPORT_MOVE. -/
theorem reportsMoveInOrder : Obligations.ReportsMoveInOrder := by
  refine ⟨fun s => ?chance, fun s hrun => ⟨fun hno => ?none, fun r rest hq hring hwrites => ?one⟩⟩
  case chance =>
    obtain ⟨moved, h⟩ := moveUpTo_moved s.cmd.queue.length s
    have hsettled := moveReports_settled s
    have hsans : (moveReports s).sansReports = s.sansReports := by
      obtain ⟨p, hp⟩ := moveReports_shape s
      rw [hp, sansReports_withReportPath]
    exact ⟨moved, h.queue, (canMove_false_iff _).1 hsettled, h.room, hsettled, hsans, h.next, h.lost, h.lap, h.writes⟩
  case none =>
    rw [exec_reportMove hrun, moveOne, (canMove_false_iff s).2 hno]
    rfl
  case one =>
    have hmove : s.canMove = true := (canMove_iff s).2 ⟨by rw [hq]; exact List.cons_ne_nil r rest, hring, hwrites⟩
    rw [exec_reportMove hrun, moveOne, if_pos hmove, moveReport_cons hq]

end Sys2Proof.Machine
end

section
/-! SUPPORT. EXAMINE (R33, R36, R44): the named values and their numbers, the packed entries field by field, and the
ENTRY reports. -/

namespace Sys2Proof

/-- The entries of a table, in order. -/
theorem list_eq_map {α : Type} {n : Nat} (t : Tab α n) : t.list = (List.finRange n).map t.get := by
  refine List.ext_getElem (by rw [List.length_map, List.length_finRange, t.size]) fun i h _ => ?_
  rw [List.getElem_map, List.getElem_finRange]
  rfl

namespace Machine

/-! ## Named values -/

/-- The fields of a score, by their numbers. -/
theorem scoreFields_getElem? (k : Nat) :
    ((List.finRange 8).map ScoreSource.field)[k]? = if h : k < 8 then some (.field ⟨k, h⟩) else none := by
  split
  next h => rw [List.getElem?_eq_getElem (by simpa using h), List.getElem_map, List.getElem_finRange]; rfl
  next h => rw [List.getElem?_eq_none (by simpa using h)]

theorem scoreSource_numbered :
    NumberedAs ScoreSource.number ([.home, .guest] ++ (List.finRange 8).map ScoreSource.field) := by
  intro x
  cases x with
  | home => rfl
  | guest => rfl
  | field i => exact (scoreFields_getElem? i.val).trans (dif_pos i.isLt)

theorem scoreSource_read :
    ReadsNumbers scoreSource? ([.home, .guest] ++ (List.finRange 8).map ScoreSource.field) := by
  intro n
  match n with
  | 0 => rfl
  | 1 => rfl
  | k + 2 => exact (scoreFields_getElem? k).symm

theorem namedValues : NamedValues := by
  refine ⟨?_, ?_, ?_, ?_, ?_, ?_, ?_, scoreSource_numbered, ?_, ?_, ?_, ?_, ?_, ?_, ?_, ?_, ?_, ?_, ?_, ?_, ?_, ?_, ?_,
    ?_, ?_⟩
  all_goals
    intro x
    cases x <;> rfl

/-- Two named values. -/
theorem readsNumbers_two {α : Type} {read : Nat → Option α} {a b : α} (h0 : read 0 = some a) (h1 : read 1 = some b)
    (h : ∀ n, read (n + 2) = none) : ReadsNumbers read [a, b]
  | 0 => h0
  | 1 => h1
  | n + 2 => h n

/-- Three named values. -/
theorem readsNumbers_three {α : Type} {read : Nat → Option α} {a b c : α} (h0 : read 0 = some a)
    (h1 : read 1 = some b) (h2 : read 2 = some c) (h : ∀ n, read (n + 3) = none) : ReadsNumbers read [a, b, c]
  | 0 => h0
  | 1 => h1
  | 2 => h2
  | n + 3 => h n

theorem windowKind_read : ReadsNumbers windowKind? [.replay, .sponsor, .crawl, .score, .clock, .alert]
  | 0 | 1 | 2 | 3 | 4 | 5 => rfl
  | _ + 6 => rfl

theorem namedValuesRead : NamedValuesRead :=
  ⟨readsNumbers_two rfl rfl fun _ => rfl, readsNumbers_two rfl rfl fun _ => rfl,
    readsNumbers_three rfl rfl rfl fun _ => rfl, readsNumbers_two rfl rfl fun _ => rfl,
    readsNumbers_three rfl rfl rfl fun _ => rfl, windowKind_read, readsNumbers_two rfl rfl fun _ => rfl,
    scoreSource_read, readsNumbers_two rfl rfl fun _ => rfl, readsNumbers_two rfl rfl fun _ => rfl,
    readsNumbers_three rfl rfl rfl fun _ => rfl, readsNumbers_two rfl rfl fun _ => rfl,
    readsNumbers_two rfl rfl fun _ => rfl, readsNumbers_three rfl rfl rfl fun _ => rfl,
    readsNumbers_three rfl rfl rfl fun _ => rfl, readsNumbers_three rfl rfl rfl fun _ => rfl⟩

/-! ## Packed entries -/

@[simp] theorem packed_nil : packed [] = [] := rfl

@[simp] theorem packed_cons (w v : Nat) (fields : List (Nat × Nat)) :
    packed ((w, v) :: fields) = leBytes w v ++ packed fields := rfl

theorem packed_append (l m : List (Nat × Nat)) : packed (l ++ m) = packed l ++ packed m := List.flatMap_append

@[simp] theorem flag_eq (b : Bool) : flag b = (1, yesNo b) := rfl

@[simp] theorem packed_orOnes {n : Nat} (w : Nat) (o : Option (Fin n)) (fields : List (Nat × Nat)) :
    packed (orOnes w o :: fields) = optionalIndex w o ++ packed fields := by
  cases o <;> rfl

theorem length_packed (fields : List (Nat × Nat)) : (packed fields).length = (fields.map Prod.fst).sum := by
  induction fields with
  | nil => rfl
  | cons f rest ih =>
    rw [packed_cons, List.length_append, length_leBytes, ih]
    rfl

theorem packWindow_eq (w : Window) : packWindow w = packed (windowFields w) := by
  simp [packWindow, windowFields, bytesOf]

theorem packActiveWindow_eq (s : State) (z : Fin 4) (i : Fin 16) :
    packActiveWindow s.comp z i = packed (entryFields s (.activeWindow z i)) := by
  rw [packActiveWindow, entryFields]
  cases (s.comp.active.get z).get i with
  | none => rfl
  | some w => exact packWindow_eq w

/-- The 20 codes of half a line lie together. -/
theorem packAlertText_eq (s : State) (i : Fin 8) :
    packAlertText s.glyph i = packed (entryFields s (.alertText i)) := by
  have hi := i.isLt
  have hcodes : packed (entryFields s (.alertText i)) = (List.finRange 20).map fun k =>
      BitVec.ofNat 8 (s.glyph.alertText.get ⟨20 * i.val + k.val, by omega⟩).val := by
    rw [packed, entryFields, List.flatMap_map, List.map_eq_flatMap]
    rfl
  rw [hcodes]
  have hlen : s.glyph.alertText.list.length = 160 := s.glyph.alertText.size
  refine List.ext_getElem ?_ fun k hk _ => ?_
  · simp [packAlertText, hlen]
    omega
  · simp [packAlertText, Tab.get]

theorem packImage_eq (i : Image) : packImage i = packed (imageFields i) := by
  simp [packImage, imageFields]

theorem packMessage_eq (s : State) (i : Fin 64) :
    packMessage (s.message.store.get i) = packed (entryFields s (.message i)) := by
  rw [entryFields]
  cases s.message.store.get i with
  | none => rfl
  | some m => simp [packMessage, bytesOf]

/-- A table of 2-byte fields. -/
theorem packed_table {n : Nat} (t : Tab Nat n) :
    t.list.flatMap (leBytes 2) = packed ((List.finRange n).map fun i => (2, t.get i)) := by
  rw [list_eq_map, packed, List.flatMap_map, List.flatMap_map]

theorem packClock_eq (s : State) : packClock s.timing = packed (entryFields s .clock) := by
  rw [entryFields, packed_append, ← packed_table]
  simp [packClock, State.hornGLine, State.hornPLine, Horn.sounding, bne, Bool.beq_eq_decide_eq]

theorem entryBytes_eq (s : State) (p : Pointer) : s.entryBytes p = packed (entryFields s p) := by
  cases p with
  | zone i =>
    cases hsense : (s.zone i).sense <;>
      simp [State.entryBytes, packZone, entryFields, bytesOf, edgeNumber, hsense, bne, Bool.beq_eq_decide_eq]
  | stagedWindow i => exact packWindow_eq _
  | activeWindow z i => exact packActiveWindow_eq s z i
  | alertText i => exact packAlertText_eq s i
  | sponsor i => simp [State.entryBytes, packSponsor, entryFields, packImage_eq, imageFields]
  | panel i => simp [State.entryBytes, packPanel, entryFields, packImage_eq, packed_append]
  | message i => exact packMessage_eq s i
  | clock => exact packClock_eq s
  | layout i => simp [State.entryBytes, packLayout, entryFields]
  | record =>
    cases hsense : s.capture.source.sense <;> simp [State.entryBytes, packRecord, entryFields, edgeNumber, hsense]
  | mark i => simp [State.entryBytes, packMark, entryFields]
  | slot k => simp [State.entryBytes, packSlot, entryFields, bytesOf]
  | clip i => simp [State.entryBytes, packClip, entryFields, bytesOf]
  | colour i => exact (List.append_nil _).symm
  | glyph i => exact (List.append_nil _).symm
  | panelList i => exact (List.append_nil _).symm

theorem length_entryBytes (s : State) (p : Pointer) : (s.entryBytes p).length = entrySize p.table := by
  rw [entryBytes_eq, length_packed]
  cases p with
  | activeWindow z i =>
    rw [entryFields]
    cases (s.comp.active.get z).get i <;> rfl
  | message i =>
    rw [entryFields]
    cases s.message.store.get i <;> rfl
    | _ => simp [entryFields, entrySize, Pointer.table, windowFields, imageFields, orOnes, Function.comp_def]

/-! ## The answer -/

theorem exec_examine (h : Header) {s : State} (hrun : s.Running) : exec (.examine h) s = .next (takeExamine h s) :=
  congrArg Host.Outcome.next (whileRunning_running _ hrun)

theorem answerEntry_single (h : Header) (p : Pointer) {bytes : List Byte} (s : State) (hb : bytes.length ≤ 20) :
    answerEntry h p bytes s = s.offer [entryReport h p p.staysAtEnd false bytes s] := if_pos hb

theorem answerEntry_pair (h : Header) (p : Pointer) {bytes : List Byte} {s : State} (hb : 20 < bytes.length)
    (hq : s.cmd.queue.length ≤ 6) :
    answerEntry h p bytes s = s.offer [entryReport h p false true (bytes.take 20) s,
      entryReport h p p.staysAtEnd false (bytes.drop 20) s] := by
  rw [answerEntry, if_neg (Nat.not_le.2 hb), enqueuePair, if_pos (show s.cmd.queue.length + 2 ≤ Config.reportQueueCapacity from Nat.add_le_add_right hq 2)]
  rfl

theorem answerEntry_lost (h : Header) (p : Pointer) {bytes : List Byte} {s : State} (hb : 20 < bytes.length)
    (hq : 6 < s.cmd.queue.length) : answerEntry h p bytes s = s.withCmd { s.cmd with lost := true } := by
  rw [answerEntry, if_neg (Nat.not_le.2 hb), enqueuePair, if_neg]
  unfold Config.reportQueueCapacity
  omega

/-- Settles O10: the packed entry is the fields one behind another, and its length decides between one report and a
pair. -/
theorem examineAnswers : Obligations.ExamineAnswers := by
  refine ⟨namedValues, namedValuesRead, fun h s hrun => ⟨length_entryBytes _ _, entryBytes_eq _ _, ?_⟩⟩
  rw [exec_examine h hrun, ← length_entryBytes s]
  refine ⟨fun hb => ?single, fun hb hq => ?pair, fun hb hq => ?lost⟩
  all_goals refine congrArg Host.Outcome.next ?_
  case single => exact congrArg (setPointer _) (answerEntry_single h _ s hb)
  case pair => exact congrArg (setPointer _) (answerEntry_pair h _ hb hq)
  case lost => exact congrArg (setPointer _) (answerEntry_lost h _ hb hq)

end Machine
end Sys2Proof
end

section
/-! SUPPORT. DEPOSIT into the tables of the glyph renderer and into MARK (R87, R88, R94, R96, R119): what the operands
read, what is refused and what is written. -/

namespace Sys2Proof

/-- A byte of a record as a field. -/
theorem fieldAt_byte {o : List Byte} {k : Nat} (h : k < o.length) : fieldAt 1 o k = o[k].toNat := by
  rw [fieldAt, List.drop_eq_getElem_cons h]
  exact Nat.add_zero _

namespace Machine

/-! ## Named values and indices -/

/-- A number beyond the list is no named value. -/
theorem readsNumbers_none {α : Type} {read : Nat → Option α} {l : List α} (h : ReadsNumbers read l) {n : Nat}
    (hn : l.length ≤ n) : read n = none := by
  rw [h n, List.getElem?_eq_none hn]

theorem yesNo_none {n : Nat} (h : 1 < n) : yesNo? n = none :=
  readsNumbers_none (readsNumbers_two (read := yesNo?) rfl rfl fun _ => rfl) h

theorem edge_none {n : Nat} (h : 1 < n) : edge? n = none :=
  readsNumbers_none (readsNumbers_two (read := edge?) rfl rfl fun _ => rfl) h

theorem scoreSource_none {n : Nat} (h : 9 < n) : scoreSource? n = none := readsNumbers_none scoreSource_read h

theorem markAction_none {n : Nat} (h : 2 < n) : markAction? n = none :=
  readsNumbers_none (readsNumbers_three (read := markAction?) rfl rfl rfl fun _ => rfl) h

@[simp] theorem index_val {n : Nat} (i : Fin n) : index? n i.val = some i := by
  simp [index?]

theorem index_none {n v : Nat} (h : n ≤ v) : index? n v = none := by
  simp [index?, Nat.not_lt.2 h]

/-- An optional index field of one byte, absent as FFh. -/
theorem index_optional {n : Nat} {o : Option (Fin n)} {v : Nat} (hn : n ≤ 255) (hsome : ∀ k, o = some k → v = k.val)
    (hnone : o = none → v = 255) : index? n v = o := by
  cases o with
  | some k => rw [hsome k rfl, index_val]
  | none => rw [hnone rfl, index_none hn]

/-- Two things that differ, said by what makes them equal. -/
theorem bne_eq_decide {α : Type} [DecidableEq α] {a b : α} {p : Prop} [Decidable p] (h : a ≠ b ↔ p) :
    (a != b) = decide p := by
  rw [Bool.eq_iff_iff, bne_iff_ne, decide_eq_true_eq, h]

/-! ## Codes -/

/-- Codes of at most 127 are read as they are. -/
theorem readCodes_text {l : List Byte} (h : ∀ b ∈ l, b.toNat < 128) :
    ∃ codes, readCodes l = some codes ∧ codes.map Fin.val = l.map BitVec.toNat := by
  induction l with
  | nil => exact ⟨[], rfl, rfl⟩
  | cons b rest ih =>
    obtain ⟨hb, hrest⟩ := List.forall_mem_cons.1 h
    obtain ⟨codes, hcodes, hval⟩ := ih hrest
    refine ⟨⟨b.toNat, hb⟩ :: codes, ?_, congrArg (List.cons b.toNat) hval⟩
    rw [readCodes, hcodes, index?, dif_pos hb]

theorem readCodes_none {l : List Byte} (h : ∃ b ∈ l, 128 ≤ b.toNat) : readCodes l = none := by
  induction l with
  | nil => exact absurd h (by simp)
  | cons b rest ih =>
    rw [readCodes]
    obtain ⟨x, hx, hbig⟩ := h
    obtain rfl | hx := List.mem_cons.1 hx
    · rw [index_none hbig]
    · rw [ih ⟨x, hx, hbig⟩]
      split
      next hcs => exact absurd hcs (by simp)
      next => rfl

/-- Codes written from `p` on, and the rest as it was. -/
theorem writeCodes_get {n : Nat} (text : Tab Code n) (p : Nat) (codes : List Code) (k : Fin n) :
    (writeCodes text p codes).get k =
      if p ≤ k.val then codes[k.val - p]?.getD (text.get k) else text.get k := by
  induction codes generalizing text p with
  | nil => simp [writeCodes]
  | cons c codes ih =>
    have hset : (if h : p < n then text.set ⟨p, h⟩ c else text).get k = if p = k.val then c else text.get k := by
      split
      · rw [Tab.get_set]
        simp only [Fin.ext_iff]
      · rw [if_neg (by omega)]
    rw [writeCodes, ih, hset]
    by_cases hp : p = k.val
    · simp [hp]
    · by_cases hle : p ≤ k.val
      · rw [if_pos (by omega), if_neg hp, if_pos hle, show k.val - p = (k.val - (p + 1)) + 1 by omega,
          List.getElem?_cons_succ]
      · rw [if_neg (by omega), if_neg hp, if_neg hle]

/-- Codes read from the first `m` bytes of `o`, written from `p` on. -/
theorem writeCodes_read {n m : Nat} (text : Tab Code n) (p : Nat) {o : List Byte} {codes : List Code}
    (hm : m ≤ o.length) (hcodes : codes.map Fin.val = (o.take m).map BitVec.toNat) (k : Fin n) :
    ((writeCodes text p codes).get k).val =
      if p ≤ k.val ∧ k.val < p + m then fieldAt 1 o (k.val - p) else (text.get k).val := by
  have hlen : codes.length = m := by
    have := congrArg List.length hcodes
    simpa [hm] using this
  rw [writeCodes_get]
  by_cases hin : p ≤ k.val ∧ k.val < p + m
  · have hk : k.val - p < codes.length := by omega
    have hcode : codes[k.val - p].val = o[k.val - p].toNat := by
      have := congrArg (fun l => l[k.val - p]?) hcodes
      simpa [List.getElem?_eq_getElem hk, List.getElem?_take, show k.val - p < m by omega,
        List.getElem?_eq_getElem (show k.val - p < o.length by omega)] using this
    rw [if_pos hin, if_pos hin.1, List.getElem?_eq_getElem hk, Option.getD_some, hcode, fieldAt_byte]
  · rw [if_neg hin]
    split
    · rw [List.getElem?_eq_none (by omega), Option.getD_none]
    · rfl

/-- Settles O12: GLYPH and COLOUR take what the operands hold, ALERT_TEXT what `readCodes` makes of them. -/
theorem rendererDeposits : Obligations.RendererDeposits := by
  refine fun h o s hrun ho => ⟨fun i hp => ?glyph, fun i hp => ?colour, fun i hp => ⟨fun hcodes => ?text, fun hbad => ?range⟩⟩
  case glyph => exact exec_deposit_accepted h hrun ho hp rfl
  case colour => exact exec_deposit_accepted h hrun ho hp rfl
  case text =>
    obtain ⟨codes, hread, hval⟩ := readCodes_text hcodes
    refine ⟨writeCodes s.glyph.alertText (20 * i.val) codes, exec_deposit_accepted h hrun ho hp ?_,
      writeCodes_read _ _ (by omega) hval⟩
    rw [depositAt, depositAlertText, hread]
  case range => exact exec_deposit_refused h hrun ho hp (by rw [depositAt, depositAlertText, readCodes_none hbad])

/-! ## LAYOUT -/

theorem readLayout_none {o : List Byte} (h : 1 < fieldAt 1 o 0 ∨ 9 < fieldAt 1 o 1 ∨ 1 < fieldAt 1 o 5) :
    readLayout o = none := by
  unfold readLayout
  split
  next he hs hu =>
    obtain h | h | h := h
    · exact absurd he (by simp [yesNo_none h])
    · exact absurd hs (by simp [scoreSource_none h])
    · exact absurd hu (by simp [yesNo_none h])
  next => rfl

/-- A number brought into `lo` to `hi` differs exactly when it lay outside. -/
theorem clamp_bne {lo hi v : Nat} (h : lo ≤ hi) : (clamp lo hi v != v) = decide (v < lo ∨ hi < v) :=
  bne_eq_decide (by unfold clamp; omega)

section
variable {o : List Byte} {enabled suppress : Bool} {source : ScoreSource}

/-- The fields of a LAYOUT deposit. -/
theorem readLayout_some (he : yesNo? (fieldAt 1 o 0) = some enabled)
    (hs : scoreSource? (fieldAt 1 o 1) = some source) (hu : yesNo? (fieldAt 1 o 5) = some suppress) :
    readLayout o = some
      { enabled := enabled, source := source, column := fieldAt 1 o 2, row := fieldAt 1 o 3, digits := fieldAt 1 o 4,
        suppress := suppress, colour := fieldAt 1 o 6 } := by
  rw [readLayout, he, hs, hu]

end

theorem layoutDeposits (h : Header) (o : List Byte) (i : Fin 48) {s : State} (hrun : s.Running) (ho : o.length = 28)
    (hp : s.cmd.pointer = .layout i) (enabled : Bool) (source : ScoreSource) (suppress : Bool)
    (he : yesNo? (fieldAt 1 o 0) = some enabled) (hs : scoreSource? (fieldAt 1 o 1) = some source)
    (hu : yesNo? (fieldAt 1 o 5) = some suppress) :
    (16 ≤ fieldAt 1 o 6 → fieldAt 1 o 6 ≤ 254 → exec (.deposit h o) s = .next (depositRefused h s .range)) ∧
    ∀ colour : Option (Fin 16), (∀ k, colour = some k → fieldAt 1 o 6 = k.val) →
      (colour = none → fieldAt 1 o 6 = 255) →
      exec (.deposit h o) s = .next (deposited h s
        (s.withGlyph { s.glyph with
          layouts := s.glyph.layouts.set i
            { enabled := enabled, source := source, column := fieldAt 1 o 2, row := fieldAt 1 o 3,
              digits := max 1 (min 3 (fieldAt 1 o 4)), suppress := suppress, colour := colour } })
        (decide (fieldAt 1 o 4 = 0 ∨ 3 < fieldAt 1 o 4))) := by
  have hread := readLayout_some he hs hu
  refine ⟨fun hlow hhigh => exec_deposit_refused h hrun ho hp ?_, fun colour hsome hnone =>
    exec_deposit_accepted h hrun ho hp ?_⟩
  all_goals rw [depositAt, depositLayout, hread]; dsimp only
  · rw [if_pos ⟨hlow, hhigh⟩]
  · have hcolour : ¬ (16 ≤ fieldAt 1 o 6 ∧ fieldAt 1 o 6 ≤ 254) := by
      cases colour with
      | some k => have := hsome k rfl; omega
      | none => have := hnone rfl; omega
    rw [if_neg hcolour, index_optional (by omega) hsome hnone, clamp_bne (by omega),
      decide_eq_decide.2 (or_congr Nat.lt_one_iff Iff.rfl)]
    rfl

/-! ## MARK -/

theorem readMark_none {o : List Byte} (h : 1 < fieldAt 1 o 0 ∨ 2 < fieldAt 1 o 5) : readMark o = none := by
  unfold readMark
  split
  next he ha =>
    obtain h | h := h
    · exact absurd he (by simp [yesNo_none h])
    · exact absurd ha (by simp [markAction_none h])
  next => rfl

theorem markDeposits (h : Header) (o : List Byte) (i : Fin 4) {s : State} (hrun : s.Running) (ho : o.length = 28)
    (hp : s.cmd.pointer = .mark i) (enabled : Bool) (action : MarkAction)
    (he : yesNo? (fieldAt 1 o 0) = some enabled) (ha : markAction? (fieldAt 1 o 5) = some action) :
    (action = .moment → 7 < fieldAt 1 o 6 ∨ 127 < fieldAt 1 o 7 →
      exec (.deposit h o) s = .next (depositRefused h s .range)) ∧
    ((action = .moment → fieldAt 1 o 6 ≤ 7 ∧ fieldAt 1 o 7 ≤ 127) →
      exec (.deposit h o) s = .next (deposited h s
        (s.withTiming { s.timing with
          marks := s.timing.marks.set i
            { enabled := enabled, value := min 5999000 (fieldAt 4 o 1), action := action, panel := fieldAt 1 o 6,
              entry := fieldAt 1 o 7, frames := max 1 (fieldAt 2 o 8), fired := false } })
        (decide (5999000 < fieldAt 4 o 1 ∨ fieldAt 2 o 8 = 0)))) := by
  have hread : readMark o = some
      { enabled := enabled, value := fieldAt 4 o 1, action := action, panel := fieldAt 1 o 6, entry := fieldAt 1 o 7,
        frames := fieldAt 2 o 8 } := by
    rw [readMark, he, ha]
  refine ⟨fun hmoment hout => exec_deposit_refused h hrun ho hp ?_, fun hin => exec_deposit_accepted h hrun ho hp ?_⟩
  all_goals rw [depositAt, depositMark, hread]; dsimp only
  · rw [if_pos ⟨hmoment, hout⟩]
  · have hvalid : ¬ (action = .moment ∧ (7 < fieldAt 1 o 6 ∨ 127 < fieldAt 1 o 7)) := by
      rintro ⟨hmoment, hout⟩
      have := hin hmoment
      omega
    have hclamped : (min Config.gameClockTop (fieldAt 4 o 1) != fieldAt 4 o 1 || max 1 (fieldAt 2 o 8) != fieldAt 2 o 8)
        = decide (5999000 < fieldAt 4 o 1 ∨ fieldAt 2 o 8 = 0) := by
      rw [min_bne_eq, bne_eq_decide (p := fieldAt 2 o 8 = 0) (by omega), ← Bool.decide_or]
      rfl
    rw [if_neg hvalid, hclamped]
    rfl

/-- Settles O13, for LAYOUT and MARK apart: UNKNOWN comes of the reading, RANGE and the writing after it. -/
theorem layoutAndMarkDeposits : Obligations.LayoutAndMarkDeposits := by
  refine ⟨fun h o i s hrun ho hp => ⟨fun hunknown => ?layout, layoutDeposits h o i hrun ho hp⟩,
    fun h o i s hrun ho hp => ⟨fun hunknown => ?mark, markDeposits h o i hrun ho hp⟩⟩
  case layout =>
    exact exec_deposit_refused h hrun ho hp (by rw [depositAt, depositLayout, readLayout_none hunknown])
  case mark =>
    exact exec_deposit_refused h hrun ho hp (by rw [depositAt, depositMark, readMark_none hunknown])

end Machine
end Sys2Proof
end

section
/-! SUPPORT. DEPOSIT into ZONE and into a staged WINDOW (R46 to R48, R63, R64). -/

namespace Sys2Proof.Machine

theorem pulseMode_none {n : Nat} (h : 1 < n) : pulseMode? n = none :=
  readsNumbers_none (readsNumbers_two (read := pulseMode?) rfl rfl fun _ => rfl) h

theorem reportLevel_none {n : Nat} (h : 2 < n) : reportLevel? n = none :=
  readsNumbers_none (readsNumbers_three (read := reportLevel?) rfl rfl rfl fun _ => rfl) h

theorem windowKind_none {n : Nat} (h : 5 < n) : windowKind? n = none := readsNumbers_none windowKind_read h

theorem render_none {n : Nat} (h : 1 < n) : render? n = none :=
  readsNumbers_none (readsNumbers_two (read := render?) rfl rfl fun _ => rfl) h

theorem addressFits_iff {a : Nat} : addressFits a = true ↔ a < 0x1000000000 := decide_eq_true_iff

theorem addressFits_not {a : Nat} (h : 0x1000000000 ≤ a) : (!addressFits a) = true := by
  rw [Bool.not_eq_true', Bool.eq_false_iff, Ne, addressFits_iff]
  exact Nat.not_lt.2 h

theorem addressFits_of {a : Nat} (h : a < 0x1000000000) : ¬ (!addressFits a) = true := by
  simp [addressFits_iff.2 h]

/-! ## ZONE -/

theorem readZone_none {o : List Byte}
    (h : 1 < fieldAt 1 o 0 ∨ 1 < fieldAt 1 o 14 ∨ 1 < fieldAt 1 o 15 ∨ 2 < fieldAt 1 o 20) : readZone o = none := by
  unfold readZone
  split
  next he hs hm hl =>
    obtain h | h | h | h := h
    · exact absurd he (by simp [yesNo_none h])
    · exact absurd hs (by simp [edge_none h])
    · exact absurd hm (by simp [pulseMode_none h])
    · exact absurd hl (by simp [reportLevel_none h])
  next => rfl

theorem sameGeometry_iff (d : ZoneDeposit) (z : Zone) : d.sameGeometry z = true ↔
    d.base = z.base ∧ d.pitch = z.pitch ∧ d.lines = z.lines ∧ d.width = z.width := by
  simp [ZoneDeposit.sameGeometry, and_assoc]

/-- An adjustment shows in the five fields it may change. -/
theorem zoneAdjust_bne (d : ZoneDeposit) : (d.adjust != d) = decide (¬ (d.adjust.base = d.base ∧
    d.adjust.pitch = d.pitch ∧ d.adjust.lines = d.lines ∧ d.adjust.width = d.width ∧
    d.adjust.lossTimeout = d.lossTimeout)) := by
  refine bne_eq_decide (not_congr ⟨fun h => by rw [h]; simp, fun ⟨hb, hp, hl, hw, ht⟩ => ?_⟩)
  obtain ⟨enabled, base, pitch, lines, width, sense, mode, timeout, level⟩ := d
  simp only [ZoneDeposit.adjust, ZoneDeposit.mk.injEq] at hb hp hl hw ht ⊢
  exact ⟨trivial, hb, hp, hl, hw, trivial, trivial, ht, trivial⟩

section
variable (i : Fin 4) {o : List Byte} {s : State} {d : ZoneDeposit}

/-- The geometry of an enabled zone would change (R47). -/
def ZoneDeposit.Moves (d : ZoneDeposit) (z : Zone) : Prop :=
  z.state ≠ .idle ∧ d.enabled = true ∧
    ¬ (d.base = z.base ∧ d.pitch = z.pitch ∧ d.lines = z.lines ∧ d.width = z.width)

/-- The geometry cannot be enabled (R47). -/
def ZoneDeposit.Unusable (d : ZoneDeposit) : Prop :=
  d.enabled = true ∧ (d.lines = 0 ∨ d.width = 0 ∨ 0x1000000000 < d.base + d.lines * d.pitch)

theorem depositZone_range (hread : readZone o = some d) (h : 0x1000000000 ≤ d.base) :
    depositZone i o s = .refuse .range := by
  unfold depositZone
  rw [hread]
  exact if_pos (addressFits_not h)

theorem depositZone_state (hread : readZone o = some d) (h : d.base < 0x1000000000)
    (hmoves : d.adjust.Moves (s.zone i)) : depositZone i o s = .refuse .state := by
  obtain ⟨henabled, hon, hdiffers⟩ := hmoves
  unfold depositZone
  rw [hread]
  dsimp only
  rw [if_neg (addressFits_of h), if_pos]
  exact ⟨henabled, hon, by simpa [← sameGeometry_iff] using hdiffers⟩

theorem not_moves {z : Zone} (h : ¬ d.Moves z) :
    ¬ (z.state ≠ .idle ∧ d.enabled = true ∧ (!d.sameGeometry z) = true) := by
  rintro ⟨henabled, hon, hdiffers⟩
  exact h ⟨henabled, hon, by simpa [← sameGeometry_iff] using hdiffers⟩

theorem depositZone_unusable (hread : readZone o = some d) (h : d.base < 0x1000000000)
    (hmoves : ¬ d.adjust.Moves (s.zone i)) (hunusable : d.adjust.Unusable) : depositZone i o s = .refuse .range := by
  obtain ⟨hon, hextent⟩ := hunusable
  unfold depositZone
  rw [hread]
  dsimp only
  rw [if_neg (addressFits_of h), if_neg (not_moves hmoves)]
  by_cases hempty : d.adjust.enabled = true ∧ (d.adjust.lines = 0 ∨ d.adjust.width = 0)
  · rw [if_pos hempty]
  · rw [if_neg hempty, if_pos]
    refine ⟨hon, ?_⟩
    obtain hl | hw | htop := hextent
    · exact absurd ⟨hon, .inl hl⟩ hempty
    · exact absurd ⟨hon, .inr hw⟩ hempty
    · exact htop

theorem depositZone_accept (hread : readZone o = some d) (h : d.base < 0x1000000000)
    (hmoves : ¬ d.adjust.Moves (s.zone i)) (husable : ¬ d.adjust.Unusable) :
    depositZone i o s = .accept
      (if d.adjust.enabled then s.setZone i ((s.zone i).written d.adjust)
        else discardRecord i (s.setZone i ((s.zone i).written d.adjust))) (d.adjust != d) := by
  have hextent : ¬ (d.adjust.enabled = true ∧ (d.adjust.lines = 0 ∨ d.adjust.width = 0)) := by
    rintro ⟨hon, hempty⟩
    exact husable ⟨hon, hempty.imp_right .inl⟩
  have htop : ¬ (d.adjust.enabled = true ∧ Config.addressSpace < d.adjust.base + d.adjust.lines * d.adjust.pitch) :=
    fun ⟨hon, htop⟩ => husable ⟨hon, .inr (.inr htop)⟩
  unfold depositZone
  rw [hread]
  dsimp only
  rw [if_neg (addressFits_of h), if_neg (not_moves hmoves), if_neg hextent, if_neg htop]

end

/-- A zone deposited enabled. -/
theorem written_enabled {z : Zone} {d : ZoneDeposit} (hon : d.enabled = true) : z.written d =
    { z with
      state := if z.state = .idle then .waiting else z.state
      base := d.base, pitch := d.pitch, lines := d.lines, width := d.width, sense := d.sense, mode := d.mode
      lossTimeout := d.lossTimeout, level := d.level
      coverage := if z.state = .idle then [] else z.coverage
      lossTimer := if z.state = .idle then none else z.lossTimer } := by
  unfold Zone.written Zone.stateAfter
  by_cases hidle : z.state = .idle
  · simp [hon, hidle]
  · simp [hon, hidle]

/-- A zone deposited disabled. -/
theorem written_disabled {z : Zone} {d : ZoneDeposit} (hoff : d.enabled = false) : z.written d =
    { z with
      state := .idle, base := d.base, pitch := d.pitch, lines := d.lines, width := d.width, sense := d.sense
      mode := d.mode, lossTimeout := d.lossTimeout, level := d.level, coverage := [], lossTimer := none } := by
  simp [Zone.written, Zone.stateAfter, hoff]

/-- Settles O14: the deposit is refused in the order of R47, and the zone written otherwise is the one R48 names. -/
theorem zoneDepositRules : Obligations.ZoneDepositRules := by
  refine fun h o i s hrun ho hp => ⟨fun hunknown => ?unknown, fun enabled sense mode level he hs hm hl => ?_⟩
  case unknown =>
    exact exec_deposit_refused h hrun ho hp (by rw [depositAt, depositZone, readZone_none hunknown])
  let d : ZoneDeposit :=
    { enabled := enabled, base := fieldAt 5 o 1, pitch := fieldAt 4 o 6, lines := fieldAt 2 o 10
      width := fieldAt 2 o 12, sense := sense, mode := mode, lossTimeout := fieldAt 4 o 16, level := level }
  have hread : readZone o = some d := by rw [readZone, he, hs, hm, hl]
  have haccept : fieldAt 5 o 1 < 0x1000000000 → ¬ d.adjust.Moves (s.zone i) → ¬ d.adjust.Unusable →
      exec (.deposit h o) s = .next (deposited h s
        (if d.adjust.enabled then s.setZone i ((s.zone i).written d.adjust)
          else discardRecord i (s.setZone i ((s.zone i).written d.adjust))) (d.adjust != d)) :=
    fun hfits hmoves husable => exec_deposit_accepted h hrun ho hp
      (depositZone_accept i hread hfits hmoves husable)
  refine ⟨fun hrange => ?range, fun hfits hmoves => ?state, fun hfits hmoves hunusable => ?unusable,
    fun hfits hmoves husable hon => ?enabled, fun hfits hoff => ?disabled⟩
  case range => exact exec_deposit_refused h hrun ho hp (depositZone_range i hread hrange)
  case state => exact exec_deposit_refused h hrun ho hp (depositZone_state i hread hfits hmoves)
  case unusable =>
    exact exec_deposit_refused h hrun ho hp (depositZone_unusable i hread hfits hmoves hunusable)
  case enabled =>
    rw [haccept hfits hmoves husable, if_pos (show d.adjust.enabled = true from hon), zoneAdjust_bne,
      written_enabled hon]
    rfl
  case disabled =>
    have hno : ¬ d.adjust.enabled = true := by simp [show d.adjust.enabled = false from hoff]
    rw [haccept hfits (fun hm => hno hm.2.1) (fun hu => hno hu.1), if_neg hno, zoneAdjust_bne, written_disabled hoff]
    rfl

/-! ## WINDOW -/

theorem readWindow_none {o : List Byte} (h : 1 < fieldAt 1 o 0 ∨ 5 < fieldAt 1 o 1 ∨ 1 < fieldAt 1 o 12 ∨
    (fieldAt 1 o 1 = 4 ∧ 1 < fieldAt 1 o 11)) : readWindow o = none := by
  unfold readWindow
  split
  next he hk hr =>
    obtain h | h | h | ⟨hclock, hbinding⟩ := h
    · exact absurd he (by simp [yesNo_none h])
    · exact absurd hk (by simp [windowKind_none h])
    · exact absurd hr (by simp [render_none h])
    · rw [hclock] at hk
      exact if_pos ⟨(Option.some.inj hk).symm, hbinding⟩
  next => rfl

theorem depositWindow_unknown (i : Fin 16) {o : List Byte} (s : State) (h : readWindow o = none) :
    depositWindow i o s = .refuse .unknown := by
  rw [depositWindow, h]

section
variable (i : Fin 16) {o : List Byte} {s : State} {d : WindowDeposit}

theorem depositWindow_range (hread : readWindow o = some d)
    (h : 3 < d.zone ∨ 15 < d.foreground ∨ 15 < d.background ∨ 15 < d.fill ∨ (d.kind = .sponsor ∧ 7 < d.binding.toNat) ∨
      (d.kind = .score ∧ 3 < d.binding.toNat)) : depositWindow i o s = .refuse .range := by
  unfold depositWindow
  rw [hread]
  dsimp only
  split
  next hz hf hb hfill =>
    obtain h | h | h | h | h := h
    · exact absurd hz (by simp [index_none h])
    · exact absurd hf (by simp [index_none h])
    · exact absurd hb (by simp [index_none h])
    · exact absurd hfill (by simp [index_none h])
    · exact if_pos h
  next => rfl

theorem depositWindow_accept (hread : readWindow o = some d) {z : Fin 4} {foreground background fill : Fin 16}
    (hz : d.zone = z.val) (hf : d.foreground = foreground.val) (hb : d.background = background.val)
    (hfill : d.fill = fill.val) (hsponsor : d.kind = .sponsor → d.binding.toNat ≤ 7)
    (hscore : d.kind = .score → d.binding.toNat ≤ 3) :
    depositWindow i o s =
      let e := d.adjust.bound (s.zone z)
      .accept (s.withComp { s.comp with
        staged := s.comp.staged.set i
          { enabled := e.enabled, kind := e.kind, zone := z, top := e.top, height := e.height, left := e.left
            width := e.width, binding := e.binding
            render := if e.kind = .alert then .opaqueCells else e.render, scale := e.scale
            foreground := foreground, background := background, fill := fill, cropTop := e.cropTop
            cropLeft := e.cropLeft } }) (e != d) := by
  have hbinding : ¬ ((d.kind = .sponsor ∧ 7 < d.binding.toNat) ∨ (d.kind = .score ∧ 3 < d.binding.toNat)) := by
    rintro (⟨hk, h⟩ | ⟨hk, h⟩)
    · exact absurd (hsponsor hk) (Nat.not_le.2 h)
    · exact absurd (hscore hk) (Nat.not_le.2 h)
  unfold depositWindow
  rw [hread]
  dsimp only
  rw [hz, hf, hb, hfill, index_val, index_val, index_val, index_val]
  exact if_neg hbinding

end

/-- What the bounds and the cut leave of a window. -/
theorem windowBound_eq (d : WindowDeposit) (zone : Zone) :
    let inside := zone.lines ≠ 0 ∧ zone.width ≠ 0 ∧ min 4095 d.top < zone.lines ∧ min 1023 d.left < zone.width
    d.adjust.bound zone =
      { d with
        top := min 4095 d.top
        height := if inside then min (max 1 (min 4096 d.height)) (zone.lines - min 4095 d.top)
          else max 1 (min 4096 d.height)
        left := min 1023 d.left
        width := if inside then min (max 1 (min 1024 d.width)) (zone.width - min 1023 d.left)
          else max 1 (min 1024 d.width)
        scale := max 1 (min 8 d.scale)
        cropTop := min 4095 d.cropTop
        cropLeft := min 1023 d.cropLeft } := by
  intro inside
  by_cases hin : inside
  · rw [if_pos hin, if_pos hin]
    exact if_pos hin
  · rw [if_neg hin, if_neg hin]
    exact if_neg hin

/-- The bounds and the cut show in the seven fields they may change. -/
theorem windowBound_bne (d : WindowDeposit) (zone : Zone) : (d.adjust.bound zone != d) = decide (¬
    ((d.adjust.bound zone).top = d.top ∧ (d.adjust.bound zone).height = d.height ∧
      (d.adjust.bound zone).left = d.left ∧ (d.adjust.bound zone).width = d.width ∧
      (d.adjust.bound zone).scale = d.scale ∧ (d.adjust.bound zone).cropTop = d.cropTop ∧
      (d.adjust.bound zone).cropLeft = d.cropLeft)) := by
  refine bne_eq_decide (not_congr ⟨fun h => by rw [h]; simp, ?_⟩)
  obtain ⟨enabled, kind, zn, top, height, left, width, binding, render, scale, fg, bg, fl, ct, cl⟩ := d
  rw [windowBound_eq]
  simp only [WindowDeposit.mk.injEq]
  exact fun ⟨ht, hh, hl, hw, hs, hct, hcl⟩ =>
    ⟨trivial, trivial, trivial, ht, hh, hl, hw, trivial, trivial, hs, trivial, trivial, trivial, hct, hcl⟩

/-- Settles O15: refusals in order, then the window brought into range and cut to its zone. -/
theorem windowDepositRules : Obligations.WindowDepositRules := by
  refine fun h o i s hrun ho hp => ⟨fun hunknown => ?unknown, fun enabled kind render he hk hr hclock => ?_⟩
  case unknown =>
    exact exec_deposit_refused h hrun ho hp
      (depositWindow_unknown i s (readWindow_none hunknown))
  have hbinding : (bitsAt 1 o 11).toNat = fieldAt 1 o 11 := by
    rw [bitsAt, BitVec.toNat_ofNat]
    exact Nat.mod_eq_of_lt (fieldAt_one_lt o 11)
  have hread : readWindow o = some
      { enabled := enabled, kind := kind, zone := fieldAt 1 o 2, top := fieldAt 2 o 3, height := fieldAt 2 o 5
        left := fieldAt 2 o 7, width := fieldAt 2 o 9, binding := bitsAt 1 o 11, render := render
        scale := fieldAt 2 o 13, foreground := fieldAt 1 o 15, background := fieldAt 1 o 16
        fill := fieldAt 1 o 17, cropTop := fieldAt 2 o 18, cropLeft := fieldAt 2 o 20 } := by
    rw [readWindow, he, hk, hr]
    exact if_neg fun ⟨hc, hb⟩ => absurd (hclock hc) (Nat.not_le.2 hb)
  refine ⟨fun hrange => ?range, fun z foreground background fill hz hf hb hfill hsponsor hscore => ?accept⟩
  case range =>
    rw [← hbinding] at hrange
    exact exec_deposit_refused h hrun ho hp (depositWindow_range i hread hrange)
  case accept =>
    have haccept := depositWindow_accept i (s := s) hread hz hf hb hfill (hbinding.symm ▸ hsponsor)
      (hbinding.symm ▸ hscore)
    dsimp only at haccept
    rw [windowBound_bne, windowBound_eq] at haccept
    exact exec_deposit_accepted h hrun ho hp (haccept)

end Sys2Proof.Machine
end

section
/-! SUPPORT. DEPOSIT into SPONSOR, PANEL, PANEL_LIST and RECORD (R128, R163 to R166). -/

namespace Sys2Proof.Machine

theorem entryClass_none {n : Nat} (h : 2 < n) : entryClass? n = none :=
  readsNumbers_none (readsNumbers_three (read := entryClass?) rfl rfl rfl fun _ => rfl) h

theorem mirrorMode_none {n : Nat} (h : 1 < n) : mirrorMode? n = none :=
  readsNumbers_none (readsNumbers_two (read := mirrorMode?) rfl rfl fun _ => rfl) h

/-- Either of two adjustments shows. -/
theorem bne_or_bne {α β : Type} [DecidableEq α] [DecidableEq β] {a b : α} {x y : β} {p : Prop} [Decidable p]
    (h : x ≠ y ↔ p) : (a != b || x != y) = decide (a ≠ b ∨ p) := by
  rw [bne_eq_decide h, bne_eq_decide Iff.rfl, Bool.decide_or]

/-! ## SPONSOR -/

@[simp] theorem entry_setEntry_self (s : State) (e : Fin 128) (x : SponsorEntry) : (s.setEntry e x).entry e = x :=
  Tab.get_set_self _ _ _

theorem readSponsor_none {o : List Byte} (h : 1 < fieldAt 1 o 0 ∨ 2 < fieldAt 1 o 20) : readSponsor o = none := by
  unfold readSponsor
  split
  next he hc =>
    obtain h | h := h
    · exact absurd he (by simp [yesNo_none h])
    · exact absurd hc (by simp [entryClass_none h])
  next => rfl

/-- The entry a SPONSOR deposit writes. -/
def SponsorDeposit.entry (d : SponsorDeposit) (fulfilled : Bool) : SponsorEntry :=
  { enabled := d.enabled, image := d.image.adjust, dwell := max 1 d.dwell, target := d.target, cls := d.cls
    fulfilled := fulfilled }

section
variable (i : Fin 128) {o : List Byte} (tag : BitVec 16) {s : State} {d : SponsorDeposit}

theorem depositSponsor_locked (hread : readSponsor o = some d) (hlock : s.pins.tableLock = true) :
    depositSponsor i o tag s = .refuse .locked := by
  unfold depositSponsor
  rw [hread]
  exact if_pos hlock

theorem depositSponsor_range (hread : readSponsor o = some d) (hlock : s.pins.tableLock = false)
    (h : 0x1000000000 ≤ d.image.base) : depositSponsor i o tag s = .refuse .range := by
  unfold depositSponsor
  rw [hread]
  dsimp only
  rw [if_neg (by simp [hlock]), if_pos (addressFits_not h)]

/-- The fulfilled flag after a deposit (R163, R164): re-evaluated for a target that differs. -/
def State.fulfilledBy (s : State) (e : Fin 128) (target : Nat) : Bool :=
  if target = (s.entry e).target then (s.entry e).fulfilled
  else decide (0 < target ∧ target ≤ (s.counters.exposed.get e).value.toNat)

/-- A flag that the deposit latches is reported with cause DEPOSIT. -/
theorem depositSponsor_accept (hread : readSponsor o = some d) (hlock : s.pins.tableLock = false)
    (h : d.image.base < 0x1000000000) :
    depositSponsor i o tag s =
      let fulfilled := s.fulfilledBy i d.target
      let written := s.setEntry i (d.entry fulfilled)
      .accept
        (if fulfilled = true ∧ (s.entry i).fulfilled = false then
          written.offer [s.report .sponsor tag .entryFulfilled i.val
            (bytesOf 4 (s.counters.exposed.get i).value ++ leBytes 4 d.target ++ [2, 0xFF])]
        else written) (decide (d.image.adjust ≠ d.image ∨ d.dwell = 0)) := by
  have hreached : (if d.target = (s.entry i).target then (s.entry i).fulfilled else s.reached i d.target) =
      s.fulfilledBy i d.target := by
    rw [State.fulfilledBy, State.reached, Bool.decide_and]
  unfold depositSponsor
  rw [hread]
  dsimp only
  rw [if_neg (by simp [hlock]), if_neg (addressFits_of h), hreached, bne_or_bne (p := d.dwell = 0) (by omega)]
  by_cases hlatched : s.fulfilledBy i d.target = true ∧ (s.entry i).fulfilled = false
  · rw [if_pos hlatched, if_pos (by simp [hlatched]), postFulfilled, entry_setEntry_self, post_eq_offer]
    simp only [List.append_assoc]
    rfl
  · rw [if_neg hlatched, if_neg (by simpa using hlatched)]
    rfl

end

/-- Settles O16: the refusals in order, then the entry written with the flag re-evaluated. -/
theorem sponsorDepositRules : Obligations.SponsorDepositRules := by
  refine fun h o i s hrun ho hp => ⟨fun hunknown => ?unknown, fun enabled cls he hc => ?_⟩
  case unknown =>
    exact exec_deposit_refused h hrun ho hp (by rw [depositAt, depositSponsor, readSponsor_none hunknown])
  have hread : readSponsor o = some
      { enabled := enabled, image := readImage o 1, dwell := fieldAt 2 o 14, target := fieldAt 4 o 16, cls := cls } := by
    rw [readSponsor, he, hc]
  refine ⟨fun hlock => ?locked, fun hlock hrange => ?range, fun hlock hfits => ?accept⟩
  case locked => exact exec_deposit_refused h hrun ho hp (depositSponsor_locked i h.tag hread hlock)
  case range =>
    exact exec_deposit_refused h hrun ho hp (depositSponsor_range i h.tag hread hlock hrange)
  case accept =>
    exact exec_deposit_accepted h hrun ho hp (depositSponsor_accept i h.tag hread hlock hfits)

/-! ## PANEL and PANEL_LIST -/

section
variable (p : Fin 8) {o : List Byte} {s : State} {d : PanelDeposit}

theorem depositPanel_range (hread : readPanel o = some d) (h : 0x1000000000 ≤ d.image.base) :
    depositPanel p o s = .refuse .range := by
  unfold depositPanel
  rw [hread]
  exact if_pos (addressFits_not h)

theorem depositPanel_accept (hread : readPanel o = some d) (h : d.image.base < 0x1000000000) :
    depositPanel p o s = .accept
      (s.setPanel p
        { s.panel p with
          defaultImage := d.image.adjust, overrun := d.overrun, listLength := min 32 d.listLength })
      (decide (d.image.adjust ≠ d.image ∨ 32 < d.listLength)) := by
  unfold depositPanel
  rw [hread]
  dsimp only
  rw [if_neg (addressFits_of h), bne_or_bne (p := 32 < d.listLength) (by omega)]

end

theorem panelDeposit (h : Header) {o : List Byte} (p : Fin 8) {s : State} (hrun : s.Running) (ho : o.length = 28)
    (hp : s.cmd.pointer = .panel p) {overrun : Bool} (hover : yesNo? (fieldAt 1 o 13) = some overrun) :
    (0x1000000000 ≤ fieldAt 5 o 0 → exec (.deposit h o) s = .next (depositRefused h s .range)) ∧
    (fieldAt 5 o 0 < 0x1000000000 →
      exec (.deposit h o) s = .next (deposited h s
        (s.setPanel p
          { s.panel p with
            defaultImage := (readImage o 0).adjust, overrun := overrun, listLength := min 32 (fieldAt 1 o 14) })
        (decide ((readImage o 0).adjust ≠ readImage o 0 ∨ 32 < fieldAt 1 o 14)))) := by
  have hread : readPanel o = some
      { image := readImage o 0, overrun := overrun, listLength := fieldAt 1 o 14 } := by
    rw [readPanel, hover]
  refine ⟨fun hrange => ?range, fun hfits => ?accept⟩
  case range =>
    have hat := depositPanel_range p (s := s) hread hrange
    exact exec_deposit_refused h hrun ho hp hat
  case accept =>
    have hat := depositPanel_accept p (s := s) hread hfits
    exact exec_deposit_accepted h hrun ho hp hat

/-- Settles O17: PANEL by its own conditions, PANEL_LIST by the entry number alone. -/
theorem panelDeposits : Obligations.PanelDeposits := by
  refine fun h o s hrun ho => ⟨fun p hp => ⟨fun hunknown => ?unknown, fun overrun hover => panelDeposit h p hrun ho hp hover⟩,
    fun i hp => ⟨fun hbig => ?range, fun e he => ?entry⟩⟩
  case unknown =>
    exact exec_deposit_refused h hrun ho hp (by rw [depositAt, depositPanel, readPanel, yesNo_none hunknown])
  case range =>
    exact exec_deposit_refused h hrun ho hp (by rw [depositAt, depositPanelList, index_none hbig])
  case entry =>
    exact exec_deposit_accepted h hrun ho hp (by rw [depositAt, depositPanelList, he, index_val])

/-! ## RECORD -/

theorem readRecord_none {o : List Byte} (h : 1 < fieldAt 1 o 13 ∨ 1 < fieldAt 1 o 25) : readRecord o = none := by
  unfold readRecord
  split
  next hs hm =>
    obtain h | h := h
    · exact absurd hs (by simp [edge_none h])
    · exact absurd hm (by simp [mirrorMode_none h])
  next => rfl

/-- The six ring and geometry fields agree exactly when nothing but base, sense and mirror mode may differ. -/
theorem sameRing_iff (e r : RecordSource) : e.sameRing r = true ↔
    e = { r with base := e.base, sense := e.sense, mirrorMode := e.mirrorMode } := by
  obtain ⟨eb, ep, el, ew, es, erb, esc, est, em⟩ := e
  simp only [RecordSource.sameRing, Bool.and_eq_true, beq_iff_eq, RecordSource.mk.injEq, true_and, and_true]
  exact ⟨fun ⟨⟨⟨⟨⟨hb, hc⟩, hs⟩, hp⟩, hl⟩, hw⟩ => ⟨hp, hl, hw, hb, hc, hs⟩,
    fun ⟨hp, hl, hw, hb, hc, hs⟩ => ⟨⟨⟨⟨⟨hb, hc⟩, hs⟩, hp⟩, hl⟩, hw⟩⟩

/-- A slot is held or has copies outstanding. -/
theorem anyPins_iff (c : Capture) : c.slots.list.any Slot.pins = true ↔
    ∃ k, (c.slots.get k).clipHolds ≠ 0 ∨ (c.slots.get k).playerHold = true ∨ (c.slots.get k).outstanding ≠ 0 := by
  simp [list_eq_map, Slot.pins, Slot.held, or_assoc]

section
variable {o : List Byte} {s : State} {d : RecordSource}

theorem depositRecord_range (hread : readRecord o = some d)
    (h : ¬ (d.base < 0x1000000000 ∧ d.ringBase < 0x1000000000)) : depositRecord o s = .refuse .range := by
  unfold depositRecord
  rw [hread]
  refine if_pos ?_
  rwa [Bool.not_eq_true', Bool.eq_false_iff, Ne, Bool.and_eq_true, addressFits_iff, addressFits_iff]

theorem fits_of (h : d.base < 0x1000000000 ∧ d.ringBase < 0x1000000000) :
    ¬ (!(addressFits d.base && addressFits d.ringBase)) = true := by
  simp [addressFits_iff.2 h.1, addressFits_iff.2 h.2]

theorem depositRecord_state (hread : readRecord o = some d) (h : d.base < 0x1000000000 ∧ d.ringBase < 0x1000000000)
    (hstate : s.capture.recorder ≠ .off ∨
      d.adjust.sameRing s.capture.source = false ∧ s.capture.slots.list.any Slot.pins = true) :
    depositRecord o s = .refuse .state := by
  unfold depositRecord
  rw [hread]
  dsimp only
  rw [if_neg (fits_of h)]
  by_cases hon : s.capture.recorder ≠ .off
  · rw [if_pos hon]
  · obtain ⟨hdiffers, hbusy⟩ := hstate.resolve_left hon
    rw [if_neg hon, if_pos (by rw [hdiffers, hbusy]; rfl)]

theorem depositRecord_accept (hread : readRecord o = some d) (h : d.base < 0x1000000000 ∧ d.ringBase < 0x1000000000)
    (hoff : s.capture.recorder = .off)
    (hfree : d.adjust.sameRing s.capture.source = true ∨ s.capture.slots.list.any Slot.pins = false) :
    depositRecord o s = .accept
      (s.withCapture { (if d.adjust.sameRing s.capture.source then s.capture else s.capture.emptied) with
        source := d.adjust }) (decide (d.adjust ≠ d)) := by
  unfold depositRecord
  rw [hread]
  dsimp only
  have hpins : ¬ (!d.adjust.sameRing s.capture.source && s.capture.slots.list.any Slot.pins) = true := by
    obtain hsame | hnone := hfree
    · simp [hsame]
    · simp [hnone]
  rw [if_neg (fits_of h), if_neg (not_not.2 hoff), if_neg hpins, bne_eq_decide Iff.rfl]

end

/-- Settles O18: the refusals in order; a source that keeps its ring leaves the slots, another empties them. -/
theorem recordDepositRules : Obligations.RecordDepositRules := by
  refine fun h o s hrun ho hp => ⟨fun hunknown => ?unknown, fun sense mode hs hm => ?_⟩
  case unknown =>
    exact exec_deposit_refused h hrun ho hp (by rw [depositAt, depositRecord, readRecord_none hunknown])
  let d : RecordSource :=
    { base := fieldAt 5 o 0, pitch := fieldAt 4 o 5, lines := fieldAt 2 o 9, width := fieldAt 2 o 11, sense := sense
      ringBase := fieldAt 5 o 14, slotCount := fieldAt 2 o 19, stride := fieldAt 4 o 21, mirrorMode := mode }
  have hread : readRecord o = some d := by rw [readRecord, hs, hm]
  have haccept := fun hfits hoff hfree => exec_deposit_accepted h hrun ho hp
    (depositRecord_accept (s := s) hread hfits hoff hfree)
  refine ⟨fun hrange => ?range, fun hfits hstate => ?state, fun hfits hoff hkeeps => ?keeps,
    fun hfits hoff hkeeps hbusy => ?empties⟩
  case range => exact exec_deposit_refused h hrun ho hp (depositRecord_range hread hrange)
  case state =>
    refine exec_deposit_refused h hrun ho hp (depositRecord_state hread hfits (hstate.imp_right fun ⟨hkeeps, hbusy⟩ =>
      ⟨Bool.eq_false_of_not_eq_true fun hsame => hkeeps ((sameRing_iff _ _).1 hsame), (anyPins_iff _).2 hbusy⟩))
  case keeps =>
    have hsame : d.adjust.sameRing s.capture.source = true := (sameRing_iff _ _).2 hkeeps
    rw [haccept hfits hoff (.inl hsame), if_pos hsame]
    rfl
  case empties =>
    have hdiffers : ¬ d.adjust.sameRing s.capture.source = true := fun hsame => hkeeps ((sameRing_iff _ _).1 hsame)
    have hnone := Bool.eq_false_of_not_eq_true (mt (anyPins_iff s.capture).1 hbusy)
    rw [haccept hfits hoff (.inr hnone), if_neg hdiffers]
    rfl

end Sys2Proof.Machine
end

section
/-! SUPPORT. Counters (R18, R37 to R41): one increment, and the commands SNAPSHOT, COUNTER_MODE and COUNTER_CLEAR. -/

namespace Sys2Proof.Machine

/-! ## One increment -/

theorem bump_value (saturate : Bool) (c : Counter) : (c.bump saturate).value.toNat =
    if c.value.toNat < 2 ^ 32 - 1 then c.value.toNat + 1 else if saturate = true then 2 ^ 32 - 1 else 0 := by
  have htop : c.value = BitVec.allOnes 32 ↔ ¬ c.value.toNat < 2 ^ 32 - 1 := by
    rw [← BitVec.toNat_inj, BitVec.toNat_allOnes]
    have := c.value.isLt
    omega
  unfold Counter.bump
  by_cases hlt : c.value.toNat < 2 ^ 32 - 1
  · rw [if_pos hlt]
    simp only [show ¬ c.value = BitVec.allOnes 32 from fun h => htop.1 h hlt, beq_iff_eq, Bool.and_eq_true, and_false,
      if_false, BitVec.toNat_add]
    exact Nat.mod_eq_of_lt (by simpa using Nat.add_lt_of_lt_sub hlt)
  · rw [if_neg hlt, htop.2 hlt]
    cases saturate <;> rfl

/-- The half-full flag is set by the step to 2^31, and only by it. -/
theorem bump_half (saturate : Bool) (c : Counter) :
    (c.bump saturate).half = true ↔ c.half = true ∨ c.value = 0x7FFFFFFF := by
  have hvalue := bump_value saturate c
  have hedge : c.value = 0x7FFFFFFF ↔ c.value.toNat = 0x7FFFFFFF := BitVec.toNat_inj.symm
  have hlt := c.value.isLt
  have hhalf : (c.bump saturate).half = (c.half || (!c.value.msb && (c.bump saturate).value.msb)) := rfl
  rw [hhalf, hedge, BitVec.msb_eq_decide, BitVec.msb_eq_decide, hvalue]
  simp only [Bool.or_eq_true, Bool.and_eq_true, Bool.not_eq_true', decide_eq_false_iff_not, decide_eq_true_eq]
  refine or_congr_right ?_
  split
  · omega
  · split <;> omega

theorem crosses_iff (saturate : Bool) (c : Counter) :
    c.crosses saturate = true ↔ c.half = false ∧ c.value = 0x7FFFFFFF := by
  rw [Counter.crosses, Bool.and_eq_true, Bool.not_eq_true', bump_half]
  refine and_congr_right fun h => ?_
  rw [h]
  exact or_iff_right Bool.false_ne_true

/-- Settles O20: the counter bumped, and COUNTER_HALF exactly where the flag is set. -/
theorem counterIncrements : Obligations.CounterIncrements := by
  refine fun id s => ⟨s.counters.set id ((s.counters.get id).bump s.cmd.saturate), ?value, ?half, ?named,
    fun z k => ⟨_, rfl, rfl⟩, fun j hj => Counters.get_set_ne _ _ hj.symm, fun hcross => ?quiet, fun hcross => ?posts⟩
  case value => rw [Counters.get_set_self, bump_value]
  case half => rw [Counters.get_set_self, bump_half]
  case named => cases id <;> rfl
  case quiet =>
    rw [← crosses_iff s.cmd.saturate] at hcross
    exact if_neg hcross
  case posts =>
    rw [← crosses_iff s.cmd.saturate] at hcross
    exact if_pos hcross

/-! ## The counters a SNAPSHOT names -/

theorem counterId_group_index (id : CounterId) : counterId? id.group id.index = some id := by
  cases id <;> simp [counterId?, CounterId.group, CounterId.index]

theorem filterMap_getElem? {α : Type} (l : List α) : (List.range l.length).filterMap (l[·]?) = l := by
  induction l with
  | nil => rfl
  | cons a l ih =>
    rw [List.length_cons, List.range_succ_eq_map,
      List.filterMap_cons_some (f := ((a :: l)[·]?)) (List.getElem?_cons_zero (a := a)), List.filterMap_map]
    exact congrArg (List.cons a) ih

/-- The named counters are those of the group, one after another. -/
theorem snapshotIds_eq {ids : List CounterId} {group first n : Nat} (hlen : ids.length = n)
    (hids : ∀ k (hk : k < ids.length), ids[k].group = group ∧ ids[k].index = first + k) :
    snapshotIds group first n = ids := by
  subst hlen
  refine Eq.trans (List.filterMap_congr fun k hk => ?_) (filterMap_getElem? ids)
  have hk := List.mem_range.1 hk
  obtain ⟨hgroup, hindex⟩ := hids k hk
  rw [← hgroup, ← hindex, counterId_group_index, List.getElem?_eq_getElem hk]

theorem foldl_zero_get (ids : List CounterId) (c : Counters) (id : CounterId) :
    (ids.foldl (fun c id => c.set id Counter.zero) c).get id = if id ∈ ids then Counter.zero else c.get id := by
  induction ids generalizing c with
  | nil => rfl
  | cons j ids ih =>
    rw [List.foldl_cons, ih]
    by_cases hj : j = id
    · subst hj
      simp [Counters.get_set_self]
    · rw [Counters.get_set_ne _ _ hj]
      simp [Ne.symm hj]

/-! ## COUNTERS reports -/

/-- The payload of four places, each a counter or none. -/
def fourPlaces (place : Nat → Option Counter) : List Byte :=
  ((List.range 4).flatMap fun k => match place k with
    | some c => bytesOf 4 c.value
    | none => [0, 0, 0, 0]) ++
  ((List.range 4).map fun k => match place k with
    | some c => if c.half then (1 : Byte) else 0
    | none => 0xFF)

theorem leBytes_yesNo (b : Bool) : leBytes 1 (yesNo b) = [if b then 1 else 0] := by
  cases b <;> rfl

/-- The payload of a run of at most four counters. -/
theorem counterPayload_eq {run : List Counter} (h : run.length ≤ 4) : counterPayload run = fourPlaces (run[·]?) := by
  unfold counterPayload
  simp only [leBytes_yesNo]
  match run, h with
  | [], _ | [_], _ | [_, _], _ | [_, _, _], _ | [_, _, _, _], _ => rfl

/-- One COUNTERS report of the run at place `j`. -/
theorem countersReport_eq (h : Header) (s : State) (group first : Nat) {captured run : List Counter} {j : Nat}
    (hrun : run.length ≤ 4) (hplace : ∀ k, k < 4 → captured[j + k]? = run[k]?) {more : Bool}
    (hmore : more = decide (j + 4 < captured.length)) :
    { kind := .counters, code := group, lastOfTable := false, more := more, unit := .commandUnit, tag := h.tag
      subject := first + j, uptime := s.timing.uptime, payload := counterPayload run } =
      countersReport h s group first captured.length j captured := by
  have hpayload : fourPlaces (run[·]?) = fourPlaces fun k => captured[j + k]? := by
    simp only [fourPlaces, show List.range 4 = [0, 1, 2, 3] from rfl, List.flatMap_cons, List.map_cons,
      hplace 0 (by omega), hplace 1 (by omega), hplace 2 (by omega), hplace 3 (by omega)]
    rfl
  rw [counterPayload_eq hrun, hpayload, hmore]
  rfl

theorem counterReports_short (h : Header) (group : Nat) (uptime : Count) (first : Nat) {run : List Counter}
    (hrun : run.length ≤ 4) : counterReports h group uptime first run =
      [{ kind := .counters, code := group, lastOfTable := false, more := false, unit := .commandUnit, tag := h.tag
         subject := first, uptime := uptime, payload := counterPayload run }] := by
  unfold counterReports
  split
  · exact absurd hrun (by simp)
  · rfl

/-- The reports of captured counters, four to a report. -/
theorem counterReports_eq (h : Header) (s : State) (group first : Nat) (captured run : List Counter) (j : Nat)
    (hrun : captured.drop j = run) (hne : run ≠ []) :
    counterReports h group s.timing.uptime (first + j) run =
      (List.range ((run.length + 3) / 4)).map fun q =>
        countersReport h s group first captured.length (j + 4 * q) captured := by
  have hplace : ∀ k, captured[j + k]? = run[k]? := fun k => by rw [← hrun, List.getElem?_drop]
  have hlen : captured.length = j + run.length := by
    have hdrop := congrArg List.length hrun
    have hpos := List.length_pos_iff.2 hne
    rw [List.length_drop] at hdrop
    omega
  match run with
  | a :: b :: c :: d :: e :: rest =>
    have htail : captured.drop (j + 4) = e :: rest := by rw [← List.drop_drop, hrun]; rfl
    have ih := counterReports_eq h s group first captured (e :: rest) (j + 4) htail (List.cons_ne_nil _ _)
    have hcount : ((a :: b :: c :: d :: e :: rest).length + 3) / 4 = ((e :: rest).length + 3) / 4 + 1 := by
      simp only [List.length_cons]
      omega
    rw [counterReports, hcount, List.range_succ_eq_map, List.map_cons, List.map_map]
    refine congrArg₂ List.cons (countersReport_eq h s group first (run := [a, b, c, d]) (Nat.le_refl 4)
      (fun k hk => ?_) ?_) ?_
    · rw [hplace]
      match k, hk with
      | 0, _ | 1, _ | 2, _ | 3, _ => rfl
    · rw [eq_comm, decide_eq_true_eq, hlen]
      simp only [List.length_cons]
      omega
    · rw [Nat.add_assoc, ih]
      refine List.map_congr_left fun q _ => ?_
      rw [Function.comp, show j + 4 + 4 * q = j + 4 * q.succ by omega]
  | [_] | [_, _] | [_, _, _] | [_, _, _, _] =>
    rw [counterReports_short h group _ _ (by simp), countersReport_eq h s group first (by simp) (fun k _ => hplace k)
      (eq_comm.1 (decide_eq_false (by simp [hlen])))]
    simp
termination_by run.length

/-! ## The commands -/

theorem exec_snapshot (h : Header) (group : Byte) (first n : BitVec 16) {s : State} (hrun : s.Running) :
    exec (.snapshot h group first n) s = .next (takeSnapshot h group first n s) :=
  congrArg Host.Outcome.next (whileRunning_running _ hrun)

theorem exec_counterMode (h : Header) (overflow clear : Byte) {s : State} (hrun : s.Running) :
    exec (.counterMode h overflow clear) s = .next (takeCounterMode h overflow clear s) :=
  congrArg Host.Outcome.next (whileRunning_running _ hrun)

theorem exec_counterClear (h : Header) {s : State} (hrun : s.Running) :
    exec (.counterClear h) s = .next (takeCounterClear h s) :=
  congrArg Host.Outcome.next (whileRunning_running _ hrun)

theorem groupSize_none {n : Nat} (h : n = 0 ∨ 4 < n) : groupSize? n = none := by
  obtain rfl | h := h
  · rfl
  · match n, h with
    | n + 5, _ => rfl

theorem groupSize_some {n size : Nat} (h : [16, 128, 8, 4][n - 1]? = some size) (hpos : 1 ≤ n) :
    groupSize? n = some size := by
  match n, hpos with
  | 1, _ | 2, _ | 3, _ | 4, _ => exact h
  | n + 5, _ => exact absurd h (by simp)

/-- An accepted SNAPSHOT leaves counters that are zero where it clears, and its reports. -/
theorem snapshot_eq (h : Header) {group first n : Nat} {ids : List CounterId} (s : State)
    (hids : snapshotIds group first n = ids) (hlen : ids.length = n) (hn : 1 ≤ n) :
    ∃ c : Counters,
      (∀ id, c.get id = if s.cmd.clearOnSnapshot = true ∧ id ∈ ids then { value := 0, half := false }
        else s.counters.get id) ∧
      snapshot h group first n s = (s.withCounters c).offer
        ((List.range ((n + 3) / 4)).map fun q =>
          countersReport h s group first n (4 * q) (ids.map s.counters.get)) := by
  have hreports := counterReports_eq h s group first (ids.map s.counters.get) (ids.map s.counters.get) 0 rfl
    (by simpa using List.ne_nil_of_length_pos (hlen.symm ▸ hn))
  simp only [List.length_map, hlen, Nat.zero_add, Nat.add_zero] at hreports
  unfold snapshot
  rw [hids]
  dsimp only
  rw [hreports]
  by_cases hclear : s.cmd.clearOnSnapshot = true
  · refine ⟨ids.foldl (fun c id => c.set id Counter.zero) s.counters, fun id => ?_, ?_⟩
    · rw [foldl_zero_get]
      simp only [hclear, true_and]
      rfl
    · rw [if_pos hclear]
      rfl
  · refine ⟨s.counters, fun id => (if_neg fun hc => hclear hc.1).symm, ?_⟩
    rw [if_neg hclear]
    rfl

section
variable (h : Header) {group : Byte} {first n : BitVec 16} {s : State}

theorem takeSnapshot_unknown (hgroup : groupSize? group.toNat = none) :
    takeSnapshot h group first n s = s.refuse 0x06 .commandUnit h .unknown := by
  unfold takeSnapshot
  rw [hgroup]
  exact acknowledge_refuse 0x06 .commandUnit h s .unknown

variable {size : Nat} (hgroup : groupSize? group.toNat = some size)
include hgroup

theorem takeSnapshot_locked (hlocks : s.cmd.clearOnSnapshot = true ∧ s.pins.tableLock = true) :
    takeSnapshot h group first n s = s.refuse 0x06 .commandUnit h .locked := by
  unfold takeSnapshot
  rw [hgroup]
  dsimp only
  rw [if_pos (by simp [hlocks]), acknowledge_refuse]

theorem takeSnapshot_range (hlocks : ¬ (s.cmd.clearOnSnapshot = true ∧ s.pins.tableLock = true))
    (hrange : n.toNat = 0 ∨ 16 < n.toNat ∨ size < first.toNat + n.toNat) :
    takeSnapshot h group first n s = s.refuse 0x06 .commandUnit h .range := by
  unfold takeSnapshot
  rw [hgroup]
  dsimp only
  rw [if_neg (by simpa using hlocks), if_pos hrange, acknowledge_refuse]

theorem takeSnapshot_accepted (hlocks : ¬ (s.cmd.clearOnSnapshot = true ∧ s.pins.tableLock = true))
    (hrange : ¬ (n.toNat = 0 ∨ 16 < n.toNat ∨ size < first.toNat + n.toNat)) :
    takeSnapshot h group first n s = snapshot h group.toNat first.toNat n.toNat s := by
  unfold takeSnapshot
  rw [hgroup]
  dsimp only
  rw [if_neg (by simpa using hlocks), if_neg hrange, acknowledge_data]

end

theorem yesNo_byte {b : Byte} (h : b.toNat ≤ 1) : yesNo? b.toNat = some (decide (b = 1)) := by
  obtain hb | hb : b.toNat = 0 ∨ b.toNat = 1 := by omega
  · obtain rfl : b = 0 := BitVec.eq_of_toNat_eq hb
    rfl
  · obtain rfl : b = 1 := BitVec.eq_of_toNat_eq hb
    rfl

theorem takeCounterMode_unknown (h : Header) {overflow clear : Byte} (s : State)
    (hbad : 1 < overflow.toNat ∨ 1 < clear.toNat) :
    takeCounterMode h overflow clear s = s.refuse 0x07 .commandUnit h .unknown := by
  unfold takeCounterMode
  split
  next hover hclear =>
    obtain hbad | hbad := hbad
    · exact absurd hover (by simp [yesNo_none hbad])
    · exact absurd hclear (by simp [yesNo_none hbad])
  next => exact acknowledge_refuse 0x07 .commandUnit h s .unknown

theorem takeCounterMode_eq (h : Header) {overflow clear : Byte} (s : State) (hover : overflow.toNat ≤ 1)
    (hclear : clear.toNat ≤ 1) : takeCounterMode h overflow clear s =
      if s.pins.tableLock then s.refuse 0x07 .commandUnit h .locked
      else (s.withCmd { s.cmd with
        saturate := decide (overflow = 1), clearOnSnapshot := decide (clear = 1) }).done 0x07 .commandUnit h
          false [] := by
  unfold takeCounterMode
  rw [yesNo_byte hover, yesNo_byte hclear]
  dsimp only
  split
  · rw [acknowledge_refuse]
  · rw [acknowledge_ok]

theorem counters_initial_get (id : CounterId) : Counters.initial.get id = { value := 0, half := false } := by
  cases id <;> exact Tab.get_fill _ _

/-- Settles O19, command by command: the refusals in order, then the effect. -/
theorem counterCommands : Obligations.CounterCommands := by
  intro h group overflow clear first n s hrun
  dsimp only
  rw [exec_snapshot h group first n hrun, exec_counterMode h overflow clear hrun, exec_counterClear h hrun]
  refine ⟨fun hgroup => ?unknown, fun size hsize hpos => ?_, fun hbad => ?modeUnknown, fun hover hclear hlock => ?modeLocked,
    fun hover hclear hlock => ?mode, fun hlock => ?clearLocked, fun hlock => ?clear⟩
  case unknown => exact congrArg _ (takeSnapshot_unknown h (groupSize_none hgroup))
  case modeUnknown => exact congrArg _ (takeCounterMode_unknown h s hbad)
  case modeLocked => rw [takeCounterMode_eq h s hover hclear, if_pos hlock]
  case mode => rw [takeCounterMode_eq h s hover hclear, if_neg (by simp [hlock])]
  case clearLocked => rw [takeCounterClear, if_pos hlock, acknowledge_refuse]
  case clear =>
    refine ⟨Counters.initial, s.sponsor.entries.map fun e => { e with fulfilled := false }, counters_initial_get,
      fun e => Tab.get_map _ _ _, ?_⟩
    rw [takeCounterClear, if_neg (by simp [hlock]), acknowledge_ok]
    rfl
  have hgroup := groupSize_some hsize hpos
  refine ⟨fun hlocks => ?locked, fun hlocks hrange => ?range, fun ids hlocks hlow hhigh hlen hfits hids => ?accepted⟩
  case locked => exact congrArg _ (takeSnapshot_locked h hgroup hlocks)
  case range =>
    exact congrArg _ (takeSnapshot_range h hgroup hlocks (hrange.imp_left fun hn => by rw [hn]; rfl))
  case accepted =>
    rw [takeSnapshot_accepted h hgroup hlocks (by omega)]
    obtain ⟨c, hc, hsnapshot⟩ := snapshot_eq h s (snapshotIds_eq hlen hids) hlen hlow
    exact ⟨c, hc, congrArg _ hsnapshot⟩

end Sys2Proof.Machine
end

section
/-! SUPPORT. RESET_N (R19, R21, R69): asserted, every row while it is asserted, and released. -/

namespace Sys2Proof.Machine

/-- While RESET_N is asserted a host command changes nothing. -/
theorem exec_hostCommand_asserted {c : Instr} {s : State} (hreset : s.pins.resetAsserted = true)
    (hc : IsHostCommand c) (hwf : c.wellFormed = true) : exec c s = .next s := by
  rw [exec_wellFormed hc hwf, whileRunning_asserted _ hreset]

/-- An event that RESET_N keeps from acting moves the level of its line and no more. -/
theorem whileRunning_pins {effect : State → State} {s : State} {p : Pins} (hp : p.resetAsserted = true) :
    whileRunning effect (s.withPins p) = s.withPins p := whileRunning_asserted _ hp

/-- An edge of a console line while RESET_N is asserted. -/
theorem consoleEdge_asserted {s : State} (hreset : s.pins.resetAsserted = true) (line : ConsoleLine) (edge : Edge) :
    consoleEdge line edge s = s.withPins (linesAfter s.pins (.lineStop line edge)) := by
  cases line <;> cases edge <;> exact whileRunning_pins hreset

/-- While RESET_N is asserted an event or a bus operation moves at most the level of its line. -/
theorem exec_asserted {c : Instr} {s : State} (hreset : s.pins.resetAsserted = true) (hwf : c.wellFormed = true)
    (hassert : c ≠ .resetAssert) (hrelease : ∀ sel, c ≠ .resetRelease sel) :
    exec c s = .next (s.withPins (linesAfter s.pins c)) := by
  have hnothing : ∀ effect, (.next (whileRunning effect s) : Host.Outcome State Fault Refusal) =
      .next (s.withPins s.pins) := fun effect => congrArg _ (whileRunning_asserted effect hreset)
  cases c with
  | resetAssert => exact absurd rfl hassert
  | resetRelease sel => exact absurd rfl (hrelease sel)
  | requestWithhold b => exact (if_pos hwf).trans (hnothing _)
  | burstAccept b => exact (if_pos hwf).trans (hnothing _)
  | mpResponse pixels => exact (if_pos hwf).trans (hnothing _)
  | deposit h o => exact exec_hostCommand_asserted hreset rfl hwf
  | msgText h id offset n codes => exact exec_hostCommand_asserted hreset rfl hwf
  | alertInChange level => exact congrArg _ (if_pos hreset)
  | tableLockChange level => rfl
  | zonePulse z edge => cases edge <;> exact congrArg Host.Outcome.next (whileRunning_pins (by exact hreset))
  | recordFramePulse edge => cases edge <;> exact congrArg Host.Outcome.next (whileRunning_pins (by exact hreset))
  | pcReset edge => cases edge <;> exact congrArg Host.Outcome.next (whileRunning_pins (by exact hreset))
  | lineStart edge => exact congrArg _ (consoleEdge_asserted hreset .gcStart edge)
  | lineStop line edge => exact congrArg _ (consoleEdge_asserted hreset line edge)
  | _ => exact hnothing _

/-- ALERT_CHANGE as it is generated. -/
theorem postAlertChange_eq (tag : BitVec 16) (s : State) : postAlertChange tag s = s.offer
    [s.report .compositor tag .alertChange 0
      [if s.alertInForce then 1 else 0, if s.pins.alertIn then 1 else 0, if s.comp.alertOn then 1 else 0]] := by
  rw [postAlertChange, post_eq_offer, leBytes_yesNo, leBytes_yesNo, leBytes_yesNo]
  rfl

theorem postAlertChange_on (tag : BitVec 16) {s : State} (halert : s.alertInForce = true) :
    postAlertChange tag s = s.offer [s.report .compositor tag .alertChange 0
      [1, if s.pins.alertIn then 1 else 0, if s.comp.alertOn then 1 else 0]] := by
  rw [postAlertChange_eq, if_pos halert]

theorem exec_resetRelease (caSel : BitVec 4) {s : State} (hreset : s.pins.resetAsserted = true) :
    exec (.resetRelease caSel) s = .next (resetReleased caSel s) := congrArg _ (if_pos hreset)

/-- Settles O22: asserted every block is in its reset state, and its effects wait for the release. -/
theorem resetLine : Obligations.ResetLine := by
  refine fun caSel c s => ⟨rfl, fun t ht => ?lines, exec_hostCommand_asserted, exec_asserted, fun hreset hempty => ?idle,
    fun hreset => ⟨fun hnone => ?quiet, fun halert => ?alert⟩, fun hrun => congrArg _ (if_neg (Bool.not_eq_true _ ▸ hrun))⟩
  case lines =>
    obtain rfl := Host.Outcome.next.inj ht
    exact ⟨rfl, rfl, rfl, rfl⟩
  case idle =>
    have hstep : step s = .next (idle s) := by rw [step, hempty]
    rw [hstep, idle, whileRunning_asserted _ hreset]
  case quiet =>
    rw [exec_resetRelease caSel hreset, resetReleased]
    exact congrArg _ (if_neg (by simpa [State.alertInForce] using hnone))
  case alert =>
    rw [exec_resetRelease caSel hreset, resetReleased]
    exact congrArg _ ((if_pos halert).trans (postAlertChange_on 0 halert))

end Sys2Proof.Machine
end

section
/-! SUPPORT. The recorder (R129 to R135, R141, R143, R145): how a slot is closed and offered to a clip, how one is
opened, and the commands and pulses that do so. -/

namespace Sys2Proof

/-- The first of `0` to `n - 1` that meets a condition. -/
theorem find_finRange {n : Nat} {p : Fin n → Bool} {i : Fin n} :
    (List.finRange n).find? p = some i ↔ p i = true ∧ ∀ j, j < i → p j = false := by
  rw [List.find?_eq_some_iff_getElem]
  refine and_congr_right fun _ => ⟨?_, fun h => ⟨i.val, by simp, by simp, fun j hj => ?_⟩⟩
  · rintro ⟨k, hk, rfl, hbefore⟩ j hj
    have := hbefore j.val (by simpa [Fin.lt_def] using hj)
    simpa using this
  · simpa using h ⟨j, by omega⟩ hj

theorem find_finRange_none {n : Nat} {p : Fin n → Bool} :
    (List.finRange n).find? p = none ↔ ∀ j, p j = false := by
  simp

namespace Machine

/-! ## Slots -/

@[simp] theorem slots_modifySlot_self (c : Capture) (k : Fin 1024) (f : Slot → Slot) :
    (c.modifySlot k f).slots.get k = f (c.slots.get k) := Tab.get_modify_self _ _ _

theorem slots_modifySlot_ne (c : Capture) {k j : Fin 1024} (f : Slot → Slot) (h : k ≠ j) :
    (c.modifySlot k f).slots.get j = c.slots.get j := Tab.get_modify_ne _ _ h

theorem slots_modifySlot (c : Capture) (k j : Fin 1024) (f : Slot → Slot) :
    (c.modifySlot k f).slots.get j = if k = j then f (c.slots.get j) else c.slots.get j := by
  split
  next h => rw [h, slots_modifySlot_self]
  next h => exact slots_modifySlot_ne c f h

/-- The capture replaced, and reports generated. -/
theorem offer_withCapture_offer (s : State) (c d : Capture) (l m : List Report) :
    (((s.withCapture c).offer l).withCapture d).offer m = (s.withCapture d).offer (l ++ m) := by
  rw [← offer_append, ← offer_withCapture]
  rfl

/-! ## A slot closed -/

/-- The verdict of a close: COMPLETE for every line written and none dropped, but never at SOFT_RESET (R135). -/
def Slot.completes (t : Slot) (lines : Nat) (cause : CloseCause) : Bool :=
  decide (cause ≠ .softReset ∧ t.lines.length = lines ∧ t.dropped = false)

theorem close_eq (t : Slot) (lines : Nat) (cause : CloseCause) :
    t.close lines cause = slotClosed t (t.completes lines cause) := by
  have hjudge : t.judge lines cause = if t.completes lines cause then .complete else .partialVerdict := by
    simp [Slot.judge, Slot.completes]
  unfold Slot.close slotClosed
  rw [hjudge]
  dsimp only
  cases t.completes lines cause <;> by_cases h : t.outstanding = 0 <;> simp [h, Verdict.settled]

/-- The close of slot `k`, and SLOT_PARTIAL for a verdict of PARTIAL. -/
theorem closeSlot_eq (tag : BitVec 16) (cause : CloseCause) (k : Fin 1024) (s : State) :
    closeSlot tag cause k s =
      (s.withCapture { s.capture with
        slots := s.capture.slots.set k
          (slotClosed (s.slot k) ((s.slot k).completes s.capture.source.lines cause)) }).offer
        (closeReports tag (BitVec.ofNat 8 cause.number) k ((s.slot k).completes s.capture.source.lines cause) s) := by
  unfold closeSlot closeReports
  dsimp only
  rw [close_eq]
  cases (s.slot k).completes s.capture.source.lines cause with
  | true => rfl
  | false =>
    rw [if_neg (by simp [slotClosed]), if_neg Bool.false_ne_true, postSlotPartial, post_eq_offer, leBytes_yesNo]
    simp only [List.append_assoc]
    rfl

/-! ## The clip that takes a close -/

theorem joinable_iff (c : Clip) : c.joinable = true ↔ c.state = .opened ∨ c.state = .closing := by
  simp [Clip.joinable]

theorem not_joinable_iff (c : Clip) : c.joinable = false ↔ c.state ≠ .opened ∧ c.state ≠ .closing := by
  rw [Bool.eq_false_iff, Ne, joinable_iff, not_or]

theorem joinableClip_some {c : Capture} {i : Fin 32} : c.joinableClip = some i ↔ TakesClose c i := by
  simp only [Capture.joinableClip, find_finRange, joinable_iff, not_joinable_iff, TakesClose]

theorem joinableClip_none {c : Capture} : c.joinableClip = none ↔ ∀ i, ¬ TakesClose c i := by
  rw [← Option.not_isSome_iff_eq_none, Option.isSome_iff_exists, not_exists]
  exact forall_congr' fun i => not_congr joinableClip_some

/-- Only one clip takes the close. -/
theorem takesClose_unique {c : Capture} {i j : Fin 32} (hi : TakesClose c i) (hj : TakesClose c j) : i = j :=
  Option.some.inj ((joinableClip_some.2 hi).symm.trans (joinableClip_some.2 hj))

theorem mayHold_iff (c : Capture) (k : Fin 1024) : c.mayHold k = true ↔
    (c.slots.get k).held = true ∨ c.heldCount + 1 ≤ c.source.slotCount - 1 := by
  simp [Capture.mayHold, Capture.holdLimit]

/-- A slot joins the clip. -/
theorem take_eq (c : Clip) (k : Fin 1024) (clock : Nat) (h : c.state = .opened ∨ c.state = .closing) :
    c.take k clock =
      { c with
        state := if c.state = .closing then .closed else .opened
        length := c.length + 1
        first := if c.first = none then some k else c.first
        clock := if c.first = none then clock else c.clock } := by
  unfold Clip.take
  cases hfirst : c.first with
  | none => obtain h | h := h <;> simp [h]
  | some f => obtain h | h := h <;> simp [h]

/-- The closed slot is offered to the clip that takes it. -/
theorem joinClip_eq (tag : BitVec 16) (k : Fin 1024) {s t : State} (ht : t.timing = s.timing) :
    ∃ d clipped, ClipOffered tag k s t.capture d clipped ∧ joinClip tag k t = (t.withCapture d).offer clipped := by
  unfold joinClip
  cases hclip : t.capture.joinableClip with
  | none => exact ⟨t.capture, [], ⟨fun _ => ⟨rfl, rfl⟩, fun i hi => absurd hi (joinableClip_none.1 hclip i)⟩, rfl⟩
  | some i =>
    have hi := joinableClip_some.1 hclip
    dsimp only
    by_cases hmay : t.capture.mayHold k = true
    · rw [if_pos hmay]
      refine ⟨_, [], ⟨fun hnone => absurd hi (hnone i), fun j hj => ?_⟩, rfl⟩
      obtain rfl := takesClose_unique hi hj
      refine ⟨fun _ => ⟨rfl, ?_⟩, fun hno => absurd ((mayHold_iff _ _).1 hmay) hno⟩
      rw [take_eq _ _ _ hi.1]
      rfl
    · rw [if_neg hmay, postClipLimit, post_eq_offer]
      refine ⟨_, _, ⟨fun hnone => absurd hi (hnone i), fun j hj => ?_⟩, rfl⟩
      obtain rfl := takesClose_unique hi hj
      refine ⟨fun hlawful => absurd ((mayHold_iff _ _).2 hlawful) hmay, fun _ => ⟨rfl, ?_⟩⟩
      simp [State.report, ht, Capture.heldCount]

/-- An OPEN or CLOSING clip is CLOSED. -/
theorem closeClip_eq (s : State) : ∃ d, ClipEnded s.capture d ∧ closeClip s = s.withCapture d := by
  unfold closeClip
  cases hclip : s.capture.joinableClip with
  | none => exact ⟨s.capture, ⟨fun _ => rfl, fun i hi => absurd hi (joinableClip_none.1 hclip i)⟩, rfl⟩
  | some i =>
    have hi := joinableClip_some.1 hclip
    refine ⟨_, ⟨fun hnone => absurd hi (hnone i), fun j hj => ?_⟩, rfl⟩
    obtain rfl := takesClose_unique hi hj
    rfl

theorem writing_some {c : Capture} {k : Fin 1024} : c.writing = some k ↔ c.recorder = .recording ∧ c.newest = some k := by
  unfold Capture.writing
  split
  next h => simp [h]
  next h => simp [h]

/-- What the close of the writing slot comes to: the slot closed, and offered to a clip. -/
def Closes (tag : BitVec 16) (cause : CloseCause) (k : Fin 1024) (s : State) (joined : Capture)
    (clipped : List Report) : Prop :=
  ClipOffered tag k s
    { s.capture with
      slots := s.capture.slots.set k
        (slotClosed (s.slot k) ((s.slot k).completes s.capture.source.lines cause)) } joined clipped

theorem closeAndJoin_eq (tag : BitVec 16) (cause : CloseCause) {s : State} {k : Fin 1024}
    (hk : s.capture.writing = some k) : ∃ joined clipped, Closes tag cause k s joined clipped ∧
      closeAndJoin tag cause s = (s.withCapture joined).offer
        (closeReports tag (BitVec.ofNat 8 cause.number) k ((s.slot k).completes s.capture.source.lines cause) s ++
          clipped) := by
  obtain ⟨joined, clipped, hoffered, hjoin⟩ := joinClip_eq tag k (s := s) (t := closeSlot tag cause k s)
    (by rw [closeSlot_eq, offer_timing, State.withCapture_timing])
  refine ⟨joined, clipped, ?_, ?_⟩
  · rwa [closeSlot_eq, offer_capture, State.withCapture_capture] at hoffered
  · unfold closeAndJoin
    rw [hk]
    dsimp only
    rw [hjoin, closeSlot_eq, offer_withCapture_offer]

theorem closeAndJoin_none (tag : BitVec 16) (cause : CloseCause) {s : State} (h : s.capture.writing = none) :
    closeAndJoin tag cause s = s := by
  rw [closeAndJoin, h]

/-! ## The recorder stopped -/

theorem stopRecorder_idle (tag : BitVec 16) (cause : CloseCause) {s : State} (h : s.capture.recorder ≠ .recording) :
    stopRecorder tag cause s = s.withCapture { s.capture with recorder := .off } := by
  have hw : s.capture.writing = none := if_neg h
  unfold stopRecorder
  dsimp only
  rw [closeAndJoin_none tag cause hw, if_neg h]

theorem stopRecorder_recording (tag : BitVec 16) (cause : CloseCause) {s : State} {k : Fin 1024}
    (h : s.capture.recorder = .recording) (hk : s.capture.newest = some k) :
    ∃ joined ended clipped, Closes tag cause k s joined clipped ∧ ClipEnded joined ended ∧
      stopRecorder tag cause s = (s.withCapture { ended with recorder := .off }).offer
        (closeReports tag (BitVec.ofNat 8 cause.number) k ((s.slot k).completes s.capture.source.lines cause) s ++
          clipped) := by
  obtain ⟨joined, clipped, hcloses, hclose⟩ := closeAndJoin_eq tag cause (writing_some.2 ⟨h, hk⟩)
  obtain ⟨ended, hended, hclip⟩ := closeClip_eq (closeAndJoin tag cause s)
  rw [hclose, offer_capture, State.withCapture_capture] at hended
  refine ⟨joined, ended, clipped, hcloses, hended, ?_⟩
  unfold stopRecorder
  dsimp only
  rw [if_pos h, hclip, hclose, State.withCapture_capture, ← offer_withCapture, ← offer_withCapture]
  rfl

theorem stopRecorder_unlinked (tag : BitVec 16) (cause : CloseCause) {s : State}
    (h : s.capture.recorder = .recording) (hk : s.capture.newest = none) :
    ∃ ended, ClipEnded s.capture ended ∧
      stopRecorder tag cause s = s.withCapture { ended with recorder := .off } := by
  obtain ⟨ended, hended, hclip⟩ := closeClip_eq s
  refine ⟨ended, hended, ?_⟩
  have hw : s.capture.writing = none := (if_pos h).trans hk
  unfold stopRecorder
  dsimp only
  rw [closeAndJoin_none tag cause hw, if_pos h, hclip]
  rfl

/-! ## A slot opened -/

/-- The chain without slot `k`. -/
theorem unlink_get (c : Capture) (k m : Fin 1024) : (c.unlink k).slots.get m =
    { c.slots.get m with
      next := if (c.slots.get k).state ≠ .empty ∧ (c.slots.get k).previous = some m then (c.slots.get k).next
        else (c.slots.get m).next
      previous := if (c.slots.get k).state ≠ .empty ∧ (c.slots.get k).next = some m then (c.slots.get k).previous
        else (c.slots.get m).previous } := by
  unfold Capture.unlink
  by_cases hempty : (c.slots.get k).state = .empty
  · simp [hempty]
  · simp only [hempty, if_false]
    cases hp : (c.slots.get k).previous <;> cases hn : (c.slots.get k).next <;>
      simp only [slots_modifySlot, Option.some.injEq, reduceCtorEq] <;> (repeat' split) <;> simp_all

/-- What unlinking leaves of the ends of the chain and of the rest. -/
theorem unlink_ends (c : Capture) (k : Fin 1024) : c.unlink k = { c with
    slots := (c.unlink k).slots
    newest := if (c.slots.get k).state ≠ .empty ∧ (c.slots.get k).next = none then (c.slots.get k).previous
      else c.newest
    oldest := if (c.slots.get k).state ≠ .empty ∧ (c.slots.get k).previous = none then (c.slots.get k).next
      else c.oldest } := by
  unfold Capture.unlink
  by_cases hempty : (c.slots.get k).state = .empty
  · simp [hempty]
  · simp only [hempty, if_false]
    cases hp : (c.slots.get k).previous <;> cases hn : (c.slots.get k).next <;> simp [Capture.modifySlot, hempty]

theorem append_get_self (c : Capture) (k : Fin 1024) (clock : Nat) : (c.append k clock).slots.get k =
    { c.slots.get k with
      state := .writing, captureNumber := c.captureNumber + 1, previous := c.newest, next := none
      clock := clock, verdict := .none, lines := [], dropped := false } := by
  unfold Capture.append
  cases c.newest with
  | none => simp
  | some m =>
    simp only [slots_modifySlot_self, slots_modifySlot]
    split <;> rfl

theorem append_get_ne (c : Capture) {k m : Fin 1024} (clock : Nat) (h : m ≠ k) : (c.append k clock).slots.get m =
    { c.slots.get m with next := if c.newest = some m then some k else (c.slots.get m).next } := by
  unfold Capture.append
  cases c.newest with
  | none => simp [slots_modifySlot_ne _ _ h.symm]
  | some p =>
    simp only [slots_modifySlot_ne _ _ h.symm, slots_modifySlot, Option.some.injEq]
    split <;> rfl

/-- What appending makes of the ends of the chain and of the rest. -/
theorem append_ends (c : Capture) (k : Fin 1024) (clock : Nat) : c.append k clock = { c with
    slots := (c.append k clock).slots, captureNumber := c.captureNumber + 1, lastOpened := some k
    newest := some k, oldest := if c.newest = none then some k else c.oldest } := by
  unfold Capture.append
  cases c.newest <;> rfl

theorem slotOpened (c : Capture) (k : Fin 1024) (clock : Nat) :
    SlotOpened k clock c ((c.unlink k).append k clock) := by
  have hrest := unlink_ends c k
  refine ⟨?_, ?_, fun m hm => ?_⟩
  · rw [append_ends, hrest]
  · rw [append_get_self, unlink_get, hrest]
  · rw [append_get_ne _ _ hm, unlink_get, hrest]

theorem openSlot_some {s : State} {k : Fin 1024} (h : s.capture.candidate = some k) :
    openSlot s = s.withCapture ((s.capture.unlink k).append k s.timing.value) := by
  rw [openSlot, h]

theorem openSlot_none {s : State} (h : s.capture.candidate = none) : openSlot s = s := by
  rw [openSlot, h]

/-- The first unheld slot of the walk is opened. -/
theorem candidate_of_firstUnheld {c : Capture} {k : Fin 1024} (hcount : c.source.slotCount ≤ 1024)
    (h : FirstUnheld c k) : c.candidate = some k := by
  obtain ⟨j, hj, hk, hfree, hbefore⟩ := h
  have hwalk : ∀ i, i < c.source.slotCount → ∀ start : Nat,
      (start + i) % c.source.slotCount % 1024 = (start + i) % c.source.slotCount := fun i hi start =>
    Nat.mod_eq_of_lt ((Nat.mod_lt _ (by omega)).trans_le hcount)
  unfold Capture.candidate Capture.walkOrder
  rw [List.find?_eq_some_iff_getElem]
  refine ⟨by rw [hfree]; rfl, j, by simpa using hj, ?_, fun i hi => ?_⟩
  · apply Fin.ext
    rw [List.getElem_map, List.getElem_range, hk]
    exact hwalk j hj _
  · rw [List.getElem_map, List.getElem_range, Bool.not_not]
    exact hbefore i _ hi (hwalk i (hi.trans hj) _)

theorem candidate_none {c : Capture} (hcount : c.source.slotCount ≤ 1024)
    (h : ∀ m : Fin 1024, m.val < c.source.slotCount → (c.slots.get m).held = true) : c.candidate = none := by
  unfold Capture.candidate Capture.walkOrder
  rw [List.find?_eq_none]
  intro k hk
  obtain ⟨j, hj, rfl⟩ := List.mem_map.1 hk
  have hlt : j < c.source.slotCount := List.mem_range.1 hj
  rw [h _ (Nat.lt_of_le_of_lt (Nat.mod_le _ _) (Nat.mod_lt _ (by omega)))]
  exact Bool.false_ne_true

/-! ## Pulses and commands -/

theorem exec_recordFramePulse (edge : Edge) {s : State} (hrun : s.Running) :
    exec (.recordFramePulse edge) s =
      .next (recordEdge edge (s.withPins { s.pins with rfp := decide (edge = .rising) })) := by
  cases edge <;> exact congrArg Host.Outcome.next (whileRunning_running _ (by exact hrun))

theorem recordEdge_off {edge : Edge} {s : State} (h : edge ≠ s.capture.source.sense ∨ s.capture.recorder = .off) :
    recordEdge edge s = s := by
  unfold recordEdge
  split
  next hedge => rw [recordPulse, h.resolve_left (not_not.2 hedge)]
  next => rfl

theorem recordEdge_armed {edge : Edge} {s : State} (hedge : edge = s.capture.source.sense)
    (h : s.capture.recorder = .armed) :
    recordEdge edge s = openSlot (s.withCapture { s.capture with recorder := .recording }) := by
  rw [recordEdge, if_pos hedge, recordPulse, h]

theorem recordEdge_recording {edge : Edge} {s : State} (hedge : edge = s.capture.source.sense)
    (h : s.capture.recorder = .recording) : recordEdge edge s = openSlot (closeAndJoin 0 .pulse s) := by
  rw [recordEdge, if_pos hedge, recordPulse, h]

/-- A close changes neither the recorder nor the source, and of slot `k` no more than its hold once it is closed. -/
theorem clipOffered_keeps {tag : BitVec 16} {k : Fin 1024} {s : State} {c d : Capture} {reports : List Report}
    (h : ClipOffered tag k s c d reports) : d.recorder = c.recorder ∧ d.newest = c.newest ∧ d.source = c.source ∧
      (d.slots.get k).verdict = (c.slots.get k).verdict ∧ (d.slots.get k).state = (c.slots.get k).state := by
  obtain ⟨hnone, hsome⟩ := h
  by_cases hany : ∃ i, TakesClose c i
  · obtain ⟨i, hi⟩ := hany
    by_cases hlawful : (c.slots.get k).held = true ∨ c.heldCount + 1 ≤ c.source.slotCount - 1
    · obtain ⟨-, rfl⟩ := (hsome i hi).1 hlawful
      simp
    · obtain ⟨rfl, -⟩ := (hsome i hi).2 hlawful
      simp
  · obtain ⟨rfl, -⟩ := hnone fun i hi => hany ⟨i, hi⟩
    simp

theorem armable_iff (r : RecordSource) : r.armable = true ↔
    r.slotCount ≠ 0 ∧ r.lines ≠ 0 ∧ r.width ≠ 0 ∧ r.base + r.lines * r.pitch ≤ 0x1000000000 ∧
      r.lines * r.pitch ≤ r.stride ∧ r.ringBase + r.slotCount * r.stride ≤ 0x1000000000 := by
  simp only [RecordSource.armable, Bool.and_eq_true, bne_iff_ne, decide_eq_true_eq, and_assoc]
  exact Iff.rfl

theorem exec_recordArm (h : Header) {s : State} (hrun : s.Running) :
    exec (.recordArm h) s = .next (takeRecordArm h s) := congrArg Host.Outcome.next (whileRunning_running _ hrun)

theorem exec_recordStop (h : Header) {s : State} (hrun : s.Running) :
    exec (.recordStop h) s = .next (takeRecordStop h s) := congrArg Host.Outcome.next (whileRunning_running _ hrun)

/-- A pulse and STOP close a slot COMPLETE when every line is written and none was dropped. -/
theorem completes_eq (t : Slot) (lines : Nat) {cause : CloseCause} (h : cause ≠ .softReset) :
    t.completes lines cause = decide (t.lines.length = lines ∧ t.dropped = false) :=
  decide_eq_decide.2 (and_iff_right h)

section
variable {edge : Edge} {s : State} {k : Fin 1024} (hedge : edge = s.capture.source.sense)
  (hrec : s.capture.recorder = .recording) (hk : s.capture.newest = some k)
include hedge hrec hk

/-- A pulse while RECORDING closes the writing slot and opens the next. -/
theorem recordEdge_turns : ∃ joined clipped, ClipOffered 0 k s
      { s.capture with
        slots := s.capture.slots.set k (slotClosed (s.slot k)
          (decide ((s.slot k).lines.length = s.capture.source.lines ∧ (s.slot k).dropped = false))) } joined clipped ∧
      recordEdge edge s = openSlot ((s.withCapture joined).offer
        (closeReports 0 0 k (decide ((s.slot k).lines.length = s.capture.source.lines ∧ (s.slot k).dropped = false)) s ++
          clipped)) := by
  obtain ⟨joined, clipped, hcloses, hclose⟩ := closeAndJoin_eq 0 .pulse (writing_some.2 ⟨hrec, hk⟩)
  rw [Closes, completes_eq _ _ (by decide)] at hcloses
  rw [completes_eq _ _ (by decide)] at hclose
  exact ⟨joined, clipped, hcloses, by rw [recordEdge_recording hedge hrec, hclose]; rfl⟩

end

/-- A slot opened behind reports. -/
theorem openSlot_offer {s : State} {c : Capture} {k : Fin 1024} (reports : List Report) (h : c.candidate = some k) :
    openSlot ((s.withCapture c).offer reports) =
      (s.withCapture ((c.unlink k).append k s.timing.value)).offer reports := by
  have hcapture : ((s.withCapture c).offer reports).capture = c := by rw [offer_capture, State.withCapture_capture]
  rw [openSlot_some (by rw [hcapture]; exact h), hcapture, offer_timing, State.withCapture_timing, ← offer_withCapture]
  rfl

theorem openSlot_offer_none {s : State} {c : Capture} (reports : List Report) (h : c.candidate = none) :
    openSlot ((s.withCapture c).offer reports) = (s.withCapture c).offer reports :=
  openSlot_none (by rw [offer_capture, State.withCapture_capture]; exact h)

theorem takeRecordArm_eq (h : Header) (s : State) : takeRecordArm h s =
    if s.capture.recorder ≠ .off then s.refuse 0x40 .capture h .state
    else if s.capture.source.armable then
      (s.withCapture { s.capture with recorder := .armed }).done 0x40 .capture h false []
    else s.refuse 0x40 .capture h .range := by
  unfold takeRecordArm
  split
  · rw [acknowledge_refuse]
  · split
    · rw [acknowledge_ok]
    · rw [acknowledge_refuse]

theorem takeRecordStop_on (h : Header) {s : State} (hon : s.capture.recorder ≠ .off) : takeRecordStop h s =
    (stopRecorder h.tag .stop s).done 0x41 .capture h false (optionalIndex 2 s.capture.writing) := by
  rw [takeRecordStop, if_neg hon, acknowledge_done]

/-- After a pulse that turned to another slot, the slot before keeps the verdict and the state of its close. -/
theorem turned_closed {edge : Edge} {s : State} {k : Fin 1024} (hedge : edge = s.capture.source.sense)
    (hrec : s.capture.recorder = .recording) (hk : s.capture.newest = some k) :
    let closed := slotClosed (s.slot k)
      (decide ((s.slot k).lines.length = s.capture.source.lines ∧ (s.slot k).dropped = false))
    let t := recordEdge edge s
    t.capture.recorder = .recording ∧ (t.capture.newest ≠ some k →
      (t.slot k).verdict = closed.verdict ∧ (t.slot k).state = closed.state) := by
  obtain ⟨joined, clipped, hoffered, hturn⟩ := recordEdge_turns hedge hrec hk
  obtain ⟨hrecorder, hnewest, -, hverdict, hstate⟩ := clipOffered_keeps hoffered
  simp only [Tab.get_set_self] at hverdict hstate
  rw [hturn]
  dsimp only
  cases hcand : joined.candidate with
  | none =>
    rw [openSlot_offer_none _ hcand]
    simp only [offer_capture, State.withCapture_capture]
    exact ⟨hrecorder.trans hrec, fun hne => absurd (hnewest.trans hk) hne⟩
  | some m =>
    obtain ⟨hshape, -, hothers⟩ := slotOpened joined m s.timing.value
    rw [openSlot_offer _ hcand]
    simp only [State.slot, offer_capture, State.withCapture_capture]
    refine ⟨?_, fun hne => ?_⟩
    · rw [hshape]
      exact hrecorder.trans hrec
    · have hkm : k ≠ m := by
        rintro rfl
        exact hne (by rw [hshape])
      rw [hothers k hkm]
      exact ⟨hverdict, hstate⟩

/-- Settles O43: a pulse by the recorder state, then the two commands. -/
theorem recorderCommands : Obligations.RecorderCommands := by
  intro h edge s hrun
  dsimp only
  rw [exec_recordFramePulse edge hrun, exec_recordArm h hrun, exec_recordStop h hrun, takeRecordArm_eq, ← armable_iff]
  refine ⟨fun hoff => ?idle, fun k hedge harmed hcount hfirst => ?opens, fun k hedge hrec hk hcount => ?turns,
    fun k hedge hrec hk => ⟨_, rfl, turned_closed (s := s.withPins _) hedge hrec hk⟩, fun hon => ?armState,
    fun hoff hno => ?armRange, fun hoff hready => ?armed, fun hoff => ?stopState, fun harmed => ?stopArmed,
    fun k hrec hk => ?stops⟩
  case idle => exact congrArg _ (recordEdge_off hoff)
  case opens =>
    have hopen := recordEdge_armed (s := s.withPins { s.pins with rfp := decide (edge = .rising) }) hedge harmed
    have hcand : ({ s.capture with recorder := .recording } : Capture).candidate = some k :=
      candidate_of_firstUnheld hcount hfirst
    refine ⟨_, slotOpened _ k s.timing.value, congrArg _ (hopen.trans ?_)⟩
    rw [openSlot_some (k := k) (by exact hcand)]
    rfl
  case turns =>
    obtain ⟨joined, clipped, hoffered, hturn⟩ := recordEdge_turns
      (s := s.withPins { s.pins with rfp := decide (edge = .rising) }) hedge hrec hk
    obtain ⟨-, -, hsource, -, -⟩ := clipOffered_keeps hoffered
    have hcount' : joined.source.slotCount ≤ 1024 := by rw [hsource]; exact hcount
    refine ⟨joined, clipped, hoffered, fun m hfirst => ⟨_, slotOpened joined m s.timing.value, congrArg _ ?_⟩,
      fun hheld => congrArg _ ?_⟩
    · rw [hturn, openSlot_offer _ (candidate_of_firstUnheld hcount' hfirst)]
      rfl
    · rw [hturn, openSlot_offer_none _ (candidate_none hcount' (by rw [hsource]; exact hheld))]
      rfl
  case armState => rw [if_pos hon]
  case armRange => rw [if_neg (not_not.2 hoff), if_neg hno]
  case armed => rw [if_neg (not_not.2 hoff), if_pos hready]
  case stopState => rw [takeRecordStop, if_pos hoff, acknowledge_refuse]
  case stopArmed =>
    rw [takeRecordStop_on h (by simp [harmed]), stopRecorder_idle _ _ (by simp [harmed]),
      show s.capture.writing = none from if_neg (by simp [harmed])]
    rfl
  case stops =>
    obtain ⟨joined, ended, clipped, hcloses, hended, hstop⟩ := stopRecorder_recording h.tag .stop hrec hk
    rw [Closes, completes_eq _ _ (by decide)] at hcloses
    rw [completes_eq _ _ (by decide)] at hstop
    refine ⟨joined, ended, clipped, hcloses, hended, ?_⟩
    rw [takeRecordStop_on h (by simp [hrec]), hstop, writing_some.2 ⟨hrec, hk⟩]
    rfl

end Machine
end Sys2Proof
end

section
/-! SUPPORT. SOFT_RESET (R42) block by block: the state it leaves, apart from the reports it generates on the way. -/

namespace Sys2Proof

/-- Places changed one after another, each once. -/
theorem foldl_modify_get {α : Type} {n : Nat} (f : Fin n → α → α) {l : List (Fin n)} (hl : l.Nodup) (t : Tab α n)
    (q : Fin n) : (l.foldl (fun u p => u.modify p (f p)) t).get q = if q ∈ l then f q (t.get q) else t.get q := by
  induction l generalizing t with
  | nil => rfl
  | cons p l ih =>
    obtain ⟨hp, hl⟩ := List.nodup_cons.1 hl
    rw [List.foldl_cons, ih hl]
    by_cases hqp : q = p
    · subst hqp
      simp [hp]
    · simp [hqp, Tab.get_modify_ne _ _ (Ne.symm hqp)]

namespace Machine

/-! ## Reports and the pointer -/

/-- The pointer has no part in the travel of reports. -/
theorem setPointer_offer (p : Pointer) (s : State) (rs : List Report) :
    setPointer p (s.offer rs) = (setPointer p s).offer rs := by
  obtain ⟨x, hx⟩ := offer_shape rs s
  obtain ⟨y, hy⟩ := offer_shape rs (setPointer p s)
  have hwire : ((setPointer p s).offer rs).wire = (s.offer rs).wire := offer_wire rs rfl
  rw [hx, hy] at hwire
  obtain rfl : y = x := congrArg Prod.fst hwire
  rw [hx, hy]
  rfl

/-! ## Compositor and renderer -/

theorem postAlertChange_off (tag : BitVec 16) {s : State} (h : s.alertInForce = false) :
    postAlertChange tag s = s.offer [s.report .compositor tag .alertChange 0 [0, 0, 0]] := by
  obtain ⟨hin, hon⟩ : s.pins.alertIn = false ∧ s.comp.alertOn = false := by simpa [State.alertInForce] using h
  rw [postAlertChange_eq, h, hin, hon]
  rfl

/-- ALERT_CHANGE is posted when clearing the flag ends the alert in force. -/
theorem softResetCompositor_eq (tag : BitVec 16) (s : State) :
    softResetCompositor tag s = (s.withComp s.comp.softReset).offer
      (if s.comp.alertOn = true ∧ s.pins.alertIn = false then
        [s.report .compositor tag .alertChange 0 [0, 0, 0]] else []) := by
  have hafter : (s.withComp s.comp.softReset).alertInForce = s.pins.alertIn := Bool.or_false _
  unfold softResetCompositor reportAlertChange
  rw [hafter]
  by_cases h : s.comp.alertOn = true ∧ s.pins.alertIn = false
  · have hends : s.pins.alertIn ≠ s.alertInForce := by simp [State.alertInForce, h]
    rw [if_pos h, if_neg hends, postAlertChange_off tag (hafter.trans h.2)]
    rfl
  · have hstays : s.pins.alertIn = s.alertInForce := by
      cases hin : s.pins.alertIn <;> simp_all [State.alertInForce]
    rw [if_neg h, if_pos hstays]
    rfl

/-! ## Capture -/

theorem clipEnded_closed {c d : Capture} {i : Fin 32} (h : ClipEnded c d)
    (hi : (c.clips.get i).state = .closed ∨ TakesClose c i) : (d.clips.get i).state = .closed := by
  obtain ⟨hnone, hsome⟩ := h
  by_cases hany : ∃ j, TakesClose c j
  · obtain ⟨j, hj⟩ := hany
    rw [hsome j hj, Tab.get_set]
    split
    · rfl
    · next hne => exact hi.resolve_right fun hi => hne (takesClose_unique hj hi)
  · rw [hnone fun j hj => hany ⟨j, hj⟩]
    exact hi.resolve_right fun hi => hany ⟨i, hi⟩

theorem clipOffered_closed {tag : BitVec 16} {k : Fin 1024} {s : State} {c d : Capture} {reports : List Report}
    {i : Fin 32} (h : ClipOffered tag k s c d reports) (hi : TakesClose c i) :
    (d.clips.get i).state = .closed ∨ TakesClose d i := by
  obtain ⟨hjoins, hlimit⟩ := h.2 i hi
  by_cases hlawful : (c.slots.get k).held = true ∨ c.heldCount + 1 ≤ c.source.slotCount - 1
  · rw [(hjoins hlawful).2]
    simp only [TakesClose, Tab.get_set_self]
    by_cases hclosing : (c.clips.get i).state = .closing
    · exact .inl (if_pos hclosing)
    · refine .inr ⟨.inl (if_neg hclosing), fun j hj => ?_⟩
      rw [Tab.get_set_ne _ _ hj.ne']
      exact hi.2 j hj
  · rw [(hlimit hlawful).1]
    exact .inl (congrArg Clip.state (Tab.get_set_self _ _ _))

theorem clipOffered_reports {tag : BitVec 16} {k : Fin 1024} {s : State} {c d : Capture} {reports : List Report}
    (h : ClipOffered tag k s c d reports) : ∀ r ∈ reports, r.unit = .capture ∧ r.tag = tag := by
  obtain ⟨hnone, hsome⟩ := h
  by_cases hany : ∃ j, TakesClose c j
  · obtain ⟨j, hj⟩ := hany
    by_cases hlawful : (c.slots.get k).held = true ∨ c.heldCount + 1 ≤ c.source.slotCount - 1
    · rw [((hsome j hj).1 hlawful).1]
      exact List.forall_mem_nil _
    · rw [((hsome j hj).2 hlawful).2]
      rintro r (_ | ⟨_, ⟨⟩⟩)
      exact ⟨rfl, rfl⟩
  · rw [(hnone fun j hj => hany ⟨j, hj⟩).2]
    exact List.forall_mem_nil _

theorem closeReports_unit (tag : BitVec 16) (cause : Byte) (k : Fin 1024) (complete : Bool) (s : State) :
    ∀ r ∈ closeReports tag cause k complete s, r.unit = .capture ∧ r.tag = tag := by
  unfold closeReports
  cases complete
  · rintro r (_ | ⟨_, ⟨⟩⟩)
    exact ⟨rfl, rfl⟩
  · exact List.forall_mem_nil _

theorem clipEnded_source {c d : Capture} (h : ClipEnded c d) : d.source = c.source ∧ d.slots = c.slots := by
  by_cases hany : ∃ j, TakesClose c j
  · obtain ⟨j, hj⟩ := hany
    rw [h.2 j hj]
    exact ⟨rfl, rfl⟩
  · rw [h.1 fun j hj => hany ⟨j, hj⟩]
    exact ⟨rfl, rfl⟩

/-- What SOFT_RESET makes of capture, the player's holds apart (R145): `cap`, with `captured`. -/
structure SoftStopped (tag : BitVec 16) (s : State) (cap : Capture) (captured : List Report) : Prop where
  off : cap.recorder = .off
  source : cap.source = s.capture.source
  sent : ∀ r ∈ captured, r.unit = .capture ∧ r.tag = tag
  idle : s.capture.recorder ≠ .recording → captured = [] ∧ cap = { s.capture with recorder := .off }
  turned : ∀ k, s.capture.recorder = .recording → s.capture.newest = some k →
    ∃ (joined ended : Capture) (clipped : List Report),
      ClipOffered tag k s { s.capture with slots := s.capture.slots.set k (slotClosed (s.slot k) false) } joined clipped ∧
      ClipEnded joined ended ∧ captured = closeReports tag 2 k false s ++ clipped ∧
      cap = { ended with recorder := .off }
  closed : s.capture.recorder = .recording → ∀ i, TakesClose s.capture i → (cap.clips.get i).state = .closed

theorem softStopped_idle (tag : BitVec 16) {s : State} (h : s.capture.recorder ≠ .recording) :
    SoftStopped tag s { s.capture with recorder := .off } [] where
  off := rfl
  source := rfl
  sent := List.forall_mem_nil _
  idle _ := ⟨rfl, rfl⟩
  turned _ hrec := absurd hrec h
  closed hrec := absurd hrec h

theorem stopRecorder_soft (tag : BitVec 16) (s : State) : ∃ cap captured, SoftStopped tag s cap captured ∧
    stopRecorder tag .softReset s = (s.withCapture cap).offer captured := by
  by_cases hrec : s.capture.recorder = .recording
  · cases hnewest : s.capture.newest with
    | none =>
      obtain ⟨ended, hended, hstop⟩ := stopRecorder_unlinked tag .softReset hrec hnewest
      refine ⟨{ ended with recorder := .off }, [], ⟨rfl, (clipEnded_source hended).1, List.forall_mem_nil _, fun h => absurd hrec h, fun k _ hk => ?_, fun _ i hi => ?_⟩, hstop⟩
      · exact absurd (hnewest.symm.trans hk) nofun
      · exact show (ended.clips.get i).state = .closed from clipEnded_closed hended (.inr hi)
    | some k =>
      obtain ⟨joined, ended, clipped, hcloses, hended, hstop⟩ := stopRecorder_recording tag .softReset hrec hnewest
      have hpartial : (s.slot k).completes s.capture.source.lines .softReset = false := by simp [Slot.completes]
      rw [Closes, hpartial] at hcloses
      rw [hpartial] at hstop
      obtain ⟨-, -, hsource, -, -⟩ := clipOffered_keeps hcloses
      refine ⟨{ ended with recorder := .off }, _, ⟨rfl, (clipEnded_source hended).1.trans hsource, ?_, fun h => absurd hrec h, fun j _ hj => ?_,
        fun _ i hi => ?_⟩, hstop⟩
      · intro r hr
        obtain hr | hr := List.mem_append.1 hr
        · exact closeReports_unit _ _ _ _ _ r hr
        · exact clipOffered_reports hcloses r hr
      · obtain rfl := Option.some.inj (hnewest.symm.trans hj)
        exact ⟨joined, ended, clipped, hcloses, hended, rfl, rfl⟩
      · exact show (ended.clips.get i).state = .closed from
          clipEnded_closed hended (clipOffered_closed hcloses (by exact hi))
  · exact ⟨_, [], softStopped_idle tag hrec, stopRecorder_idle tag .softReset hrec⟩

theorem report_congr {s t : State} (h : s.timing = t.timing) : s.report = t.report := by
  funext unit tag kind subject payload
  rw [State.report, State.report, h]

/-- Only capture and the uptime have a part in it. -/
theorem SoftStopped.congr {tag : BitVec 16} {s t : State} {cap : Capture} {captured : List Report}
    (hc : s.capture = t.capture) (ht : s.timing = t.timing) (h : SoftStopped tag s cap captured) :
    SoftStopped tag t cap captured := by
  obtain ⟨off, source, sent, idle, turned, closed⟩ := h
  refine ⟨off, hc ▸ source, sent, hc ▸ idle, fun k hrec hk => ?_, hc ▸ closed⟩
  obtain ⟨joined, ended, clipped, hoffered, hended, hcaptured, hcap⟩ := turned k (hc ▸ hrec) (hc ▸ hk)
  refine ⟨joined, ended, clipped, ?_, hended, ?_, hcap⟩
  · simpa only [ClipOffered, State.slot, report_congr ht, hc] using hoffered
  · have hclose : closeReports tag 2 k false s = closeReports tag 2 k false t := by
      rw [closeReports, closeReports, State.slot, State.slot, report_congr ht, hc]
    rw [hcaptured, hclose]

/-! ## Sponsors and messages -/

theorem halt_eq (p : Panel) : p.halt = panelStopped p := by
  unfold Panel.halt panelStopped
  by_cases h : p.state = .stopped ∧ p.shown = none
  · simp [h]
  · have h' : p.state ≠ .stopped ∨ p.shown.isSome = true := by
      rwa [Option.isSome_iff_ne_none, ← not_and_or]
    rw [if_neg h, if_pos h']

theorem softResetLatches_get (panels : Tab Panel 8) (t : Tab PanelLatch 8) (p : Fin 8) :
    (softResetLatches panels t).get p = { t.get p with entry := none, image := (panels.get p).defaultImage } := by
  rw [softResetLatches, foldl_modify_get _ (List.nodup_finRange 8), if_pos (List.mem_finRange p)]
  rfl

/-- The message unit with nothing stored and nothing on the crawl. -/
def MessageUnit.emptied (u : MessageUnit) : MessageUnit :=
  { u with store := Tab.fill 64 none, announce := [], featured := [], fan := [], lead := none
           follow := none, record := none }

theorem emptied_occupancy (u : MessageUnit) : u.emptied.occupancy = 0 :=
  List.countP_eq_zero.2 fun m hm => by
    rw [List.eq_of_mem_replicate hm]
    exact Bool.false_ne_true

/-- The hold ends with the store empty, and its final notice goes out. -/
theorem softResetMessages_eq (tag : BitVec 16) {s : State} (h : 1 ≤ s.message.config.high) :
    softResetMessages tag s = (s.withMessage { s.message.emptied with hold := none }).offer
      (if s.message.hold.isSome = true ∧ s.message.config.finalNotice = true then
        [s.report .message tag .queueHold 0 [0, 0, 0, 0]] else []) := by
  have hoccupancy : MessageUnit.occupancy { s.message.emptied with hold := none } = 0 :=
    emptied_occupancy { s.message with hold := none }
  show testHold tag (s.withMessage s.message.emptied) = _
  unfold testHold
  dsimp only
  rw [State.withMessage_message, show s.message.emptied.hold = s.message.hold from rfl]
  cases hhold : s.message.hold with
  | none =>
    dsimp only
    rw [if_neg (by rw [emptied_occupancy]; exact Nat.not_le.2 h), if_neg (fun hsome => Bool.false_ne_true hsome.1)]
    rw [← hhold]
    rfl
  | some t =>
    dsimp only
    rw [if_pos (by rw [emptied_occupancy]; exact Nat.zero_le _)]
    show (if s.message.config.finalNotice = true then _ else _) = _
    by_cases hnotice : s.message.config.finalNotice = true
    · rw [if_pos hnotice, if_pos ⟨rfl, hnotice⟩, postQueueHold, post_eq_offer]
      simp only [State.withMessage_message, hoccupancy]
      rfl
    · rw [if_neg hnotice, if_neg (fun hsome => hnotice hsome.2)]
      rfl

/-! ## The whole -/

/-- The state SOFT_RESET leaves, its reports apart, where it leaves `cap` of capture. -/
def softResetTo (cap : Capture) (s : State) : State :=
  { s with
    cmd := { s.cmd with pointer := .zone 0 }
    zones := s.zones.map Zone.softReset
    comp := s.comp.softReset
    glyph := { s.glyph with latches := Tab.fill 4 none }
    capture := cap.releasePlayer
    player := { s.player.stopped with latched := Tab.fill 4 none }
    sponsor :=
      { s.sponsor with
        panels := s.sponsor.panels.map Panel.halt
        latches := s.sponsor.latches.map (softResetLatches s.sponsor.panels) }
    message := { s.message.emptied with hold := none } }

/-- Block by block to the same state. -/
theorem softResetTo_eq (cap : Capture) (s : State) :
    setPointer (.zone 0) ((((((((s.withZones (s.zones.map Zone.softReset)).withComp s.comp.softReset).withGlyph
      { s.glyph with latches := Tab.fill 4 none }).withCapture cap.releasePlayer).withPlayer
      { s.player.stopped with latched := Tab.fill 4 none }).withSponsor
      { s.sponsor with
        panels := s.sponsor.panels.map Panel.halt
        latches := s.sponsor.latches.map (softResetLatches s.sponsor.panels) }).withMessage
      { s.message.emptied with hold := none })) = softResetTo cap s := by
  cases s
  rfl

theorem softReset_eq (tag : BitVec 16) {s : State} (h : 1 ≤ s.message.config.high) :
    ∃ cap captured, SoftStopped tag s cap captured ∧
      softReset tag s = (softResetTo cap s).offer
        ((if s.comp.alertOn = true ∧ s.pins.alertIn = false then
            [s.report .compositor tag .alertChange 0 [0, 0, 0]] else []) ++ captured ++
          (if s.message.hold.isSome = true ∧ s.message.config.finalNotice = true then
            [s.report .message tag .queueHold 0 [0, 0, 0, 0]] else [])) := by
  let s₁ := softResetZones s
  let alert := if s.comp.alertOn = true ∧ s.pins.alertIn = false then
    [s.report .compositor tag .alertChange 0 [0, 0, 0]] else []
  let s₃ := (s₁.withComp s.comp.softReset).withGlyph { s.glyph with latches := Tab.fill 4 none }
  have hrenderer : softResetRenderer (softResetCompositor tag s₁) = s₃.offer alert := by
    rw [softResetCompositor_eq, softResetRenderer, offer_glyph, offer_withGlyph]
    rfl
  obtain ⟨cap, captured, hstopped, hcapture⟩ := stopRecorder_soft tag (s₃.offer alert)
  refine ⟨cap, captured, hstopped.congr (by rw [offer_capture]; rfl) (by rw [offer_timing]; rfl), ?_⟩
  let s₅ := (s₃.withCapture cap.releasePlayer).withPlayer { s.player.stopped with latched := Tab.fill 4 none }
  have hplayer : softResetPlayer (softResetCapture tag (s₃.offer alert)) = s₅.offer (alert ++ captured) := by
    have hcap : (((s₃.offer alert).withCapture cap).offer captured) = (s₃.withCapture cap).offer (alert ++ captured) := by
      rw [← offer_withCapture, offer_append]
    rw [softResetCapture, hcapture, hcap, softResetPlayer, stopPlayer]
    simp only [offer_capture, offer_player, State.withCapture_capture, State.withCapture_player,
      State.withPlayer_player, ← offer_withCapture, ← offer_withPlayer]
    rfl
  let s₆ := s₅.withSponsor
    { s.sponsor with
      panels := s.sponsor.panels.map Panel.halt
      latches := s.sponsor.latches.map (softResetLatches s.sponsor.panels) }
  have hsponsor : softResetSponsor (s₅.offer (alert ++ captured)) = s₆.offer (alert ++ captured) := by
    rw [softResetSponsor, offer_sponsor, ← offer_withSponsor]
    rfl
  have hmessage : (s₆.offer (alert ++ captured)).message = s.message := by rw [offer_message]; rfl
  have htiming : (s₆.offer (alert ++ captured)).timing = s.timing := by rw [offer_timing]; rfl
  unfold softReset
  rw [hrenderer, hplayer, hsponsor, softResetMessages_eq tag (by rw [hmessage]; exact h), hmessage, report_congr htiming,
    ← offer_withMessage, offer_append, setPointer_offer]
  exact congrArg (State.offer · _) (softResetTo_eq cap s)

/-- Settles O21: the state and the reports of `softReset_eq`, block by block. -/
theorem softResetEffects : Obligations.SoftResetEffects := by
  intro h s hrun hhigh
  obtain ⟨cap, captured, hstopped, hreset⟩ := softReset_eq h.tag hhigh
  refine ⟨softResetTo cap s, captured, ?exec, hstopped.sent, fun hidle => ?idle, fun k hrec hk => ?turned, rfl, rfl, rfl,
    rfl, rfl, rfl, rfl, rfl, fun z => Tab.get_map _ _ _, fun i => Tab.get_map _ _ _, fun z => ?windows, rfl,
    fun z => Tab.get_fill _ _, rfl, rfl, rfl, rfl, hstopped.off, hstopped.source, fun k => ?released, fun hidle => ?slots,
    fun hrec i hi => hstopped.closed hrec i hi, rfl, rfl, rfl, fun p => ?panels, fun z p => ?latches, rfl⟩
  case exec =>
    refine congrArg Host.Outcome.next ((whileRunning_running _ hrun).trans ?_)
    rw [takeSoftReset, acknowledge_ok, hreset]
  case idle =>
    obtain ⟨hnone, hcap⟩ := hstopped.idle hidle
    exact ⟨hnone, by rw [hcap]; rfl⟩
  case turned =>
    obtain ⟨joined, ended, clipped, hoffered, hended, hcaptured, hcap⟩ := hstopped.turned k hrec hk
    refine ⟨joined, ended, clipped, hoffered, hended, hcaptured, by rw [hcap]; rfl, fun m => ?_⟩
    rw [hcap]
    exact Tab.get_map _ _ _
  case windows =>
    refine ⟨Tab.get_fill _ _, Tab.get_fill _ _, Tab.get_fill _ _, fun i => ⟨?_, ?_⟩⟩ <;>
      exact (congrArg (Tab.get · i) (Tab.get_fill _ _)).trans (Tab.get_fill _ _)
  case released => exact congrArg Slot.playerHold (Tab.get_map _ _ _)
  case slots =>
    rw [(hstopped.idle hidle).2]
    exact ⟨rfl, fun k => Tab.get_map _ _ _⟩
  case panels => exact (Tab.get_map _ _ _).trans (halt_eq _)
  case latches =>
    exact (congrArg (Tab.get · p) (Tab.get_map _ _ _)).trans (softResetLatches_get _ _ _)

end Machine
end Sys2Proof
end

section
/-! SUPPORT. The commands of the timing unit (chapter 6), the console lines and the two texts: what each makes of the state. -/

namespace Sys2Proof.Machine

/-- A host command on a running device leaves what its record makes of the state. -/
theorem exec_takes {c : Instr} {s t : State} (hc : IsHostCommand c) (hwf : c.wellFormed = true) (hrun : s.Running)
    (h : takeCommand c s = t) : exec c s = .next t :=
  (exec_running hc hwf hrun).trans (congrArg _ h)

theorem clockMode_none {n : Nat} (h : 1 < n) : clockMode? n = none :=
  readsNumbers_none (readsNumbers_two (read := clockMode?) rfl rfl fun _ => rfl) h

theorem inputMode_none {n : Nat} (h : 1 < n) : inputMode? n = none :=
  readsNumbers_none (readsNumbers_two (read := inputMode?) rfl rfl fun _ => rfl) h

theorem lineSense_none {n : Nat} (h : 2 < n) : lineSense? n = none :=
  readsNumbers_none (readsNumbers_three (read := lineSense?) rfl rfl rfl fun _ => rfl) h

theorem hornId_none {n : Nat} (h : 1 < n) : hornId? n = none :=
  readsNumbers_none (readsNumbers_two (read := hornId?) rfl rfl fun _ => rfl) h

/-- A byte of at most 1 is 0 or 1. -/
theorem byte_cases {b : Byte} (h : b.toNat ≤ 1) : b = 0 ∨ b = 1 := by
  obtain hb | hb : b.toNat = 0 ∨ b.toNat = 1 := by omega
  · exact .inl (BitVec.eq_of_toNat_eq hb)
  · exact .inr (BitVec.eq_of_toNat_eq hb)

theorem clockMode_byte {b : Byte} (h : b.toNat ≤ 1) : clockMode? b.toNat = some (if b = 0 then .down else .up) := by
  obtain rfl | rfl := byte_cases h <;> rfl

/-- Three numbers brought into their ranges: one differs unless all stay. -/
theorem bne_or_bne_or_bne (a b c a' b' c' : Nat) :
    (a != a' || b != b' || c != c') = decide (¬ (a = a' ∧ b = b' ∧ c = c')) := by
  rw [Bool.eq_iff_iff]
  simp only [Bool.or_eq_true, bne_iff_ne, decide_eq_true_eq]
  tauto

/-! ## The game clock -/

theorem canStart_iff {t : TimingUnit} :
    t.canStart = true ↔ t.state = .stopped ∧ (if t.mode = .down then 0 < t.value else t.value < 5999000) := by
  rw [TimingUnit.canStart, Bool.and_eq_true, beq_iff_eq]
  refine and_congr_right fun _ => ?_
  cases t.mode <;> exact decide_eq_true_iff

theorem takeClockStart_start {h : Header} {s : State} (hs : s.timing.canStart = true) :
    takeClockStart h s = (s.withTiming s.timing.start).done 0x21 .timing h false [] := by
  rw [takeClockStart, if_pos hs, acknowledge_ok]

theorem takeClockStart_refused {h : Header} {s : State} (hs : ¬ s.timing.canStart = true) :
    takeClockStart h s = s.refuse 0x21 .timing h .state := by
  rw [takeClockStart, if_neg hs, acknowledge_refuse]

theorem takeClockStop_stop {h : Header} {s : State} (hs : s.timing.state = .running) :
    takeClockStop h s = (postStopped h.tag 1 (s.withTiming s.timing.halt)).done 0x22 .timing h false [] := by
  rw [takeClockStop, if_pos hs, acknowledge_ok]

theorem takeClockStop_refused {h : Header} {s : State} (hs : s.timing.state ≠ .running) :
    takeClockStop h s = s.refuse 0x22 .timing h .state := by
  rw [takeClockStop, if_neg hs, acknowledge_refuse]

theorem takeBreakOn_refused {h : Header} {s : State} (hs : s.timing.state = .running) :
    takeBreakOn h s = s.refuse 0x26 .timing h .state := by
  rw [takeBreakOn, if_pos hs, acknowledge_refuse]

theorem takeBreakOn_on {h : Header} {s : State} (hs : s.timing.state ≠ .running) :
    takeBreakOn h s = (s.withTiming { s.timing with breakFlag := true }).done 0x26 .timing h false [] := by
  rw [takeBreakOn, if_neg hs, acknowledge_ok]

theorem takeBreakOff_off (h : Header) (s : State) :
    takeBreakOff h s = (s.withTiming { s.timing with breakFlag := false }).done 0x27 .timing h false [] := by
  rw [takeBreakOff, acknowledge_ok]

theorem takeClockMode_unknown {h : Header} {mode : Byte} {s : State} (hm : 1 < mode.toNat) :
    takeClockMode h mode s = s.refuse 0x25 .timing h .unknown := by
  rw [takeClockMode, clockMode_none hm, acknowledge_refuse]

theorem takeClockMode_refused {h : Header} {mode : Byte} {s : State} (hm : mode.toNat ≤ 1)
    (hs : s.timing.state ≠ .stopped) : takeClockMode h mode s = s.refuse 0x25 .timing h .state := by
  simp only [takeClockMode, clockMode_byte hm, if_neg hs, acknowledge_refuse]

theorem takeClockMode_mode {h : Header} {mode : Byte} {s : State} (hm : mode.toNat ≤ 1)
    (hs : s.timing.state = .stopped) : takeClockMode h mode s =
      (s.withTiming { s.timing with mode := if mode = 0 then .down else .up }).done 0x25 .timing h false [] := by
  simp only [takeClockMode, clockMode_byte hm, if_pos hs, acknowledge_ok]

theorem takeClockConfig_unknown {h : Header} {refRate threshold duration : BitVec 32} {mode startSense stopSense : Byte}
    {s : State} (hu : 1 < mode.toNat ∨ 2 < startSense.toNat ∨ 2 < stopSense.toNat) :
    takeClockConfig h refRate mode startSense stopSense threshold duration s = s.refuse 0x20 .timing h .unknown := by
  unfold takeClockConfig
  split
  · next hmode hstart hstop =>
    obtain hu | hu | hu := hu
    · exact absurd (hmode.symm.trans (inputMode_none hu)) nofun
    · exact absurd (hstart.symm.trans (lineSense_none hu)) nofun
    · exact absurd (hstop.symm.trans (lineSense_none hu)) nofun
  · exact acknowledge_refuse ..

/-- Settles O37: each command in each state of the clock. -/
theorem clockCommands : Obligations.ClockCommands := by
  intro h refRate threshold duration mode startSense stopSense s hrun
  have htakes {c : Instr} {t : State} (hc : IsHostCommand c) (hwf : c.wellFormed = true) (ht : takeCommand c s = t) :
      exec c s = .next t := exec_takes hc hwf hrun ht
  refine ⟨fun hs => htakes rfl rfl (takeClockStart_start (canStart_iff.2 hs)),
    fun hs => htakes rfl rfl (takeClockStart_refused (mt canStart_iff.1 hs)),
    fun hs => htakes rfl rfl ((takeClockStop_stop hs).trans ?_), fun hs => htakes rfl rfl (takeClockStop_refused hs),
    fun hs => htakes rfl rfl (takeBreakOn_refused hs), fun hs => htakes rfl rfl (takeBreakOn_on hs),
    htakes rfl rfl (takeBreakOff_off h s), fun hm => htakes rfl rfl (takeClockMode_unknown hm),
    fun hm hs => htakes rfl rfl (takeClockMode_refused hm hs), fun hm hs => htakes rfl rfl (takeClockMode_mode hm hs),
    fun hu => htakes rfl rfl (takeClockConfig_unknown hu),
    fun inputMode start stop hmode hstart hstop => htakes rfl rfl ?_⟩
  · rw [postStopped, post_eq_offer]
    rfl
  · show takeClockConfig _ _ _ _ _ _ _ _ = _
    simp only [takeClockConfig, hmode, hstart, hstop, acknowledge_ack, bne_or_bne_or_bne]
    rfl

/-! ## The possession clock -/

theorem takePossConfig_unknown {h : Header} {preset threshold duration : BitVec 32} {stopGame sense : Byte} {s : State}
    (hu : 1 < stopGame.toNat ∨ 2 < sense.toNat) :
    takePossConfig h preset threshold stopGame sense duration s = s.refuse 0x28 .timing h .unknown := by
  unfold takePossConfig
  split
  · next hstop hline =>
    obtain hu | hu := hu
    · exact absurd (hstop.symm.trans (yesNo_none hu)) nofun
    · exact absurd (hline.symm.trans (lineSense_none hu)) nofun
  · exact acknowledge_refuse ..

theorem takePossEnable_unknown {h : Header} {enabled : Byte} {s : State} (he : 1 < enabled.toNat) :
    takePossEnable h enabled s = s.refuse 0x29 .timing h .unknown := by
  rw [takePossEnable, yesNo_none he, acknowledge_refuse]

theorem takePossEnable_enable {h : Header} {enabled : Byte} {s : State} (he : enabled.toNat ≤ 1) :
    takePossEnable h enabled s =
      (s.withTiming { s.timing with possEnabled := decide (enabled = 1) }).done 0x29 .timing h false [] := by
  simp only [takePossEnable, yesNo_byte he, acknowledge_ok]

theorem levelAfter_eq (edge : Edge) : levelAfter edge = decide (edge = .rising) := by cases edge <;> rfl

/-- An edge of PC_RESET takes the line to its level and, with RESET_N released, counts. -/
theorem exec_pcReset (edge : Edge) (s : State) : exec (.pcReset edge) s =
    .next (whileRunning (pcResetEdge edge) (s.withPins { s.pins with pcReset := decide (edge = .rising) })) := by
  rw [← levelAfter_eq]
  rfl

/-- Settles O39: each command, and the edge of PC_RESET by its sense. -/
theorem possessionCommands : Obligations.PossessionCommands := by
  intro h preset threshold duration value stopGame sense enabled edge s
  refine ⟨fun hrun hu => exec_takes rfl rfl hrun (takePossConfig_unknown hu),
    fun stops line hrun hstop hline => exec_takes rfl rfl hrun ?_,
    fun hrun he => exec_takes rfl rfl hrun (takePossEnable_unknown he),
    fun hrun he => exec_takes rfl rfl hrun (takePossEnable_enable he),
    fun hrun => exec_takes rfl rfl hrun (acknowledge_ok _ _ h s _), fun hrun => exec_takes rfl rfl hrun ?_,
    fun hrun hsense => ?_, fun hstays => ?_⟩
  · show takePossConfig _ _ _ _ _ _ _ = _
    simp only [takePossConfig, hstop, hline, acknowledge_ack, bne_or_bne_or_bne]
    rfl
  · show takePossSet _ _ _ = _
    rw [takePossSet, acknowledge_ack, min_bne_eq]
    rfl
  · rw [exec_pcReset, whileRunning_running _ (by exact hrun), pcResetEdge, if_pos (by exact hsense)]
    rfl
  · rw [exec_pcReset]
    obtain hasserted | hsense := hstays
    · rw [whileRunning_asserted _ (by exact hasserted)]
    · by_cases hasserted : s.pins.resetAsserted = true
      · rw [whileRunning_asserted _ (by exact hasserted)]
      · rw [whileRunning_running _ (by exact eq_false_of_ne_true hasserted), pcResetEdge, if_neg (by exact hsense)]

/-! ## Horns and score -/

theorem takeHorn_unknown {h : Header} {which action : Byte} {s : State} (hu : 1 < which.toNat ∨ 1 < action.toNat) :
    takeHorn h which action s = s.refuse 0x2C .timing h .unknown := by
  unfold takeHorn
  split
  · next hid hsilence =>
    obtain hu | hu := hu
    · exact absurd (hid.symm.trans (hornId_none hu)) nofun
    · exact absurd (hsilence.symm.trans (yesNo_none hu)) nofun
  · exact acknowledge_refuse ..

/-- R116: the game horn. -/
theorem takeHorn_game {h : Header} {action : Byte} {s : State} (ha : action.toNat ≤ 1) :
    takeHorn h 0 action s = (s.withTiming { s.timing with hornG := { s.timing.hornG with
      remaining := if action = 0 then s.timing.hornG.duration else 0 } }).done 0x2C .timing h false [] := by
  obtain rfl | rfl := byte_cases ha <;> exact acknowledge_ok ..

/-- R116: the possession horn. -/
theorem takeHorn_possession {h : Header} {action : Byte} {s : State} (ha : action.toNat ≤ 1) :
    takeHorn h 1 action s = (s.withTiming { s.timing with hornP := { s.timing.hornP with
      remaining := if action = 0 then s.timing.hornP.duration else 0 } }).done 0x2C .timing h false [] := by
  obtain rfl | rfl := byte_cases ha <;> exact acknowledge_ok ..

theorem takeScoreSet_side {h : Header} {side : Byte} {value : BitVec 16} {s : State} {guest : Bool}
    (hside : yesNo? side.toNat = some guest) : takeScoreSet h side value s =
      (s.withTiming (s.timing.setScore guest (min 999 value.toNat))).done 0x30 .timing h (decide (999 < value.toNat))
        (leBytes 2 (min 999 value.toNat)) := by
  simp only [takeScoreSet, hside, scoreReply, acknowledge_done, min_bne_eq]

theorem takeScoreAdd_side {h : Header} {side : Byte} {delta : BitVec 32} {s : State} {guest : Bool}
    (hside : yesNo? side.toNat = some guest) :
    let r := addClamped 999 (s.timing.score guest) delta
    takeScoreAdd h side delta s =
      (s.withTiming (s.timing.setScore guest r.1)).done 0x31 .timing h r.2 (leBytes 2 r.1) := by
  simp only [takeScoreAdd, hside, scoreReply, acknowledge_done]

theorem takeFieldSet_field {h : Header} {field : Byte} {value : BitVec 16} {s : State} {i : Fin 8}
    (hi : field.toNat = i.val) : takeFieldSet h field value s =
      (s.withTiming { s.timing with fields := s.timing.fields.set i (min 99 value.toNat) }).done 0x32 .timing h
        (decide (99 < value.toNat)) (leBytes 2 (min 99 value.toNat)) := by
  simp only [takeFieldSet, hi, index_val, scoreReply, acknowledge_done, min_bne_eq]

theorem takeFieldAdd_field {h : Header} {field : Byte} {delta : BitVec 32} {s : State} {i : Fin 8}
    (hi : field.toNat = i.val) :
    let r := addClamped 99 (s.timing.fields.get i) delta
    takeFieldAdd h field delta s =
      (s.withTiming { s.timing with fields := s.timing.fields.set i r.1 }).done 0x33 .timing h r.2 (leBytes 2 r.1) := by
  simp only [takeFieldAdd, hi, index_val, scoreReply, acknowledge_done]

theorem sounding_iff (horn : Horn) : horn.sounding = true ↔ 0 < horn.remaining :=
  bne_iff_ne.trans Nat.pos_iff_ne_zero.symm

/-- Settles O40: the lines by `sounding_iff`, and each command by its operands. -/
theorem hornAndScore : Obligations.HornAndScore := by
  refine ⟨fun t => ⟨sounding_iff _, sounding_iff _⟩, fun h which action side field value delta s hrun => ?_⟩
  have htakes {c : Instr} {t : State} (hc : IsHostCommand c) (hwf : c.wellFormed = true) (ht : takeCommand c s = t) :
      exec c s = .next t := exec_takes hc hwf hrun ht
  refine ⟨fun hu => htakes rfl rfl (takeHorn_unknown hu), ?game, ?possession,
    fun hs => ⟨htakes rfl rfl ?_, htakes rfl rfl ?_⟩, ?home, ?guest,
    fun hf => ⟨htakes rfl rfl ?_, htakes rfl rfl ?_⟩, fun i hi => ⟨htakes rfl rfl (takeFieldSet_field hi), ?_⟩⟩
  case game =>
    rintro rfl ha
    exact htakes rfl rfl (takeHorn_game ha)
  case possession =>
    rintro rfl ha
    exact htakes rfl rfl (takeHorn_possession ha)
  case home =>
    rintro rfl
    refine ⟨htakes rfl rfl (takeScoreSet_side (side := 0) (guest := false) rfl),
      htakes rfl rfl ((takeScoreAdd_side (side := 0) (guest := false) rfl).trans ?_)⟩
    rw [addClamped_eq]
    rfl
  case guest =>
    rintro rfl
    refine ⟨htakes rfl rfl (takeScoreSet_side (side := 1) (guest := true) rfl),
      htakes rfl rfl ((takeScoreAdd_side (side := 1) (guest := true) rfl).trans ?_)⟩
    rw [addClamped_eq]
    rfl
  · show takeScoreSet _ _ _ _ = _
    rw [takeScoreSet, yesNo_none hs, acknowledge_refuse]
  · show takeScoreAdd _ _ _ _ = _
    rw [takeScoreAdd, yesNo_none hs, acknowledge_refuse]
  · show takeFieldSet _ _ _ _ = _
    rw [takeFieldSet, index_none hf, acknowledge_refuse]
  · show takeFieldAdd _ _ _ _ = _
    rw [takeFieldAdd, index_none hf, acknowledge_refuse]
  · refine htakes rfl rfl ((takeFieldAdd_field hi).trans ?_)
    rw [addClamped_eq]
    rfl

/-! ## The console lines -/

theorem lineStart_eq (s : State) : lineStart s = lineStarted s := by
  unfold lineStart lineStarted
  by_cases h : s.timing.canStart = true
  · rw [if_pos h, if_pos (canStart_iff.1 h)]
    rfl
  · rw [if_neg h, if_neg (mt canStart_iff.2 h)]

theorem lineStop_eq (s : State) : lineStop s = lineStopped s := by
  unfold lineStop lineStopped
  rw [postStopped, post_eq_offer]
  rfl

theorem exec_lineStart (edge : Edge) (s : State) : exec (.lineStart edge) s =
    .next (whileRunning (gcStartEdge edge) (s.withPins { s.pins with gcStart := decide (edge = .rising) })) := by
  rw [← levelAfter_eq]
  rfl

theorem exec_lineStop (edge : Edge) (s : State) : exec (.lineStop .gcStop edge) s =
    .next (whileRunning (gcStopEdge edge) (s.withPins { s.pins with gcStop := decide (edge = .rising) })) := by
  rw [← levelAfter_eq]
  rfl

/-- An input that leaves a running device as it is leaves it so under RESET_N as well. -/
theorem whileRunning_same {f : State → State} {s : State} (h : s.Running → f s = s) : whileRunning f s = s := by
  by_cases hasserted : s.pins.resetAsserted = true
  · exact whileRunning_asserted _ hasserted
  · have hrun : s.Running := eq_false_of_ne_true hasserted
    rw [whileRunning_running _ hrun, h hrun]

/-- R107, R108: an edge of GC_START is by the sense a line start, and else in LEVEL mode a line stop. -/
theorem gcStartEdge_none {edge : Edge} {s : State} (h : s.timing.startSense = none) : gcStartEdge edge s = s := by
  rw [gcStartEdge, h]

theorem gcStartEdge_start {edge : Edge} {s : State} (h : s.timing.startSense = some edge) :
    gcStartEdge edge s = lineStarted s := by
  simp only [gcStartEdge, h, if_true, lineStart_eq]

theorem gcStartEdge_other {edge sense : Edge} {s : State} (h : s.timing.startSense = some sense) (hne : sense ≠ edge) :
    gcStartEdge edge s = if s.timing.inputMode = .level then lineStopped s else s := by
  simp only [gcStartEdge, h, if_neg hne.symm]
  cases s.timing.inputMode
  · rfl
  · exact lineStop_eq s

/-- Settles O41: the edges of both lines by mode and sense. -/
theorem consoleLines : Obligations.ConsoleLines := by
  refine fun edge s => ⟨rfl, fun hstays => ?_, fun hrun hsense => ?_, fun sense hrun hsense hne hmode => ?_,
    fun sense hrun hsense hne hmode => ?_, fun hrun hmode hsense => ?_, fun hstays => ?_⟩
  · rw [exec_lineStart]
    obtain hasserted | hsense := hstays
    · rw [whileRunning_asserted _ (by exact hasserted)]
    · rw [whileRunning_same fun _ => gcStartEdge_none (by exact hsense)]
  · rw [exec_lineStart, whileRunning_running _ (by exact hrun), gcStartEdge_start (by exact hsense)]
  · rw [exec_lineStart, whileRunning_running _ (by exact hrun), gcStartEdge_other (by exact hsense) hne,
      if_pos (by exact hmode)]
  · rw [exec_lineStart, whileRunning_running _ (by exact hrun), gcStartEdge_other (by exact hsense) hne,
      if_neg (by rw [State.withPins_timing, hmode]; exact nofun)]
  · rw [exec_lineStop, whileRunning_running _ (by exact hrun), gcStopEdge, if_pos ⟨by exact hmode, by exact hsense⟩,
      lineStop_eq]
  · rw [exec_lineStop]
    obtain hasserted | hignored := hstays
    · rw [whileRunning_asserted _ (by exact hasserted)]
    · refine congrArg _ (whileRunning_same fun _ => if_neg ?_)
      rintro ⟨hmode, hsense⟩
      obtain hlevel | hother := hignored
      · exact absurd (hlevel.symm.trans hmode) nofun
      · exact hother hsense

/-! ## The texts -/

theorem digitCode_val (d : Nat) : (digitCode d).val = 48 + d % 10 := rfl

theorem leadingDigit_val {d : Nat} (h : d < 10) : (leadingDigit d).val = if d = 0 then 32 else 48 + d := by
  unfold leadingDigit
  split
  · rfl
  · rw [digitCode_val, Nat.mod_eq_of_lt h]

/-- Two digits of a number below 100, the tens a space when they are 0. -/
theorem showsTwo {n : Nat} (h : n < 100) : ShowsTwo (leadingDigit (n / 10)) (digitCode (n % 10)) n := by
  refine ⟨h, by rw [digitCode_val, Nat.mod_mod], ?_⟩
  rw [leadingDigit_val (by omega)]
  exact if_congr (by omega) rfl rfl

/-- The tenths of a value, behind its whole seconds. -/
theorem tenths_div (v : Nat) : v / 100 / 10 = v / 1000 := Nat.div_div_eq_div_mul ..

/-- Minutes and seconds below 100 minutes, two digits each. -/
theorem showsMinutes {whole : Nat} (h : whole ≤ 5999) :
    ShowsTwo (leadingDigit (whole / 60 / 10)) (digitCode (whole / 60 % 10)) (whole / 60) ∧
      (digitCode (whole % 60 / 10)).val = 48 + whole % 60 / 10 ∧
      (digitCode (whole % 60 % 10)).val = 48 + whole % 60 % 10 :=
  ⟨showsTwo (by omega), (digitCode_val _).trans (by omega), (digitCode_val _).trans (by omega)⟩

/-- Settles O42: each form of the two texts. -/
theorem displayTexts : Obligations.DisplayTexts := by
  intro u hvalue hposs hthreshold
  refine ⟨fun hpos hbelow => ?tenths, fun habove => ?minutes, fun hblank => ?blank, fun hon hshown => ⟨fun habove => ?seconds,
    fun hbelow => ?possTenths⟩⟩
  case tenths =>
    refine ⟨leadingDigit (u.value / 1000 / 10), digitCode (u.value / 1000 % 10), digitCode (u.value / 100 % 10), ?_,
      showsTwo (by omega), by rw [digitCode_val, Nat.mod_mod]⟩
    simp only [TimingUnit.gameText, gameText, if_pos (And.intro hpos hbelow), tenths_div]
    rfl
  case minutes =>
    have hlong : ¬ (0 < u.threshold ∧ u.value < u.threshold) := by omega
    have htop : (if u.mode = .down then (u.value + 999) / 1000 else u.value / 1000) ≤ 5999 := by split <;> omega
    refine ⟨_, _, _, _, ?_, showsMinutes htop⟩
    simp only [TimingUnit.gameText, gameText, if_neg hlong]
    cases u.mode <;> rfl
  case blank =>
    unfold TimingUnit.possText possText
    obtain hoff | hover := hblank
    · rw [hoff]
      rfl
    · rw [if_pos hover, ite_self]
      rfl
  case seconds =>
    refine ⟨_, _, ?_, showsTwo (by omega)⟩
    have hshows : ¬ (u.mode = .down ∧ u.value < u.possValue) := by
      rintro ⟨hdown, hover⟩
      exact hshown.elim (fun hup => absurd (hdown.symm.trans hup) nofun) (Nat.not_le.2 hover)
    simp only [TimingUnit.possText, possText, hon, if_neg hshows, if_pos habove]
    rfl
  case possTenths =>
    refine ⟨_, _, _, ?_, showsTwo (by omega), by rw [digitCode_val, Nat.mod_mod]⟩
    have hshows : ¬ (u.mode = .down ∧ u.value < u.possValue) := by
      rintro ⟨hdown, hover⟩
      exact hshown.elim (fun hup => absurd (hdown.symm.trans hup) nofun) (Nat.not_le.2 hover)
    simp only [TimingUnit.possText, possText, hon, if_neg hshows, if_neg (Nat.not_le.2 hbelow), tenths_div]
    rfl

end Sys2Proof.Machine
end

section
/-! SUPPORT. Bursts at the port (chapter 1): when one is withheld, its class, and what its acceptance, a grant of the memory
port and a response make of the state. -/

namespace Sys2Proof.Machine

/-! ## Records -/

/-- Every 32-byte record decodes to a well-formed host command (R23). -/
theorem decodeRecord_command {r : List Byte} (h : r.length = 32) :
    IsHostCommand (decodeRecord r) ∧ (decodeRecord r).wellFormed = true := by
  unfold decodeRecord
  dsimp only
  split
  case h_5 => exact ⟨rfl, by simp [Instr.wellFormed, operandBytes, h]⟩
  case h_51 => exact ⟨rfl, by simp [Instr.wellFormed, textBytes, h]⟩
  case h_54 =>
    refine ⟨rfl, ?_⟩
    have hlt := fieldAt_one_lt r 0
    have hcode : (bitsAt 1 r 0).toNat = fieldAt 1 r 0 := by
      rw [bitsAt, BitVec.toNat_ofNat, Nat.mod_eq_of_lt hlt]
    simp only [Instr.wellFormed, commandCodeDefined, hcode, Bool.not_eq_true', Bool.or_eq_false_iff,
      Bool.and_eq_false_iff, decide_eq_false_iff_not]
    generalize fieldAt 1 r 0 = n at *
    simp only [imp_false] at *
    clear hcode h
    repeat' apply And.intro
    all_goals omega
  all_goals exact ⟨rfl, rfl⟩

/-! ## The class of a burst -/

section
variable {s : State} {b : Burst}

theorem isStray_iff : isStray b = true ↔ Stray b := decide_eq_true_iff

theorem inControlArea_iff {a : Nat} : s.inControlArea a = true ↔ AreaHolds a s := by
  rw [State.inControlArea, Bool.and_eq_true, decide_eq_true_iff, decide_eq_true_iff]

theorem inSource_iff : s.capture.source.inRegion b.addr.toNat = true ↔ InSource b s := by
  rw [RecordSource.inRegion, Bool.and_eq_true, decide_eq_true_iff, decide_eq_true_iff]
  rfl

theorem inZone_iff {z : Fin 4} {a : Nat} : ((s.zone z).enabled && (s.zone z).inRegion a) = true ↔ ZoneHolds z a s := by
  rw [Zone.enabled, Zone.inRegion, Bool.and_eq_true, Bool.and_eq_true, bne_iff_ne, decide_eq_true_iff, decide_eq_true_iff]

theorem zoneAt_eq_some {a : Nat} {z : Fin 4} : s.zoneAt a = some z ↔ ZoneHolds z a s ∧ ∀ y, y < z → ¬ ZoneHolds y a s := by
  unfold State.zoneAt
  rw [find_finRange, inZone_iff]
  refine and_congr_right fun _ => forall₂_congr fun y _ => ?_
  rw [← inZone_iff, Bool.not_eq_true]

theorem zoneAt_eq_none {a : Nat} : s.zoneAt a = none ↔ ∀ z, ¬ ZoneHolds z a s := by
  unfold State.zoneAt
  rw [find_finRange_none]
  refine forall_congr' fun y => ?_
  rw [← inZone_iff, Bool.not_eq_true]

theorem classify_stray (h : Stray b) : s.classify b = .stray := if_pos (isStray_iff.2 h)

theorem classify_area (h : ¬ Stray b) (ha : InArea b s) : s.classify b = .controlArea :=
  (if_neg (mt isStray_iff.1 h)).trans (if_pos (inControlArea_iff.2 ha))

theorem classify_outside (h : ¬ Stray b) (ha : ¬ InArea b s) : s.classify b =
    match b.dir with
    | .write => if s.capture.source.inRegion b.addr.toNat then .recordSource else .passThrough
    | .read => s.readClass b.addr.toNat :=
  (if_neg (mt isStray_iff.1 h)).trans (if_neg (mt inControlArea_iff.1 ha))

theorem classify_source (h : ¬ Stray b) (ha : ¬ InArea b s) (hw : b.dir = .write) (hs : InSource b s) :
    s.classify b = .recordSource := by
  simp only [classify_outside h ha, hw, inSource_iff.2 hs, if_true]

theorem classify_write (h : ¬ Stray b) (ha : ¬ InArea b s) (hw : b.dir = .write) (hs : ¬ InSource b s) :
    s.classify b = .passThrough := by
  simp only [classify_outside h ha, hw, if_neg (mt inSource_iff.1 hs)]

theorem classify_zone {z : Fin 4} (h : ¬ Stray b) (ha : ¬ InArea b s) (hr : b.dir = .read)
    (hz : s.zoneAt b.addr.toNat = some z) : s.classify b = .zoneRead z := by
  simp only [classify_outside h ha, hr, State.readClass, hz]

theorem classify_read (h : ¬ Stray b) (ha : ¬ InArea b s) (hr : b.dir = .read)
    (hz : s.zoneAt b.addr.toNat = none) : s.classify b = .passThrough := by
  simp only [classify_outside h ha, hr, State.readClass, hz]

theorem classify_source_iff :
    s.classify b = .recordSource ↔ b.dir = .write ∧ ¬ Stray b ∧ ¬ InArea b s ∧ InSource b s := by
  refine ⟨fun hclass => ?_, fun ⟨hw, h, ha, hs⟩ => classify_source h ha hw hs⟩
  have h : ¬ Stray b := fun h => absurd ((classify_stray h).symm.trans hclass) nofun
  have ha : ¬ InArea b s := fun ha => absurd ((classify_area h ha).symm.trans hclass) nofun
  cases hdir : b.dir with
  | write => exact ⟨rfl, h, ha, by_contra fun hs => absurd ((classify_write h ha hdir hs).symm.trans hclass) nofun⟩
  | read =>
    cases hz : s.zoneAt b.addr.toNat with
    | none => exact absurd ((classify_read h ha hdir hz).symm.trans hclass) nofun
    | some z => exact absurd ((classify_zone h ha hdir hz).symm.trans hclass) nofun

/-! ## Withholding -/

theorem copySlot_isSome : (s.copySlot b).isSome = true ↔
    s.classify b = .recordSource ∧ s.capture.recorder = .recording ∧ s.capture.newest ≠ none := by
  rw [State.copySlot, Capture.writing]
  by_cases hclass : s.classify b = .recordSource
  · by_cases hrec : s.capture.recorder = .recording
    · simp [hclass, hrec, Option.isSome_iff_ne_none]
    · simp [hclass, hrec]
  · simp [hclass]

theorem mirrorStalled_iff : s.mirrorStalled b = true ↔ MirrorStalled b s := by
  rw [State.mirrorStalled, BusPath.mirrorFull, Bool.and_eq_true, Bool.and_eq_true, copySlot_isSome, classify_source_iff,
    beq_iff_eq, decide_eq_true_iff]
  unfold MirrorStalled
  exact ⟨fun ⟨⟨⟨⟨hw, h, ha, hs⟩, hrec, hnew⟩, hmode⟩, hfull⟩ => ⟨hw, h, ha, hs, hrec, hnew, hmode, hfull⟩,
    fun ⟨hw, h, ha, hs, hrec, hnew, hmode, hfull⟩ => ⟨⟨⟨⟨hw, h, ha, hs⟩, hrec, hnew⟩, hmode⟩, hfull⟩⟩

theorem withholds_iff : s.withholds b = true ↔ QueueFull b s ∨ MirrorStalled b s := by
  rw [State.withholds, Bool.or_eq_true, Bool.or_eq_true, Bool.and_eq_true, Bool.and_eq_true, beq_iff_eq, decide_eq_true_iff,
    decide_eq_true_iff, mirrorStalled_iff]
  rfl

theorem presentable_iff : s.bus.presentable b = true ↔ ∀ w, s.bus.withheld = some w → w.burst = b := by
  unfold BusPath.presentable
  cases s.bus.withheld with
  | none => exact ⟨fun _ => nofun, fun _ => rfl⟩
  | some w => exact beq_iff_eq.trans ⟨fun h v hv => Option.some.inj hv ▸ h, fun h => h w rfl⟩

/-- STALLS has counted the request at the port exactly when it stands there so marked. -/
theorem counted_iff (h : Presented b s) :
    s.bus.counted = true ↔ s.bus.withheld = some { burst := b, counted := true } := by
  unfold BusPath.counted
  cases hw : s.bus.withheld with
  | none => exact ⟨nofun, nofun⟩
  | some w =>
    obtain ⟨burst, counted⟩ := w
    obtain rfl : burst = b := h.2 _ hw
    simp

theorem exec_requestWithhold (hwf : b.wellFormed = true) (hrun : s.Running) :
    exec (.requestWithhold b) s = .next (presentWithheld b s) :=
  (if_pos hwf).trans (congrArg _ (whileRunning_running _ hrun))

theorem exec_burstAccept (hwf : b.wellFormed = true) (hrun : s.Running) : exec (.burstAccept b) s = .next (present b s) :=
  (if_pos hwf).trans (congrArg _ (whileRunning_running _ hrun))

theorem presentWithheld_withholds (hp : Presented b s) (hw : s.withholds b = true) : presentWithheld b s = withhold b s := by
  rw [presentWithheld, presentable_iff.2 hp.2, hw]
  rfl

theorem present_withholds (hp : Presented b s) (hw : s.withholds b = true) : present b s = withhold b s := by
  rw [present, if_pos (presentable_iff.2 hp.2), if_pos hw]

theorem withhold_unstalled (h : s.mirrorStalled b = false) :
    withhold b s = s.withBus { s.bus with withheld := some { burst := b, counted := s.bus.counted } } := by
  simp only [withhold, h, Bool.or_false, Bool.false_and, Bool.false_eq_true, if_false]

/-- A request already counted stays as it is. -/
theorem withhold_counted (h : s.bus.withheld = some { burst := b, counted := true }) : withhold b s = s := by
  have hcounted : s.bus.counted = true := by rw [BusPath.counted, h]
  simp only [withhold, hcounted, Bool.true_or, Bool.not_true, Bool.and_false, Bool.false_eq_true, if_false, ← h]
  rfl

theorem withhold_stalled (h : s.mirrorStalled b = true) (hc : s.bus.counted = false) : withhold b s =
    count (.path 3) (s.withBus { s.bus with withheld := some { burst := b, counted := true } }) := by
  simp only [withhold, h, hc, Bool.or_true, Bool.not_false, Bool.and_true, if_true, countStall]

end

/-- Settles O28: the conditions of `withholds_iff`, and the mark of the request at the port. -/
theorem requestsWithheld : Obligations.RequestsWithheld := by
  refine fun b s hrun => ⟨fun hwf => ⟨?_, ?_⟩, fun hwf hnot => ?_, fun hp => ?_⟩
  · exact if_neg (by rw [hwf]; exact Bool.false_ne_true)
  · exact if_neg (by rw [hwf]; exact Bool.false_ne_true)
  · have hbehind : ¬ s.bus.presentable b = true := fun h => hnot ⟨hwf, presentable_iff.1 h⟩
    rw [exec_requestWithhold hwf hrun, exec_burstAccept hwf hrun, presentWithheld, present, if_neg hbehind,
      Bool.eq_false_of_not_eq_true hbehind]
    exact ⟨rfl, rfl⟩
  · have hwith : ∀ {t}, s.withholds b = true → withhold b s = t → exec (.requestWithhold b) s = .next t := by
      rintro t hw rfl
      rw [exec_requestWithhold hp.1 hrun, presentWithheld_withholds hp hw]
    refine ⟨fun hstall hc => ?_, fun hstall hc => ?_, fun hstall hfull hc => ?_, fun hfull hc => ?_, fun hw => ?_,
      fun hstall hfull => ?_⟩
    · exact hwith (withholds_iff.2 (.inr hstall))
        (withhold_stalled (mirrorStalled_iff.2 hstall) (Bool.eq_false_of_not_eq_true (mt (counted_iff hp).1 hc)))
    · exact hwith (withholds_iff.2 (.inr hstall)) (withhold_counted hc)
    · refine hwith (withholds_iff.2 (.inl hfull)) ?_
      rw [withhold_unstalled (Bool.eq_false_of_not_eq_true (mt mirrorStalled_iff.1 hstall)),
        Bool.eq_false_of_not_eq_true (mt (counted_iff hp).1 hc)]
    · exact hwith (withholds_iff.2 (.inl hfull)) (withhold_counted hc)
    · have hw' : s.withholds b = true := withholds_iff.2 hw.symm
      rw [exec_requestWithhold hp.1 hrun, exec_burstAccept hp.1 hrun, presentWithheld_withholds hp hw', present_withholds hp hw']
    · have hfree : s.withholds b = false :=
        Bool.eq_false_of_not_eq_true fun hw => (withholds_iff.1 hw).elim hfull hstall
      rw [exec_requestWithhold hp.1 hrun, presentWithheld, hfree, Bool.and_false]
      rfl

/-! ## Acceptance -/

section
variable {s : State} {b : Burst}

/-- A presented request that nothing withholds is accepted. -/
theorem exec_accepted (hrun : s.Running) (hp : Presented b s) (hfull : ¬ QueueFull b s) (hstall : ¬ MirrorStalled b s) :
    exec (.burstAccept b) s = .next (acceptBurst b (s.withBus { s.bus with withheld := none })) := by
  have hfree : ¬ s.withholds b = true := fun hw => (withholds_iff.1 hw).elim hfull hstall
  rw [exec_burstAccept hp.1 hrun, present, if_pos (presentable_iff.2 hp.2), if_neg hfree, acceptPresented]

theorem room_queueFull (h : Room b s) : ¬ QueueFull b s := by
  obtain ⟨hforward, hresponses⟩ := h
  rintro (⟨-, hfull⟩ | ⟨hread, hfull⟩)
  · exact Nat.not_le.2 hforward hfull
  · exact Nat.not_le.2 (hresponses hread) hfull

theorem forwardAsIs_eq (h : b.dir = .write) : forwardAsIs b (s.withBus { s.bus with withheld := none }) = passed b s := by
  have hwrite : ¬ b.dir = .read := by rw [h]; exact nofun
  rw [passed, if_neg hwrite, List.append_nil]
  rfl

theorem passThrough_eq : passThrough b (s.withBus { s.bus with withheld := none }) = passed b s := by
  unfold passThrough
  cases hdir : b.dir with
  | read =>
    rw [passed, if_pos hdir]
    rfl
  | write => exact forwardAsIs_eq hdir

theorem wholeCommand_not_stray (h : WholeCommand b s) : ¬ Stray b := by
  obtain ⟨-, -, -, hbeats, halign, -⟩ := h
  unfold Stray
  omega

theorem isWholeRecord_iff : isWholeRecord b = true ↔ b.beats = 4 ∧ b.addr.toNat % 32 = 0 ∧ ∀ e ∈ b.enables, e = true := by
  simp [isWholeRecord, and_assoc]

theorem not_stalled_of_not_source (h : ¬ s.classify b = .recordSource) : ¬ MirrorStalled b s :=
  fun ⟨hw, hstray, harea, hsource, _⟩ => h (classify_source_iff.2 ⟨hw, hstray, harea, hsource⟩)

/-- What is forwarded unchanged and counted by nothing. -/
theorem exec_passThrough (hrun : s.Running) (hp : Presented b s) (hroom : Room b s) (h : s.classify b = .passThrough) :
    exec (.burstAccept b) s = .next (passed b s) := by
  rw [exec_accepted hrun hp (room_queueFull hroom) (not_stalled_of_not_source (by rw [h]; exact nofun)), acceptBurst,
    show (s.withBus { s.bus with withheld := none }).classify b = .passThrough from h]
  exact congrArg _ passThrough_eq

theorem exec_control (hrun : s.Running) (hp : Presented b s) (hroom : Room b s) (h : ¬ Stray b) (ha : InArea b s) :
    exec (.burstAccept b) s = .next (acceptControl b (s.withBus { s.bus with withheld := none })) := by
  have hclass := classify_area h ha
  rw [exec_accepted hrun hp (room_queueFull hroom) (not_stalled_of_not_source (by rw [hclass]; exact nofun)), acceptBurst,
    show (s.withBus { s.bus with withheld := none }).classify b = .controlArea from hclass]

theorem acceptControl_read (h : b.dir = .read) :
    acceptControl b (s.withBus { s.bus with withheld := none }) = passed b s := by
  simp only [acceptControl, h]
  exact passThrough_eq

theorem acceptControl_write (h : b.dir = .write) : acceptControl b (s.withBus { s.bus with withheld := none }) =
    if b.addr.toNat < s.cmd.caBase + 2048 then
      if isWholeRecord b then takeRecord b.data (passed b s) else countPartialCmd (passed b s)
    else passed b s := by
  simp only [acceptControl, acceptControlWrite, h, State.inSlotHalf, decide_eq_true_eq, forwardAsIs_eq h]
  rfl

end

/-- Settles O23: the record is that of a well-formed host command, which runs on the state with the write forwarded. -/
theorem wholeCommandWriteIsTaken : Obligations.WholeCommandWriteIsTaken := by
  intro b s hrun hp hwhole hroom
  have hstray := wholeCommand_not_stray hwhole
  obtain ⟨hw, harea, hhalf, hbeats, halign, henables⟩ := hwhole
  have hlength : b.data.length = 32 := by
    have hwf := hp.1
    simp only [Burst.wellFormed, hw, hbeats, Bool.and_eq_true, beq_iff_eq] at hwf
    exact hwf.2.1
  obtain ⟨hhost, hformed⟩ := decodeRecord_command hlength
  rw [exec_control hrun hp hroom hstray harea, acceptControl_write hw, if_pos hhalf,
    if_pos (isWholeRecord_iff.2 ⟨hbeats, halign, henables⟩), exec_running hhost hformed (by exact hrun)]
  rfl

/-- Settles O24: by the class of the burst. -/
theorem otherBurstsPassThrough : Obligations.OtherBurstsPassThrough := by
  refine fun b s hrun hp hroom => ⟨fun hstray => ?_, fun hstray harea hother => ?_, fun hstray harea hw hhalf hwhole => ?_,
    fun hstray harea hw hsource => exec_passThrough hrun hp hroom (classify_write hstray harea hw hsource),
    fun hstray harea hr hzone => exec_passThrough hrun hp hroom (classify_read hstray harea hr (zoneAt_eq_none.2 hzone))⟩
  · have hclass : s.classify b = .stray := classify_stray hstray
    rw [exec_accepted hrun hp (room_queueFull hroom) (not_stalled_of_not_source (by rw [hclass]; exact nofun)), acceptBurst,
      classify_stray hstray]
    exact congrArg (fun t => Host.Outcome.next (countStray t)) passThrough_eq
  · rw [exec_control hrun hp hroom hstray harea]
    cases hdir : b.dir with
    | read => rw [acceptControl_read hdir]
    | write => rw [acceptControl_write hdir, if_neg (Nat.not_lt.2 (hother.resolve_left (by rw [hdir]; exact nofun)))]
  · have hform : ¬ isWholeRecord b = true := fun h => hwhole ⟨hw, harea, hhalf, isWholeRecord_iff.1 h⟩
    rw [exec_control hrun hp hroom hstray harea, acceptControl_write hw, if_pos hhalf, if_neg hform]
    rfl

end Sys2Proof.Machine
end

section
/-! SUPPORT. Live writes and zone reads accepted, the three grants of the memory port, and responses (chapter 1). -/

namespace Sys2Proof

theorem Tab.set_set {α : Type} {n : Nat} (t : Tab α n) (i : Fin n) (x y : α) : (t.set i x).set i y = t.set i y := by
  refine Tab.ext_get fun j => ?_
  rw [Tab.get_set, Tab.get_set, Tab.get_set]
  split <;> rfl

namespace Machine

section
variable {s : State} {b : Burst}

theorem addLine_eq (line : Nat) (lines : List Nat) : addLine line lines = joinLine line lines := by
  simp [addLine, joinLine]

/-! ## Live writes -/

theorem mirrorFull_iff {p : BusPath} : p.mirrorFull = true ↔ 32 ≤ p.mirrors.length := decide_eq_true_iff

theorem writing_none (h : s.capture.recorder ≠ .recording ∨ s.capture.newest = none) : s.capture.writing = none := by
  rw [Capture.writing]
  obtain h | h := h
  · exact if_neg h
  · rw [h, ite_self]

theorem exec_liveWrite (hrun : s.Running) (hp : Presented b s) (hroom : Room b s) (hw : b.dir = .write) (h : ¬ Stray b)
    (ha : ¬ InArea b s) (hs : InSource b s) (hstall : ¬ MirrorStalled b s) :
    exec (.burstAccept b) s = .next (match s.capture.writing with
      | none => passed b s
      | some k => queueCopy k b (coverLine k b.addr.toNat (passed b s))) := by
  rw [exec_accepted hrun hp (room_queueFull hroom) hstall, acceptBurst,
    show (s.withBus { s.bus with withheld := none }).classify b = .recordSource from classify_source h ha hw hs]
  simp only [acceptLiveWrite, forwardAsIs_eq hw]
  rfl

/-- R134: the slot with the line of the write in its coverage. -/
def State.lineCovered (s : State) (b : Burst) (k : Fin 1024) : Slot :=
  { s.slot k with
    lines := joinLine ((b.addr.toNat - s.capture.source.base) / s.capture.source.pitch) (s.slot k).lines }

theorem coverLine_eq (k : Fin 1024) : coverLine k b.addr.toNat s =
    s.withCapture { s.capture with slots := s.capture.slots.set k (s.lineCovered b k) } := by
  unfold coverLine Capture.modifySlot Tab.modify
  simp only [addLine_eq]
  rfl

theorem queueCopy_full (k : Fin 1024) (h : 32 ≤ s.bus.mirrors.length) :
    queueCopy k b s = count (.path 2) (markDropped k s) := if_pos (mirrorFull_iff.2 h)

theorem queueCopy_room (k : Fin 1024) (h : s.bus.mirrors.length < 32) :
    queueCopy k b s = raiseOutstanding k (s.withBus { s.bus with mirrors := s.bus.mirrors ++ [s.copyOf k b] }) :=
  if_neg fun hfull => Nat.not_le.2 h (mirrorFull_iff.1 hfull)

end

/-- Settles O25: with a slot WRITING the line is covered, and the copy queued or dropped. -/
theorem liveWrites : Obligations.LiveWrites := by
  refine fun b s hrun hp hroom hw hstray harea hsource => ⟨fun hidle => ?_, fun k hrec hnewest => ?_⟩
  · have hnone := writing_none hidle
    have hstall : ¬ MirrorStalled b s := fun ⟨_, _, _, _, hrec, hnew, _⟩ => hidle.elim (· hrec) hnew
    rw [exec_liveWrite hrun hp hroom hw hstray harea hsource hstall, hnone]
  · have hwriting : s.capture.writing = some k := (if_pos hrec).trans hnewest
    have hcovered : coverLine k b.addr.toNat (passed b s) =
        (passed b s).withCapture { s.capture with slots := s.capture.slots.set k (s.lineCovered b k) } := coverLine_eq k
    refine ⟨fun hspace => ?_, fun hfull hdrop => ?_⟩
    · have hstall : ¬ MirrorStalled b s := fun ⟨_, _, _, _, _, _, _, hfull⟩ => Nat.not_le.2 hspace hfull
      rw [exec_liveWrite hrun hp hroom hw hstray harea hsource hstall, hwriting]
      dsimp only
      rw [hcovered, queueCopy_room k (by exact hspace), raiseOutstanding, Capture.modifySlot, Tab.modify]
      simp only [State.withBus_capture, State.withCapture_capture, Tab.get_set_self, Tab.set_set]
      rfl
    · have hstall : ¬ MirrorStalled b s := fun ⟨_, _, _, _, _, _, hmode, _⟩ => absurd (hdrop.symm.trans hmode) nofun
      rw [exec_liveWrite hrun hp hroom hw hstray harea hsource hstall, hwriting]
      dsimp only
      rw [hcovered, queueCopy_full k (by exact hfull), markDropped, Capture.modifySlot, Tab.modify]
      simp only [State.withCapture_capture, Tab.get_set_self, Tab.set_set]
      rfl

/-! ## Zone reads -/

section
variable {s : State} {b : Burst}

theorem contains_iff {w : Window} {line granule : Nat} : w.contains line granule = true ↔
    w.top ≤ line ∧ line < w.top + w.height ∧ w.left ≤ granule ∧ granule < w.left + w.width := by
  simp [Window.contains, and_assoc]

theorem setZone_self (z : Fin 4) (s : State) : s.setZone z (s.zone z) = s :=
  congrArg s.withZones (Tab.set_get s.zones z)

/-- R53: the line in the coverage of an open frame. -/
theorem coverRead_eq (z : Fin 4) (line : Nat) (s : State) : coverRead z line s = s.setZone z { s.zone z with
    coverage := if (s.zone z).state = .scanning then joinLine line (s.zone z).coverage else (s.zone z).coverage } := by
  simp only [coverRead, addLine_eq]
  by_cases h : (s.zone z).state = .scanning
  · simp only [if_pos h]
  · simp only [if_neg h]
    exact (setZone_self z s).symm

/-- R81: a mark with the line of the read, where its window holds the place. -/
def State.touched (s : State) (z : Fin 4) (p : ReadPlace) (m : FrameMark) : FrameMark :=
  match (s.comp.active.get z).get m.window with
  | some w =>
    if w.top ≤ p.line ∧ p.line < w.top + w.height ∧ w.left ≤ p.granule ∧ p.granule < w.left + w.width then
      { m with lines := joinLine p.line m.lines }
    else m
  | none => m

theorem markServed_eq (z : Fin 4) (p : ReadPlace) (s : State) : markServed z p s = s.withComp { s.comp with
    frameRecord := s.comp.frameRecord.set z ((s.comp.frameRecord.get z).map (List.map (s.touched z p))) } := by
  simp only [markServed, addLine_eq, contains_iff]
  cases hrecord : s.comp.frameRecord.get z with
  | none =>
    have hself : s.comp.frameRecord.set z none = s.comp.frameRecord := hrecord ▸ Tab.set_get _ _
    simp only [Option.map_none, hself]
    rfl
  | some marks => rfl

/-- R53, R81: what a read leaves in the coverage and in the served sets. -/
theorem readSeen_eq (z : Fin 4) (p : ReadPlace) (s : State) :
    markServed z p (coverRead z p.line s) = readSeen z p.line p.granule s := by
  rw [coverRead_eq, markServed_eq]
  rfl

theorem exec_zoneRead {z : Fin 4} (hrun : s.Running) (hp : Presented b s) (hfull : ¬ QueueFull b s)
    (hclass : s.classify b = .zoneRead z) : exec (.burstAccept b) s =
      .next (actOn b (s.compose z b.addr.toNat b.beats) ((readSeen z ((s.zone z).place b.addr.toNat).line
        ((s.zone z).place b.addr.toNat).granule s).withBus { s.bus with withheld := none })) := by
  have hstall := not_stalled_of_not_source (s := s) (b := b) (by rw [hclass]; exact nofun)
  rw [exec_accepted hrun hp hfull hstall, acceptBurst,
    show (s.withBus { s.bus with withheld := none }).classify b = .zoneRead z from hclass]
  simp only [acceptZoneRead, compose_withBus]
  exact congrArg (fun t => Host.Outcome.next (actOn b (s.compose z b.addr.toNat b.beats) t))
    (readSeen_eq z _ (s.withBus { s.bus with withheld := none }))

theorem not_queueFull (hforward : s.forwards b = true → s.bus.forward.length < 16)
    (hresponses : s.bus.responses.length < 32) : ¬ QueueFull b s := by
  rintro (⟨hf, hfull⟩ | ⟨-, hfull⟩)
  · exact Nat.not_le.2 (hforward hf) hfull
  · exact Nat.not_le.2 hresponses hfull

end

/-- Settles O26: by the compositor's answer. -/
theorem zoneReads : Obligations.ZoneReads := by
  intro z b s hrun hp hread hstray harea hzone hlower hresponses
  have hclass : s.classify b = .zoneRead z := classify_zone hstray harea hread (zoneAt_eq_some.2 ⟨hzone, hlower⟩)
  refine ⟨fun hcompose hforward => ?_, fun addr hcompose hforward => ?_, fun addr plan hcompose hforward => ?_,
    fun pixels hcompose => ?_⟩
  · rw [exec_zoneRead hrun hp (not_queueFull (fun _ => hforward) hresponses) hclass, hcompose]
    exact congrArg (fun a : BitVec 36 => Host.Outcome.next (addEntry b .memory [] false (forwardAt a b _)))
      (BitVec.ofNat_toNat 36 b.addr).symm
  · rw [exec_zoneRead hrun hp (not_queueFull (fun _ => hforward) hresponses) hclass, hcompose]
    rfl
  · rw [exec_zoneRead hrun hp (not_queueFull (fun _ => hforward) hresponses) hclass, hcompose]
    rfl
  · have hnoforward : s.forwards b = false := by simp only [State.forwards, hclass, hcompose]
    rw [exec_zoneRead hrun hp (not_queueFull (fun h => absurd (hnoforward.symm.trans h) nofun) hresponses) hclass, hcompose]
    rfl

/-! ## The memory port -/

section
variable {p : BusPath}

/-- R17: the report write at the head has waited long enough. -/
theorem urgent_iff : (!p.reportWrites.isEmpty && decide (p.waitCount ≥ Config.reportPatience)) = true ↔
    p.reportWrites ≠ [] ∧ 64 ≤ p.waitCount := by
  rw [Bool.and_eq_true, Bool.not_eq_true', List.isEmpty_eq_false_iff, decide_eq_true_iff]
  rfl

/-- R17: the winner. -/
theorem winner_eq (p : BusPath) : p.winner =
    if p.reportWrites ≠ [] ∧ 64 ≤ p.waitCount then some .reportWrite
    else if 24 ≤ p.mirrors.length then some .mirror
    else if p.forward ≠ [] then some .forward
    else if p.mirrors ≠ [] then some .mirror
    else if p.reportWrites ≠ [] then some .reportWrite
    else none := by
  simp only [BusPath.winner, urgent_iff, Bool.not_eq_true', List.isEmpty_eq_false_iff]
  rfl

theorem winner_forward_iff : p.winner = some .forward ↔
    ¬ (p.reportWrites ≠ [] ∧ 64 ≤ p.waitCount) ∧ p.mirrors.length < 24 ∧ p.forward ≠ [] := by
  rw [winner_eq, ← Nat.not_le]
  split_ifs <;> simp_all

theorem winner_mirror_iff : p.winner = some .mirror ↔
    ¬ (p.reportWrites ≠ [] ∧ 64 ≤ p.waitCount) ∧ (24 ≤ p.mirrors.length ∨ p.forward = []) ∧ p.mirrors ≠ [] := by
  have hsome : 24 ≤ p.mirrors.length → p.mirrors ≠ [] := by
    rintro h hnil
    rw [hnil] at h
    exact absurd h (by decide)
  rw [winner_eq]
  split_ifs <;> simp_all

theorem winner_report_iff : p.winner = some .reportWrite ↔
    p.reportWrites ≠ [] ∧ (64 ≤ p.waitCount ∨ (p.mirrors = [] ∧ p.forward = [])) := by
  rw [winner_eq]
  by_cases hlate : 64 ≤ p.waitCount
  · split_ifs <;> simp_all
  · by_cases hpressure : 24 ≤ p.mirrors.length
    · have hsome : p.mirrors ≠ [] := by
        rintro hnil
        rw [hnil] at hpressure
        exact absurd hpressure (by decide)
      split_ifs <;> simp_all
    · split_ifs <;> simp_all

theorem waited_eq (p : BusPath) : p.waited = if p.reportWrites = [] then p.waitCount else p.waitCount + 1 := by
  rw [BusPath.waited]
  exact if_congr List.isEmpty_iff rfl rfl

end

section
variable {s : State}

theorem exec_forwardGrant (hrun : s.Running) :
    exec .forwardGrant s = .next (if s.bus.winner = some .forward then grantForward s else s) :=
  congrArg Host.Outcome.next (whileRunning_running _ hrun)

theorem exec_mirrorGrant (hrun : s.Running) :
    exec .mirrorGrant s = .next (if s.bus.winner = some .mirror then grantMirror s else s) :=
  congrArg Host.Outcome.next (whileRunning_running _ hrun)

theorem exec_reportWriteGrant (hrun : s.Running) :
    exec .reportWriteGrant s = .next (if s.bus.winner = some .reportWrite then grantReport s else s) :=
  congrArg Host.Outcome.next (whileRunning_running _ hrun)

theorem grantForward_cons {b : Burst} {rest : List Burst} (h : s.bus.forward = b :: rest) : grantForward s =
    s.withBus { s.bus with
      forward := rest, mpOut := some b
      waitCount := if s.bus.reportWrites = [] then s.bus.waitCount else s.bus.waitCount + 1 } := by
  simp only [grantForward, h, waited_eq]

/-- R136: the slot with one copy fewer outstanding. -/
theorem settle_eq (x : Slot) : x.settle = { x with
    outstanding := x.outstanding - 1
    state :=
      if x.state = .settling ∧ x.outstanding - 1 = 0 then if x.verdict = .complete then .complete else .partialState
      else x.state } := by
  unfold Slot.settle
  cases x.verdict <;> rfl

theorem grantMirror_cons {m : MirrorCopy} {rest : List MirrorCopy} (h : s.bus.mirrors = m :: rest) : grantMirror s =
    (s.withBus { s.bus with
      mirrors := rest, mpOut := some m.burst
      waitCount := if s.bus.reportWrites = [] then s.bus.waitCount else s.bus.waitCount + 1 }).withCapture
    { s.capture with slots := s.capture.slots.set m.slot (s.slot m.slot).settle } := by
  simp only [grantMirror, h, waited_eq]
  rfl

theorem grantReport_cons {w : ReportWrite} {rest : List ReportWrite} (h : s.bus.reportWrites = w :: rest) :
    grantReport s = moveReports ((s.withBus { s.bus with
      reportWrites := rest, mpOut := some (s.reportBurst w), waitCount := 0 }).withCmd
      { s.cmd with producer := s.cmd.producer + 1 }) := by
  simp only [grantReport, h]

/-- A move of reports leaves P and C. -/
theorem moveReports_attn (s : State) : (moveReports s).attn = true ↔ s.cmd.producer ≠ s.cmd.consumer := by
  obtain ⟨x, hx⟩ := moveReports_shape s
  rw [hx, attn_iff, withReportPath_producer, withReportPath_consumer]

end

/-- Settles O29: the winner of each state, and what its grant makes of the state. -/
theorem portGrants : Obligations.PortGrants := by
  refine fun s hrun => ⟨fun b rest hurgent hpressure hb => ?_, fun hother => ?_, fun m rest hurgent hfirst hm => ?_,
    fun hother => ?_, fun w rest hw hfirst => ?_, fun hother => ?_⟩
  · have hwin := winner_forward_iff.2 ⟨hurgent, hpressure, hb ▸ List.cons_ne_nil b rest⟩
    rw [exec_forwardGrant hrun, if_pos hwin, grantForward_cons hb]
  · rw [exec_forwardGrant hrun, if_neg]
    rw [winner_forward_iff]
    rintro ⟨hurgent, hpressure, hb⟩
    exact hother.elim hurgent fun h => h.elim (Nat.not_le.2 hpressure) hb
  · have hwin := winner_mirror_iff.2 ⟨hurgent, hfirst, hm ▸ List.cons_ne_nil m rest⟩
    rw [exec_mirrorGrant hrun, if_pos hwin, grantMirror_cons hm, settle_eq]
  · rw [exec_mirrorGrant hrun, if_neg]
    rw [winner_mirror_iff]
    rintro ⟨hurgent, hfirst, hm⟩
    obtain h | h | ⟨hpressure, hb⟩ := hother
    · exact hurgent h
    · exact hm h
    · exact hfirst.elim (Nat.not_le.2 hpressure) hb
  · have hwin := winner_report_iff.2 ⟨hw ▸ List.cons_ne_nil w rest, hfirst⟩
    rw [exec_reportWriteGrant hrun, if_pos hwin, grantReport_cons hw]
    refine ⟨rfl, ?_⟩
    rintro t ⟨⟩
    exact moveReports_attn _
  · rw [exec_reportWriteGrant hrun, if_neg]
    rw [winner_report_iff]
    rintro ⟨hw, hfirst⟩
    obtain h | ⟨hearly, h⟩ := hother
    · exact hw h
    · obtain hlate | ⟨hm, hb⟩ := hfirst
      · exact Nat.not_le.2 hearly hlate
      · exact h.elim (· hm) (· hb)

/-! ## Responses -/

theorem matchResponse_complete (free : Nat) (pixels : List Pixel) {l rest : List ResponseEntry}
    (h : ∀ e ∈ l, e.complete = true) :
    matchResponse free pixels (l ++ rest) = l ++ matchResponse free pixels rest := by
  induction l with
  | nil => rfl
  | cons e l ih =>
    obtain ⟨he, hl⟩ := List.forall_mem_cons.1 h
    rw [List.cons_append, matchResponse, if_pos he, ih hl]
    rfl

theorem draws_none {p : BusPath} (h : ∀ e ∈ p.responses, e.complete = true) : p.draws = 0 := by
  have hnone : p.responses.find? (fun e => !e.complete) = none :=
    List.find?_eq_none.2 fun e he => by rw [h e he]; exact Bool.false_ne_true
  rw [BusPath.draws, hnone]

theorem draws_waiting {p : BusPath} {l rest : List ResponseEntry} {e : ResponseEntry} (hp : p.responses = l ++ e :: rest)
    (h : ∀ e ∈ l, e.complete = true) (he : e.complete = false) : p.draws = e.draws := by
  have hsome : p.responses.find? (fun e => !e.complete) = some e :=
    List.find?_eq_some_iff_append.2 ⟨by rw [he]; rfl, l, rest, hp, fun d hd => by rw [h d hd]; rfl⟩
  rw [BusPath.draws, hsome]

theorem takeResponse_waiting {s : State} {l rest : List ResponseEntry} {e : ResponseEntry} (pixels : List Pixel)
    (hp : s.bus.responses = l ++ e :: rest) (h : ∀ e ∈ l, e.complete = true) (he : e.complete = false) :
    takeResponse pixels s =
      (s.withBus { s.bus with responses := l ++ e.answer s.free pixels :: rest }).withFree (s.free + e.draws) := by
  have hmatch : matchResponse s.free pixels (e :: rest) = e.answer s.free pixels :: rest := if_neg (by rw [he]; exact nofun)
  rw [takeResponse, draws_waiting hp h he, hp, matchResponse_complete _ _ h, hmatch]

theorem takeResponse_none {s : State} (pixels : List Pixel) (h : ∀ e ∈ s.bus.responses, e.complete = true) :
    takeResponse pixels s = s := by
  have hmatch : matchResponse s.free pixels s.bus.responses = s.bus.responses := by
    have happend := matchResponse_complete s.free pixels (rest := []) h
    rwa [List.append_nil, show matchResponse s.free pixels [] = [] from rfl, List.append_nil] at happend
  rw [takeResponse, draws_none h, hmatch]
  rfl

/-- R12: a merged response has the pixels of its plan, and the memory pixel where the plan has none. -/
theorem mergePixels_spec (free : Nat) (plan : MergePlan) (pixels : List Pixel) :
    (mergePixels free plan pixels).length = plan.length ∧
      ∀ k (hp : k < plan.length) (hd : k < (mergePixels free plan pixels).length),
        (∀ colour, plan[k] = some colour → (mergePixels free plan pixels)[k] = colour) ∧
        (∀ hm : k < pixels.length, plan[k] = none → (mergePixels free plan pixels)[k] = pixels[k]) := by
  induction plan generalizing free pixels with
  | nil => exact ⟨rfl, nofun⟩
  | cons d plan ih =>
    obtain ⟨hlength, hpixels⟩ := ih (free + 1) pixels.tail
    refine ⟨congrArg (· + 1) hlength, fun k hp hd => ?_⟩
    cases k with
    | zero =>
      refine ⟨fun colour hcolour => ?_, fun hm hnone => ?_⟩
      · obtain rfl : d = some colour := hcolour
        rfl
      · obtain rfl : d = none := hnone
        cases pixels with
        | nil => exact absurd hm (Nat.not_lt_zero 0)
        | cons x pixels => rfl
    | succ k =>
      obtain ⟨hset, hfree⟩ := hpixels k (Nat.lt_of_succ_lt_succ hp) (Nat.lt_of_succ_lt_succ hd)
      refine ⟨hset, fun hm hnone => ?_⟩
      have htail : k < pixels.tail.length := by rw [List.length_tail]; omega
      exact (hfree htail hnone).trans (List.getElem_tail ..)

theorem exec_mpResponse {pixels : List Pixel} {s : State} (hwf : responseWellFormed pixels = true) (hrun : s.Running) :
    exec (.mpResponse pixels) s = .next (takeResponse pixels s) :=
  (if_pos hwf).trans (congrArg _ (whileRunning_running _ hrun))

theorem exec_responseReturn {s : State} (hrun : s.Running) : exec .responseReturn s = .next (returnResponse s) :=
  congrArg Host.Outcome.next (whileRunning_running _ hrun)

/-- Settles O30: the oldest WAITING entry takes the response, and the oldest entry leaves when COMPLETE. -/
theorem responses : Obligations.Responses := by
  refine fun pixels s hrun => ⟨fun hwf => if_neg (by rw [hwf]; exact Bool.false_ne_true), fun hwf hall => ?_,
    fun done e rest hwf hlist hdone he => ?_, fun e rest hlist he => ?_, fun hhead => ?_⟩
  · rw [exec_mpResponse hwf hrun, takeResponse_none pixels hall]
  · rw [exec_mpResponse hwf hrun, takeResponse_waiting pixels hlist hdone he]
    refine ⟨fun hkind => ?_, fun plan hkind => ⟨mergePixels s.free plan pixels, ?_, mergePixels_spec s.free plan pixels⟩⟩
    · rw [ResponseEntry.answer, ResponseEntry.draws, hkind]
      rfl
    · rw [ResponseEntry.answer, ResponseEntry.draws, hkind]
  · rw [exec_responseReturn hrun]
    simp only [returnResponse, hlist, he, if_true]
  · rw [exec_responseReturn hrun]
    unfold returnResponse
    split
    · rfl
    next e rest hlist => rw [if_neg (by rw [hhead e (by rw [hlist]; rfl)]; exact nofun)]

end Machine
end Sys2Proof
end

section
/-! SUPPORT. The transport of the player (R147, R152 to R156). -/

namespace Sys2Proof.Machine

theorem endMode_none {n : Nat} (h : 1 < n) : endMode? n = none :=
  readsNumbers_none (readsNumbers_two (read := endMode?) rfl rfl fun _ => rfl) h

theorem alertPolicy_none {n : Nat} (h : 2 < n) : alertPolicy? n = none :=
  readsNumbers_none (readsNumbers_three (read := alertPolicy?) rfl rfl rfl fun _ => rfl) h

/-- The number of a policy is the one it was read from. -/
theorem alertPolicy_number {b : Byte} {policy : AlertPolicy} (h : alertPolicy? b.toNat = some policy) :
    leBytes 1 policy.number = [b] := by
  have hnumber : policy.number = b.toNat := by
    unfold alertPolicy? at h
    split at h
    next hb => cases h; exact hb.symm
    next hb => cases h; exact hb.symm
    next hb => cases h; exact hb.symm
    next => exact absurd h nofun
  rw [hnumber]
  exact congrArg (fun x : Byte => [x]) (BitVec.ofNat_toNat 8 b)

/-- The player status, field by field. -/
theorem packPlayer_eq (p : Player) : packPlayer p = packed
    [(1, p.state.number), (1, p.cause.number), orOnes 2 p.first, (2, p.length), (2, p.position), (2, p.rate),
      orOnes 2 p.selection, (1, p.paceZone.val), (1, p.endMode.number), flag p.partialSkip] := by
  simp [packPlayer]

section
variable {h : Header} {s : State}

theorem takePlayerConfig_unknown {paceZone endMode skip policy : Byte}
    (hu : 1 < endMode.toNat ∨ 1 < skip.toNat ∨ 2 < policy.toNat) :
    takePlayerConfig h paceZone endMode skip policy s = s.refuse 0x50 .player h .unknown := by
  unfold takePlayerConfig
  split
  next hmode hskip hpolicy =>
    obtain hu | hu | hu := hu
    · exact absurd (hmode.symm.trans (endMode_none hu)) nofun
    · exact absurd (hskip.symm.trans (yesNo_none hu)) nofun
    · exact absurd (hpolicy.symm.trans (alertPolicy_none hu)) nofun
  · exact acknowledge_refuse ..

theorem acknowledge_playerReply (code : Nat) (q : Player) (clamped : Bool) :
    acknowledge code .player h s (playerReply clamped (s.withPlayer q)) =
      (s.withPlayer q).done code .player h clamped (packPlayer q) :=
  acknowledge_done ..

theorem takePlay_resume (hs : s.player.state = .cued ∨ s.player.state = .paused) : takePlay h s =
    (s.withPlayer { s.player with state := .playing, cause := .none, stepPending := false }).done 0x54 .player h false
      (packPlayer { s.player with state := .playing, cause := .none, stepPending := false }) := by
  unfold takePlay
  obtain hs | hs := hs <;>
  · rw [hs]
    exact acknowledge_playerReply ..

theorem takePlay_again (hs : s.player.state = .ended) : takePlay h s =
    (s.withPlayer { s.player with
      state := .playing, cause := .none, stepPending := false, position := 0, shownPosition := 0 }).done 0x54 .player h false
      (packPlayer { s.player with
        state := .playing, cause := .none, stepPending := false, position := 0, shownPosition := 0 }) := by
  unfold takePlay
  rw [hs]
  exact acknowledge_playerReply ..

theorem takePlay_refused (hs : s.player.state = .idle ∨ s.player.state = .playing) :
    takePlay h s = s.refuse 0x54 .player h .state := by
  unfold takePlay
  obtain hs | hs := hs <;>
  · rw [hs]
    exact acknowledge_refuse ..

end

/-- Settles O45: each command by the state of the player. -/
theorem playerTransport : Obligations.PlayerTransport := by
  intro h paceZone endMode skip policy newRate s hrun
  have htakes {c : Instr} {t : State} (hc : IsHostCommand c) (hwf : c.wellFormed = true) (ht : takeCommand c s = t) :
      exec c s = .next t := exec_takes hc hwf hrun ht
  refine ⟨packPlayer_eq, fun hu => htakes rfl rfl (takePlayerConfig_unknown hu), fun mode skips alert hmode hskip halert =>
    ⟨fun hz => htakes rfl rfl ?_, fun z hz => htakes rfl rfl ?_⟩, fun hs => htakes rfl rfl (takePlay_resume hs),
    fun hs => htakes rfl rfl (takePlay_again hs), fun hs => htakes rfl rfl (takePlay_refused hs),
    fun hs => htakes rfl rfl ?_, fun hs => htakes rfl rfl ?_, fun hs => htakes rfl rfl ?_, fun hs => htakes rfl rfl ?_,
    htakes rfl rfl ?_, ?_⟩
  · show takePlayerConfig _ _ _ _ _ _ = _
    simp only [takePlayerConfig, hmode, hskip, halert, index_none hz, acknowledge_refuse]
  · show takePlayerConfig _ _ _ _ _ _ = _
    simp only [takePlayerConfig, hmode, hskip, halert, hz, index_val, acknowledge_done, alertPolicy_number halert]
  · show takePause _ _ = _
    rw [takePause, if_pos hs, acknowledge_playerReply]
    rfl
  · show takePause _ _ = _
    rw [takePause, if_neg hs, acknowledge_refuse]
  · show takeStep _ _ = _
    rw [takeStep, if_pos hs, acknowledge_playerReply]
    rfl
  · show takeStep _ _ = _
    rw [takeStep, if_neg hs, acknowledge_refuse]
  · exact (acknowledge_playerReply ..).trans (by rw [bne_eq_decide Iff.rfl]; rfl)
  · exact ⟨s.capture.releasePlayer.slots, fun k => Tab.get_map _ _ _, htakes rfl rfl (acknowledge_done _ _ h s ..)⟩

end Sys2Proof.Machine
end

section
/-! SUPPORT. The search of a panel (R167, R168) and the panel commands (R170 to R173). -/

namespace Sys2Proof.Machine

section
variable {s : State} {p : Fin 8}

theorem eligible_iff {e : Fin 128} : s.eligible p e = true ↔ Eligible s p e := by
  unfold State.eligible SponsorEntry.eligible Eligible
  cases (s.entry e).cls <;> cases (s.entry e).fulfilled <;> cases (s.panel p).overrun <;> simp [EntryClass.allows]

theorem setPanel_setPanel (s : State) (p : Fin 8) (x y : Panel) : (s.setPanel p x).setPanel p y = s.setPanel p y :=
  congrArg (fun t : Tab Panel 8 => s.withSponsor { s.sponsor with panels := t }) (Tab.set_set _ _ _ _)

/-! ## The search -/

theorem length_searchOrder (n first : Nat) : (searchOrder n first).length = n := by simp [searchOrder]

theorem searchOrder_get {n first j : Nat} {k : Fin 32} (hn : n ≤ 32) (hj : j < (searchOrder n first).length)
    (hk : k.val = (first + j) % n) : (searchOrder n first)[j] = k := by
  rw [length_searchOrder] at hj
  have hlt : (first + j) % n < 32 := Nat.lt_of_lt_of_le (Nat.mod_lt _ (by omega)) hn
  simp only [searchOrder, List.getElem_map, List.getElem_range]
  exact Fin.ext ((Nat.mod_eq_of_lt hlt).trans hk.symm)

/-- The position a search examines at its step `j`. -/
theorem searchOrder_mem {n first : Nat} {k : Fin 32} (hn : n ≤ 32) (h : k ∈ searchOrder n first) : k.val < n := by
  obtain ⟨j, hj, rfl⟩ := List.mem_map.1 h
  have hlt : (first + j) % n < n := Nat.mod_lt _ (by have := List.mem_range.1 hj; omega)
  exact Nat.lt_of_le_of_lt (Nat.mod_le _ _) hlt

/-- R168: the first eligible position begins a new turn. -/
theorem search_found {first j : Nat} {k : Fin 32} (hn : (s.panel p).listLength ≤ 32) (hj : j < (s.panel p).listLength)
    (hk : k.val = (first + j) % (s.panel p).listLength) (hel : Eligible s p (s.listed p k))
    (hbefore : ∀ i (m : Fin 32), i < j → m.val = (first + i) % (s.panel p).listLength → ¬ Eligible s p (s.listed p m)) :
    search p first s = s.setPanel p { s.panel p with
      position := k, shown := some (s.listed p k), count := 0, showing := (s.panel p).showing + 1 } := by
  have hfound : (searchOrder (s.panel p).listLength first).find? (fun k => s.eligible p (s.listed p k)) = some k := by
    have hlength := length_searchOrder (s.panel p).listLength first
    refine List.find?_eq_some_iff_getElem.2 ⟨eligible_iff.2 hel, j, by omega, searchOrder_get hn (by omega) hk, ?_⟩
    intro i hi
    have hlt : (first + i) % (s.panel p).listLength < 32 := Nat.lt_of_lt_of_le (Nat.mod_lt _ (by omega)) hn
    rw [searchOrder_get (k := ⟨_, hlt⟩) hn (by omega) rfl, Bool.not_eq_true', ← Bool.not_eq_true, eligible_iff]
    exact hbefore i ⟨_, hlt⟩ hi rfl
  simp only [search, hfound]

/-- R168: with none eligible the panel shows its default image. -/
theorem search_none (first : Nat) (hn : (s.panel p).listLength ≤ 32)
    (hnone : ∀ k : Fin 32, k.val < (s.panel p).listLength → ¬ Eligible s p (s.listed p k)) :
    search p first s = s.setPanel p { s.panel p with
      shown := none, count := 0
      showing := if (s.panel p).shown = none then (s.panel p).showing else (s.panel p).showing + 1 } := by
  have hfound : (searchOrder (s.panel p).listLength first).find? (fun k => s.eligible p (s.listed p k)) = none :=
    List.find?_eq_none.2 fun k hk hel => hnone k (searchOrder_mem hn hk) (eligible_iff.1 hel)
  simp only [search, hfound]
  cases (s.panel p).shown <;> rfl

/-- What a panel shows has no part in what may be shown on it. -/
theorem eligible_setPanel {x : Panel} (e : Fin 128) (hx : x.overrun = (s.panel p).overrun) :
    Eligible (s.setPanel p x) p e ↔ Eligible s p e := by
  unfold Eligible
  rw [panel_setPanel_self, hx]
  rfl

/-! ## The panel commands -/

theorem acknowledge_panelReply (code : Nat) (h : Header) (x : Panel) (clamped : Bool) :
    acknowledge code .sponsor h s (panelReply p clamped (s.setPanel p x)) =
      (s.setPanel p x).done code .sponsor h clamped (leBytes 1 x.state.number ++ leBytes 1 x.position.val ++
        optionalIndex 1 x.shown ++ leBytes 2 x.count) := by
  rw [panelReply, panel_setPanel_self, acknowledge_done]
  rfl

/-- The panel taken to ROTATING before its search. -/
def State.rotated (s : State) (p : Fin 8) : State := s.setPanel p { s.panel p with state := .rotating }

@[simp] theorem panel_rotated (s : State) (p : Fin 8) : (s.rotated p).panel p = { s.panel p with state := .rotating } :=
  panel_setPanel_self _ _ _

theorem eligible_rotated (s : State) (p : Fin 8) (e : Fin 128) : Eligible (s.rotated p) p e ↔ Eligible s p e :=
  eligible_setPanel e rfl

/-- R170: the showing number advances once, whatever the search finds. -/
theorem startPanel_eq (s : State) (p : Fin 8) : startPanel p s =
    (search p (startFrom (s.panel p)) (s.rotated p)).setPanel p
      { (search p (startFrom (s.panel p)) (s.rotated p)).panel p with showing := (s.panel p).showing + 1 } := rfl

theorem startPanel_none (hn : (s.panel p).listLength ≤ 32)
    (hnone : ∀ k : Fin 32, k.val < (s.panel p).listLength → ¬ Eligible s p (s.listed p k)) :
    startPanel p s = s.setPanel p { s.panel p with
      state := .rotating, shown := none, count := 0, showing := (s.panel p).showing + 1 } := by
  have hnone' : ∀ k : Fin 32, k.val < ((s.rotated p).panel p).listLength →
      ¬ Eligible (s.rotated p) p ((s.rotated p).listed p k) := fun k hk hel =>
    hnone k (by simpa using hk) ((eligible_rotated s p _).1 hel)
  rw [startPanel_eq, search_none _ (by simpa using hn) hnone', panel_setPanel_self, panel_rotated, setPanel_setPanel,
    State.rotated, setPanel_setPanel]

theorem startPanel_found {j : Nat} {k : Fin 32} (hn : (s.panel p).listLength ≤ 32) (hj : j < (s.panel p).listLength)
    (hk : k.val = (startFrom (s.panel p) + j) % (s.panel p).listLength) (hel : Eligible s p (s.listed p k))
    (hbefore : ∀ i (m : Fin 32), i < j → m.val = (startFrom (s.panel p) + i) % (s.panel p).listLength →
      ¬ Eligible s p (s.listed p m)) :
    startPanel p s = s.setPanel p { s.panel p with
      state := .rotating, position := k, shown := some (s.listed p k), count := 0
      showing := (s.panel p).showing + 1 } := by
  have hfound := search_found (s := s.rotated p) (p := p) (first := startFrom (s.panel p)) (j := j) (k := k)
    (by simpa using hn) (by simpa using hj) (by simpa using hk) ((eligible_rotated s p _).2 hel)
    (fun i m hi hm hel => hbefore i m hi (by simpa using hm) ((eligible_rotated s p _).1 hel))
  rw [startPanel_eq, hfound, panel_setPanel_self, panel_rotated, setPanel_setPanel, State.rotated, setPanel_setPanel]
  rfl

theorem startMoment_eq (e : Fin 128) (frames : Nat) (s : State) :
    startMoment p e frames s = s.setPanel p (forcedPanel e frames (s.panel p)) := by
  unfold startMoment forcedPanel
  dsimp only
  split <;> rfl

end

section
variable {h : Header} {s : State} {panel : Byte} {p : Fin 8}

theorem takePanelStart_refused (hp : panel.toNat = p.val) (hs : (s.panel p).state ≠ .stopped) :
    takePanelStart h panel s = s.refuse 0x60 .sponsor h .state := by
  simp only [takePanelStart, hp, index_val, if_neg hs, acknowledge_refuse]

theorem takePanelStart_start (hp : panel.toNat = p.val) (hs : (s.panel p).state = .stopped) :
    takePanelStart h panel s = acknowledge 0x60 .sponsor h s (panelReply p false (startPanel p s)) := by
  simp only [takePanelStart, hp, index_val, if_pos hs]

theorem takePanelStop_stop (hp : panel.toNat = p.val) : takePanelStop h panel s =
    acknowledge 0x61 .sponsor h s (panelReply p false (s.setPanel p (panelStopped (s.panel p)))) := by
  simp only [takePanelStop, hp, index_val, halt_eq]

theorem takePanelHold_hold (hp : panel.toNat = p.val) (hs : (s.panel p).state = .rotating) : takePanelHold h panel s =
    acknowledge 0x62 .sponsor h s (panelReply p false (s.setPanel p { s.panel p with state := .held })) := by
  simp only [takePanelHold, hp, index_val, hs]

theorem takePanelHold_resume (hp : panel.toNat = p.val) (hs : (s.panel p).state = .held) : takePanelHold h panel s =
    acknowledge 0x62 .sponsor h s (panelReply p false (s.setPanel p { s.panel p with state := .rotating })) := by
  simp only [takePanelHold, hp, index_val, hs]

theorem takePanelHold_refused (hp : panel.toNat = p.val) (hs : (s.panel p).state = .stopped ∨ (s.panel p).state = .moment) :
    takePanelHold h panel s = s.refuse 0x62 .sponsor h .state := by
  obtain hs | hs := hs <;> simp only [takePanelHold, hp, index_val, hs, acknowledge_refuse]

theorem takePanelForce_range {entry : Byte} {frames : BitVec 16} (hr : 7 < panel.toNat ∨ 127 < entry.toNat) :
    takePanelForce h panel entry frames s = s.refuse 0x63 .sponsor h .range := by
  unfold takePanelForce
  split
  next hp he =>
    obtain hr | hr := hr
    · exact absurd (hp.symm.trans (index_none hr)) nofun
    · exact absurd (he.symm.trans (index_none hr)) nofun
  · exact acknowledge_refuse ..

theorem takePanelForce_force {entry : Byte} {e : Fin 128} {frames : BitVec 16} (hp : panel.toNat = p.val)
    (he : entry.toNat = e.val) : takePanelForce h panel entry frames s =
      acknowledge 0x63 .sponsor h s (panelReply p (decide (frames = 0))
        (s.setPanel p (forcedPanel e (max 1 frames.toNat) (s.panel p)))) := by
  have hclamp : (max 1 frames.toNat != frames.toNat) = decide (frames = 0) :=
    bne_eq_decide (by rw [← BitVec.toNat_inj]; show _ ↔ frames.toNat = 0; omega)
  simp only [takePanelForce, hp, he, index_val, hclamp, startMoment_eq]

end

/-- Settles O48: each command by the state of the panel. -/
theorem panelCommands : Obligations.PanelCommands := by
  intro h panel entry frames s hrun
  have htakes {c : Instr} {t : State} (hc : IsHostCommand c) (hwf : c.wellFormed = true) (ht : takeCommand c s = t) :
      exec c s = .next t := exec_takes hc hwf hrun ht
  refine ⟨fun p k e he => ?_, fun hp => ⟨htakes rfl rfl ?_, htakes rfl rfl ?_, htakes rfl rfl ?_⟩,
    fun hr => htakes rfl rfl (takePanelForce_range hr), fun p hp => ⟨fun hs => htakes rfl rfl (takePanelStart_refused hp hs),
      fun hs hn hnone => htakes rfl rfl ?_, fun j k hs hn hj hk hel hbefore => htakes rfl rfl ?_, htakes rfl rfl ?_,
      fun hs => htakes rfl rfl ?_, fun hs => htakes rfl rfl ?_, fun hs => htakes rfl rfl (takePanelHold_refused hp hs),
      fun e he => htakes rfl rfl ?_⟩⟩
  · rw [State.listed]
    exact congrArg s.sponsor.lists.get (Fin.ext ((congrArg (· + k.val) (Nat.mul_comm p.val 32)).trans he.symm))
  · show takePanelStart _ _ _ = _
    rw [takePanelStart, index_none hp, acknowledge_refuse]
  · show takePanelStop _ _ _ = _
    rw [takePanelStop, index_none hp, acknowledge_refuse]
  · show takePanelHold _ _ _ = _
    rw [takePanelHold, index_none hp, acknowledge_refuse]
  · exact (takePanelStart_start hp hs).trans (by rw [startPanel_none hn hnone, acknowledge_panelReply])
  · exact (takePanelStart_start hp hs).trans (by rw [startPanel_found hn hj hk hel hbefore, acknowledge_panelReply])
  · exact (takePanelStop_stop hp).trans (acknowledge_panelReply ..)
  · exact (takePanelHold_hold hp hs).trans (acknowledge_panelReply ..)
  · exact (takePanelHold_resume hp hs).trans (acknowledge_panelReply ..)
  · exact (takePanelForce_force hp he).trans (acknowledge_panelReply ..)

end Sys2Proof.Machine
end

section
/-! SUPPORT. The message unit: the store, the test of the hold state, and the commands QUEUE_CONFIG to MSG_WITHDRAW (R183 to
R189, R196). -/

namespace Sys2Proof

/-- A search that gives the first answer of a finite range. -/
theorem findSome_finRange {α : Type} {n : Nat} {f : Fin n → Option α} {x : α} :
    (List.finRange n).findSome? f = some x ↔ ∃ i, f i = some x ∧ ∀ j, j < i → f j = none := by
  rw [List.findSome?_eq_some_iff]
  constructor
  · rintro ⟨l, i, r, hsplit, hi, hnone⟩
    refine ⟨i, hi, fun j hj => hnone j ?_⟩
    have hsorted : (l ++ i :: r).Pairwise (· < ·) := hsplit ▸ List.pairwise_lt_finRange n
    have hmem : j ∈ l ++ i :: r := hsplit ▸ List.mem_finRange j
    obtain hl | hr := List.mem_append.1 hmem
    · exact hl
    · have htail := (List.pairwise_append.1 hsorted).2.1
      obtain rfl | hr := List.mem_cons.1 hr
      · exact absurd hj (lt_irrefl _)
      · exact absurd hj (not_lt_of_gt (List.rel_of_pairwise_cons htail hr))
  · rintro ⟨i, hi, hnone⟩
    obtain ⟨l, r, hsplit⟩ := List.append_of_mem (List.mem_finRange i)
    refine ⟨l, i, r, hsplit, hi, fun j hj => hnone j ?_⟩
    have hsorted : (l ++ i :: r).Pairwise (· < ·) := hsplit ▸ List.pairwise_lt_finRange n
    exact (List.pairwise_append.1 hsorted).2.2 j hj i (List.mem_cons_self ..)

namespace Machine

theorem msgClass_none {n : Nat} (h : 2 < n) : msgClass? n = none :=
  readsNumbers_none (readsNumbers_three (read := msgClass?) rfl rfl rfl fun _ => rfl) h

/-! ## The store -/

section
variable {u : MessageUnit} {id : BitVec 16}

theorem occupancy_eq (u : MessageUnit) :
    u.occupancy = ((List.finRange 64).filter fun i => u.store.get i ≠ none).length := by
  rw [MessageUnit.occupancy, list_eq_map, List.countP_map, List.countP_eq_length_filter]
  congr 1
  refine List.filter_congr fun i _ => ?_
  cases h : u.store.get i <;> simp [h]

/-- What the search for an id tests at a place. -/
theorem find_test {i : Fin 64} {x : Fin 64 × Message} : (match u.store.get i with
      | some m => if m.id = id then some (i, m) else none
      | none => none) = some x ↔ ∃ m, u.store.get i = some m ∧ m.id = id ∧ x = (i, m) := by
  cases h : u.store.get i with
  | none => simp
  | some m => by_cases hid : m.id = id <;> simp [hid, eq_comm (a := x)]

theorem find_eq_some {i : Fin 64} {m : Message} : u.find id = some (i, m) ↔
    u.store.get i = some m ∧ m.id = id ∧ ∀ j n, j < i → u.store.get j = some n → n.id ≠ id := by
  unfold MessageUnit.find
  rw [findSome_finRange]
  constructor
  · rintro ⟨j, hj, hbefore⟩
    obtain ⟨n, hn, hid, heq⟩ := find_test.1 hj
    obtain ⟨rfl, rfl⟩ := Prod.mk.inj heq
    refine ⟨hn, hid, fun k x hk hx hxid => ?_⟩
    exact absurd ((hbefore k hk).symm.trans (find_test.2 ⟨x, hx, hxid, rfl⟩)) nofun
  · rintro ⟨hm, hid, hbefore⟩
    refine ⟨i, find_test.2 ⟨m, hm, hid, rfl⟩, fun j hj => Option.eq_none_iff_forall_ne_some.2 fun x hx => ?_⟩
    obtain ⟨n, hn, hnid, -⟩ := find_test.1 hx
    exact hbefore j n hj hn hnid

theorem find_eq_none : u.find id = none ↔ ∀ i m, u.store.get i = some m → m.id ≠ id := by
  unfold MessageUnit.find
  rw [List.findSome?_eq_none_iff]
  constructor
  · intro h i m hm hid
    exact absurd ((h i (List.mem_finRange i)).symm.trans (find_test.2 ⟨m, hm, hid, rfl⟩)) nofun
  · intro h i _
    refine Option.eq_none_iff_forall_ne_some.2 fun x hx => ?_
    obtain ⟨n, hn, hnid, -⟩ := find_test.1 hx
    exact h i n hn hnid

theorem emptyPlace_eq_some {i : Fin 64} :
    u.emptyPlace = some i ↔ u.store.get i = none ∧ ∀ j, j < i → u.store.get j ≠ none := by
  unfold MessageUnit.emptyPlace
  rw [find_finRange, Option.isNone_iff_eq_none]
  refine and_congr_right fun _ => forall₂_congr fun j _ => ?_
  rw [Option.isNone_eq_false_iff, Option.isSome_iff_ne_none]

theorem emptyPlace_eq_none : u.emptyPlace = none ↔ ∀ i, u.store.get i ≠ none := by
  unfold MessageUnit.emptyPlace
  rw [find_finRange_none]
  refine forall_congr' fun j => ?_
  rw [Option.isNone_eq_false_iff, Option.isSome_iff_ne_none]

theorem update_eq {i : Fin 64} {m : Message} (f : Message → Message) (h : u.store.get i = some m) :
    u.update i f = { u with store := u.store.set i (some (f m)) } := by
  rw [MessageUnit.update, Tab.modify, h]
  rfl

end

/-! ## The hold state -/

theorem qhold_iff (s : State) : s.qhold = true ↔ s.message.hold ≠ none := Option.isSome_iff_ne_none

/-- R196, R198: the notice of the hold state. -/
theorem postQueueHold_eq (tag : BitVec 16) (seconds : Nat) (s : State) : postQueueHold tag seconds s =
    s.offer [s.report .message tag .queueHold 0 (leBytes 2 seconds ++ leBytes 2 s.message.occupancy)] :=
  post_eq_offer ..

/-- A RELEASED store at its high mark or above goes to HOLDING. -/
theorem testHold_released (tag : BitVec 16) {s : State} (h : s.message.hold = none) : testHold tag s =
    if s.message.config.high ≤ s.message.occupancy then
      (s.withMessage { s.message with
        hold := some ((s.message.config.holdTime - s.message.config.margin) * 1000) }).offer
        [s.report .message tag .queueHold 0 (leBytes 2 s.message.config.holdTime ++ leBytes 2 s.message.occupancy)]
    else s := by
  simp only [testHold, h, postQueueHold_eq]
  rfl

/-- A HOLDING store at its low mark or below is RELEASED. -/
theorem testHold_holding (tag : BitVec 16) {s : State} (h : s.message.hold ≠ none) : testHold tag s =
    if s.message.occupancy ≤ s.message.config.low then
      (s.withMessage { s.message with hold := none }).offer (if s.message.config.finalNotice = true then
        [s.report .message tag .queueHold 0 ([0, 0] ++ leBytes 2 s.message.occupancy)] else [])
    else s := by
  obtain ⟨t, ht⟩ := Option.ne_none_iff_exists'.1 h
  simp only [testHold, ht, postQueueHold_eq]
  refine if_congr Iff.rfl ?_ rfl
  split <;> rfl

theorem testHold_eq (tag : BitVec 16) (s : State) : testHold tag s = holdTested tag s := by
  unfold holdTested
  dsimp only
  by_cases h : s.message.hold = none
  · rw [testHold_released tag h, if_neg (fun h' : s.message.hold ≠ none ∧ _ => h'.1 h)]
    exact if_congr (and_iff_right h).symm rfl rfl
  · rw [testHold_holding tag h, if_neg (fun h' : s.message.hold = none ∧ _ => h h'.1)]
    exact if_congr (and_iff_right h).symm rfl rfl

/-- R196: the hold state after its test. -/
theorem holdTested_hold (tag : BitVec 16) (s : State) : (holdTested tag s).message.hold =
    if s.message.hold = none then
      if s.message.config.high ≤ s.message.occupancy then
        some ((s.message.config.holdTime - s.message.config.margin) * 1000)
      else none
    else if s.message.occupancy ≤ s.message.config.low then none else s.message.hold := by
  unfold holdTested
  dsimp only
  by_cases hnone : s.message.hold = none
  · by_cases hhigh : s.message.config.high ≤ s.message.occupancy
    · rw [if_pos ⟨hnone, hhigh⟩, if_pos hnone, if_pos hhigh, offer_message]
      rfl
    · rw [if_neg (fun h => hhigh h.2), if_neg (fun h => h.1 hnone), if_pos hnone, if_neg hhigh, hnone]
  · rw [if_neg (fun h => hnone h.1), if_neg hnone]
    by_cases hlow : s.message.occupancy ≤ s.message.config.low
    · rw [if_pos ⟨hnone, hlow⟩, if_pos hlow, offer_message]
      rfl
    · rw [if_neg (fun h => hlow h.2), if_neg hlow]

theorem removeWith_eq (tag : BitVec 16) (i : Fin 64) {post : State → State} {r : Report} {s : State}
    (h : post (messageRemoved i s) = (messageRemoved i s).offer [r]) :
    removeWith tag i post s = holdTested tag ((messageRemoved i s).offer [r]) := by
  rw [removeWith, testHold_eq, ← h]
  rfl

/-! ## QUEUE_CONFIG and MSG_OPEN -/

section
variable {h : Header} {s : State}

theorem takeQueueConfig_unknown {paceZone final : Byte} {width speed gap scale high low holdTime margin : BitVec 16}
    (hf : 1 < final.toNat) : takeQueueConfig h paceZone width speed gap scale high low holdTime margin final s =
      s.refuse 0x70 .message h .unknown := by
  rw [takeQueueConfig, yesNo_none hf, acknowledge_refuse]

theorem takeQueueConfig_range {paceZone final : Byte} {width speed gap scale high low holdTime margin : BitVec 16}
    (hf : final.toNat ≤ 1) (hz : 3 < paceZone.toNat) :
    takeQueueConfig h paceZone width speed gap scale high low holdTime margin final s =
      s.refuse 0x70 .message h .range := by
  simp only [takeQueueConfig, yesNo_byte hf, index_none hz, acknowledge_refuse]

/-- R183: each field brought into its range. -/
def configFrom (z : Fin 4) (final : Byte) (width speed gap scale high low holdTime margin : BitVec 16) : QueueConfig :=
  { paceZone := z, width := max 16 (min 16384 width.toNat), speed := max 1 (min 16 speed.toNat), gap := min 4095 gap.toNat
    scale := max 1 (min 8 scale.toNat), high := max 1 (min 64 high.toNat)
    low := min (max 1 (min 64 high.toNat) - 1) low.toNat, holdTime := max 2 (min 600 holdTime.toNat)
    margin := min (max 2 (min 600 holdTime.toNat) - 1) margin.toNat, finalNotice := decide (final = 1) }

theorem takeQueueConfig_config {paceZone final : Byte} {width speed gap scale high low holdTime margin : BitVec 16} {z : Fin 4}
    (hf : final.toNat ≤ 1) (hz : paceZone.toNat = z.val) :
    let config := configFrom z final width speed gap scale high low holdTime margin
    takeQueueConfig h paceZone width speed gap scale high low holdTime margin final s =
      (holdTested h.tag (s.withMessage { s.message with config := config })).done 0x70 .message h
        (decide (¬ (config.width = width.toNat ∧ config.speed = speed.toNat ∧ config.gap = gap.toNat ∧
          config.scale = scale.toNat ∧ config.high = high.toNat ∧ config.low = low.toNat ∧
          config.holdTime = holdTime.toNat ∧ config.margin = margin.toNat))) [] := by
  simp only [takeQueueConfig, yesNo_byte hf, hz, index_val, acknowledge_ack, testHold_eq]
  refine congrArg (State.done _ 0x70 .message h · []) (bne_eq_decide (not_congr ?_))
  simp only [QueueConfig.mk.injEq, true_and, and_true]
  rfl

/-- Under a configuration whose low mark is below the high one, the state stands on its side of the marks after the test. -/
theorem holdTested_qhold (tag : BitVec 16) (hmarks : s.message.config.low < s.message.config.high) :
    (holdTested tag s).message.hold ≠ none ↔ s.message.config.high ≤ s.message.occupancy ∨
      (s.message.hold ≠ none ∧ s.message.config.low < s.message.occupancy) := by
  rw [holdTested_hold]
  by_cases hnone : s.message.hold = none
  · simp [hnone]
  · by_cases hlow : s.message.occupancy ≤ s.message.config.low
    · simp [hnone, hlow]
      omega
    · simp [hnone, hlow]
      omega

theorem index_eq_some {n v : Nat} {k : Fin n} (h : index? n v = some k) : v = k.val := by
  unfold index? at h
  split at h
  · cases h
    rfl
  · exact absurd h nofun

theorem index_eq_none {n v : Nat} (h : index? n v = none) : n ≤ v :=
  Nat.le_of_not_lt fun hlt => absurd ((index_val ⟨v, hlt⟩).symm.trans h) nofun

theorem takeMsgOpen_unknown {id : BitVec 16} {cls colour sponsor : Byte} {length repeats lifetime : BitVec 16}
    (hc : 2 < cls.toNat) : takeMsgOpen h id cls length repeats lifetime colour sponsor s =
      s.refuse 0x71 .message h .unknown := by
  rw [takeMsgOpen, msgClass_none hc, acknowledge_refuse]

end

section
variable {h : Header} {s : State} {id : BitVec 16} {cls colour sponsor : Byte} {length repeats lifetime : BitVec 16} {c : MsgClass}

theorem takeMsgOpen_range (hc : msgClass? cls.toNat = some c) (hbad : (16 ≤ colour.toNat ∧ colour.toNat ≤ 254) ∨
    (128 ≤ sponsor.toNat ∧ sponsor.toNat ≤ 254)) :
    takeMsgOpen h id cls length repeats lifetime colour sponsor s = s.refuse 0x71 .message h .range := by
  simp only [takeMsgOpen, hc, if_pos hbad, acknowledge_refuse]

theorem find_absent (h : ¬ ∃ i m, s.message.store.get i = some m ∧ m.id = id) : s.message.find id = none :=
  find_eq_none.2 fun i m hm hid => h ⟨i, m, hm, hid⟩

theorem takeMsgOpen_duplicate (hc : msgClass? cls.toNat = some c)
    (hgood : ¬ ((16 ≤ colour.toNat ∧ colour.toNat ≤ 254) ∨ (128 ≤ sponsor.toNat ∧ sponsor.toNat ≤ 254)))
    (hpresent : ∃ i m, s.message.store.get i = some m ∧ m.id = id) :
    takeMsgOpen h id cls length repeats lifetime colour sponsor s = s.refuse 0x71 .message h .duplicate := by
  have hfound : (s.message.find id).isSome = true := Option.isSome_iff_ne_none.2 fun hnone => by
    obtain ⟨i, m, hm, hid⟩ := hpresent
    exact find_eq_none.1 hnone i m hm hid
  simp only [takeMsgOpen, hc, if_neg hgood, if_pos hfound, acknowledge_refuse]

theorem takeMsgOpen_full (hc : msgClass? cls.toNat = some c)
    (hgood : ¬ ((16 ≤ colour.toNat ∧ colour.toNat ≤ 254) ∨ (128 ≤ sponsor.toNat ∧ sponsor.toNat ≤ 254)))
    (habsent : ¬ ∃ i m, s.message.store.get i = some m ∧ m.id = id) (hfull : ∀ i, s.message.store.get i ≠ none) :
    takeMsgOpen h id cls length repeats lifetime colour sponsor s = s.refuse 0x71 .message h .full := by
  simp only [takeMsgOpen, hc, if_neg hgood, find_absent habsent, Option.isSome_none, Bool.false_eq_true, if_false,
    emptyPlace_eq_none.2 hfull, acknowledge_refuse]

/-- R186: the new message at the lowest empty place. -/
theorem takeMsgOpen_open {i : Fin 64} (hc : msgClass? cls.toNat = some c)
    (hgood : ¬ ((16 ≤ colour.toNat ∧ colour.toNat ≤ 254) ∨ (128 ≤ sponsor.toNat ∧ sponsor.toNat ≤ 254)))
    (habsent : ¬ ∃ i m, s.message.store.get i = some m ∧ m.id = id) (hi : s.message.store.get i = none)
    (hlower : ∀ j, j < i → s.message.store.get j ≠ none) :
    let l := max 1 (min 160 length.toNat)
    let r := max 1 (min 15 repeats.toNat)
    let t := max 1 (min 3600 lifetime.toNat)
    takeMsgOpen h id cls length repeats lifetime colour sponsor s = (holdTested h.tag (s.withMessage { s.message with
      store := s.message.store.set i (some (newMessage id c l r t (index? 16 colour.toNat) (index? 128 sponsor.toNat)
        s.timing.uptime)) })).done 0x71 .message h
      (decide (¬ (l = length.toNat ∧ r = repeats.toNat ∧ t = lifetime.toNat))) (leBytes 1 i.val) := by
  simp only [takeMsgOpen, hc, if_neg hgood, find_absent habsent, Option.isSome_none, Bool.false_eq_true, if_false,
    emptyPlace_eq_some.2 ⟨hi, hlower⟩, acknowledge_done, testHold_eq, bne_or_bne_or_bne]
  rfl

end

/-- An optional index operand that is none beyond the indices is all ones. -/
theorem index_absent {n : Nat} {b : Byte} (h : index? n b.toNat = none) (hgood : ¬ (n ≤ b.toNat ∧ b.toNat ≤ 254)) :
    b = 255 := by
  have hle := index_eq_none h
  exact BitVec.eq_of_toNat_eq (show b.toNat = 255 by omega)

/-- Settles O49: each refusal, and the test of the hold state behind what is accepted. -/
theorem queueConfigAndOpen : Obligations.QueueConfigAndOpen := by
  intro h paceZone final cls colour sponsor width speed gap scale high low holdTime margin id length repeats lifetime s hrun
  have htakes {c : Instr} {t : State} (hc : IsHostCommand c) (hwf : c.wellFormed = true) (ht : takeCommand c s = t) :
      exec c s = .next t := exec_takes hc hwf hrun ht
  refine ⟨occupancy_eq, qhold_iff, fun hf => htakes rfl rfl (takeQueueConfig_unknown hf),
    fun hf hz => htakes rfl rfl (takeQueueConfig_range hf hz), fun z hf hz => ?config,
    fun hc => htakes rfl rfl (takeMsgOpen_unknown hc), fun c hc => ⟨fun hbad => htakes rfl rfl (takeMsgOpen_range hc hbad),
      fun hgood hpresent => htakes rfl rfl (takeMsgOpen_duplicate hc hgood hpresent),
      fun hgood habsent hfull => htakes rfl rfl (takeMsgOpen_full hc hgood habsent hfull),
      fun i hgood habsent hi hlower => ?opened⟩⟩
  case config =>
    have hexec := htakes (c := .queueConfig h paceZone width speed gap scale high low holdTime margin final) rfl rfl
      (takeQueueConfig_config hf hz)
    refine ⟨hexec, fun t ht => ?_⟩
    obtain rfl := Host.Outcome.next.inj (hexec.symm.trans ht)
    rw [qhold_iff, qhold_iff, State.done, offer_message]
    refine holdTested_qhold (s := s.withMessage
      { s.message with config := configFrom z final width speed gap scale high low holdTime margin }) h.tag ?_
    show min (max 1 (min 64 high.toNat) - 1) low.toNat < max 1 (min 64 high.toNat)
    omega
  case opened =>
    obtain ⟨hcolour, hsponsor⟩ := not_or.1 hgood
    refine ⟨index? 16 colour.toNat, index? 128 sponsor.toNat, fun k => index_eq_some, fun hnone => index_absent hnone hcolour,
      fun e => index_eq_some, fun hnone => index_absent hnone hsponsor, htakes rfl rfl ?_⟩
    refine (takeMsgOpen_open hc hgood habsent hi hlower).trans ?_
    rw [newMessage, Nat.mul_comm]

/-! ## MSG_TEXT, MSG_POST and MSG_WITHDRAW -/

section
variable {h : Header} {s : State} {id offset : BitVec 16} {count : Byte} {codes : List Byte}

theorem takeMsgText_bad (hbad : ∃ b ∈ codes.take count.toNat, 128 ≤ b.toNat) :
    takeMsgText h id offset count codes s = s.refuse 0x72 .message h .range := by
  rw [takeMsgText, readCodes_none hbad, acknowledge_refuse]

/-- The codes of MSG_TEXT are read before the message is searched for. -/
theorem readCodes_good (hgood : ¬ ∃ b ∈ codes.take count.toNat, 128 ≤ b.toNat) :
    ∃ text, readCodes (codes.take count.toNat) = some text ∧
      text.map Fin.val = (codes.take count.toNat).map BitVec.toNat :=
  readCodes_text fun b hb => Nat.lt_of_not_le fun hle => hgood ⟨b, hb, hle⟩

theorem takeMsgText_absent (hgood : ¬ ∃ b ∈ codes.take count.toNat, 128 ≤ b.toNat) (hnone : s.message.find id = none) :
    takeMsgText h id offset count codes s = s.refuse 0x72 .message h .absent := by
  obtain ⟨text, hread, -⟩ := readCodes_good hgood
  simp only [takeMsgText, hread, hnone, acknowledge_refuse]

theorem takeMsgPost_absent (hnone : s.message.find id = none) :
    takeMsgPost h id s = s.refuse 0x73 .message h .absent := by
  rw [takeMsgPost, hnone, acknowledge_refuse]

theorem takeMsgWithdraw_absent (hnone : s.message.find id = none) :
    takeMsgWithdraw h id s = s.refuse 0x74 .message h .absent := by
  rw [takeMsgWithdraw, hnone, acknowledge_refuse]

variable {i : Fin 64} {m : Message} (hfind : s.message.find id = some (i, m))
include hfind

theorem takeMsgText_state (hgood : ¬ ∃ b ∈ codes.take count.toNat, 128 ≤ b.toNat) (hs : m.state ≠ .assembling) :
    takeMsgText h id offset count codes s = s.refuse 0x72 .message h .state := by
  obtain ⟨text, hread, -⟩ := readCodes_good hgood
  simp only [takeMsgText, hread, hfind, if_pos hs, acknowledge_refuse]

theorem takeMsgPost_state (hs : m.state ≠ .assembling) : takeMsgPost h id s = s.refuse 0x73 .message h .state := by
  simp only [takeMsgPost, hfind, if_pos hs, acknowledge_refuse]

theorem takeMsgText_range (hgood : ¬ ∃ b ∈ codes.take count.toNat, 128 ≤ b.toNat) (hs : m.state = .assembling)
    (hfits : ¬ (1 ≤ count.toNat ∧ count.toNat ≤ 20 ∧ offset.toNat + count.toNat ≤ m.length)) :
    takeMsgText h id offset count codes s = s.refuse 0x72 .message h .range := by
  obtain ⟨text, hread, -⟩ := readCodes_good hgood
  have hbad : count.toNat = 0 ∨ 20 < count.toNat ∨ m.length < offset.toNat + count.toNat := by omega
  simp only [takeMsgText, hread, hfind, if_neg (not_not.2 hs), if_pos hbad, acknowledge_refuse]

/-- R187: the codes stand in the text from their offset on. -/
theorem takeMsgText_text (hlength : codes.length = 23) (hgood : ¬ ∃ b ∈ codes.take count.toNat, 128 ≤ b.toNat)
    (hs : m.state = .assembling)
    (hfits : 1 ≤ count.toNat ∧ count.toNat ≤ 20 ∧ offset.toNat + count.toNat ≤ m.length) :
    ∃ text : Tab Code 160, takeMsgText h id offset count codes s =
      (s.withMessage { s.message with store := s.message.store.set i (some { m with text := text }) }).done
        0x72 .message h false [] ∧
      ∀ k : Fin 160, (text.get k).val = if offset.toNat ≤ k.val ∧ k.val < offset.toNat + count.toNat then
        fieldAt 1 codes (k.val - offset.toNat) else (m.text.get k).val := by
  obtain ⟨text, hread, hval⟩ := readCodes_good hgood
  have hok : ¬ (count.toNat = 0 ∨ 20 < count.toNat ∨ m.length < offset.toNat + count.toNat) := by omega
  refine ⟨writeCodes m.text offset.toNat text, ?_, writeCodes_read _ _ (by omega) hval⟩
  simp only [takeMsgText, hread, hfind, if_neg (not_not.2 hs), if_neg hok, acknowledge_ok,
    update_eq _ (find_eq_some.1 hfind).1]

/-- R188: the message at the tail of its class queue. -/
theorem takeMsgPost_post (hs : m.state = .assembling) : takeMsgPost h id s =
    (s.withMessage { s.message.setQueue m.cls (s.message.queue m.cls ++ [i]) with
      store := s.message.store.set i (some { m with state := .queued, order := s.message.orderCounter + 1 })
      orderCounter := s.message.orderCounter + 1 }).done 0x73 .message h false
      (bytesOf 4 (s.message.orderCounter + 1)) := by
  have hstore : ∀ q, (s.message.setQueue m.cls q).store = s.message.store := fun q => by cases m.cls <;> rfl
  simp only [takeMsgPost, hfind, if_neg (not_not.2 hs), acknowledge_done, MessageUnit.join, hstore]

/-- R189: a message not on the crawl is removed at once. -/
theorem takeMsgWithdraw_now (hs : m.state = .assembling ∨ m.state = .queued) : takeMsgWithdraw h id s =
    (holdTested h.tag ((messageRemoved i s).offer [s.report .message h.tag .withdrawn m.id.toNat
      (leBytes 1 m.cls.number ++ leBytes 1 m.state.number ++ [0])])).done 0x74 .message h false [0] := by
  have hremoved : removeWith h.tag i (postWithdrawn h.tag 0 m) s = holdTested h.tag ((messageRemoved i s).offer
      [s.report .message h.tag .withdrawn m.id.toNat (leBytes 1 m.cls.number ++ leBytes 1 m.state.number ++ [0])]) :=
    removeWith_eq h.tag i (post_eq_offer ..)
  rw [← hremoved]
  unfold takeMsgWithdraw
  obtain hs | hs := hs <;> simp only [hfind, hs, acknowledge_done] <;> rfl

theorem takeMsgWithdraw_refused (hs : m.state = .lead ∨ m.state = .follow) (hw : m.withdrawing = true) :
    takeMsgWithdraw h id s = s.refuse 0x74 .message h .state := by
  unfold takeMsgWithdraw
  obtain hs | hs := hs <;> simp only [hfind, hs, if_pos hw, acknowledge_refuse]

/-- R189: a message on the crawl is marked. -/
theorem takeMsgWithdraw_mark (hs : m.state = .lead ∨ m.state = .follow) (hw : m.withdrawing = false) :
    takeMsgWithdraw h id s = (s.withMessage { s.message with
      store := s.message.store.set i (some { m with withdrawing := true }) }).done 0x74 .message h false [1] := by
  unfold takeMsgWithdraw
  obtain hs | hs := hs <;>
  · simp only [hfind, hs, hw, Bool.false_eq_true, if_false, acknowledge_done, update_eq _ (find_eq_some.1 hfind).1]
    rfl

end

/-- Settles O50: each command by what the search finds and the state of the message. -/
theorem textPostWithdraw : Obligations.TextPostWithdraw := by
  intro h id offset count codes s hrun
  have htakes {c : Instr} {t : State} (hc : IsHostCommand c) (hwf : c.wellFormed = true) (ht : takeCommand c s = t) :
      exec c s = .next t := exec_takes hc hwf hrun ht
  have htext {t : State} (hlength : codes.length = 23) (ht : takeMsgText h id offset count codes s = t) :
      exec (.msgText h id offset count codes) s = .next t := htakes rfl (beq_iff_eq.2 hlength) ht
  refine ⟨fun hlength => ?illFormed, fun hlength hbad => htext hlength (takeMsgText_bad hbad), fun habsent => ?absent,
    fun i m hm hid hbefore => ?found⟩
  case illFormed => exact if_neg fun hwf => hlength (beq_iff_eq.1 hwf)
  case absent =>
    have hnone := find_eq_none.2 habsent
    exact ⟨fun hlength hgood => htext hlength (takeMsgText_absent hgood hnone), htakes rfl rfl (takeMsgPost_absent hnone),
      htakes rfl rfl (takeMsgWithdraw_absent hnone)⟩
  case found =>
    have hfind := find_eq_some.2 ⟨hm, hid, hbefore⟩
    refine ⟨fun hs => ⟨fun hlength hgood => htext hlength (takeMsgText_state hfind hgood hs),
        htakes rfl rfl (takeMsgPost_state hfind hs)⟩,
      fun hs => ⟨fun hlength hgood hfits => htext hlength (takeMsgText_range hfind hgood hs hfits),
        fun hlength hgood hfits => ?_, htakes rfl rfl (takeMsgPost_post hfind hs)⟩,
      fun hs => htakes rfl rfl (takeMsgWithdraw_now hfind hs),
      fun hs hw => htakes rfl rfl (takeMsgWithdraw_refused hfind hs hw),
      fun hs hw => htakes rfl rfl (takeMsgWithdraw_mark hfind hs hw)⟩
    obtain ⟨text, htaken, hval⟩ := takeMsgText_text (h := h) hfind hlength hgood hs hfits
    exact ⟨text, htext hlength htaken, hval⟩

end Machine
end Sys2Proof
end

section
/-! SUPPORT. What the moves of a step make of capture: one operation of chapter 7 each, so that a property of capture that
these operations keep holds on. -/

namespace Sys2Proof.Machine

/-- A slot changed in its copies and coverage alone: its hold, its links and its place in the chain stay. -/
structure Slot.Alike (t u : Slot) : Prop where
  held : u.held = t.held
  next : u.next = t.next
  previous : u.previous = t.previous
  empty : u.state = .empty ↔ t.state = .empty
  writing : u.state = .writing ↔ t.state = .writing

theorem Slot.Alike.of_same {t u : Slot} (held : u.held = t.held) (next : u.next = t.next) (previous : u.previous = t.previous)
    (state : u.state = t.state) : t.Alike u :=
  ⟨held, next, previous, by rw [state], by rw [state]⟩

/-- The operations of chapter 7 keep `P`. -/
structure Capture.Kept (P : Capture → Prop) : Prop where
  initial : P Capture.initial
  clips : ∀ {c : Capture} (x : Tab Clip 32), P c → P { c with clips := x }
  touched : ∀ {c : Capture} (k : Fin 1024) {f : Slot → Slot}, (∀ t, Slot.Alike t (f t)) → P c → P (c.modifySlot k f)
  turned : ∀ (edge : Edge) {s : State}, P s.capture → P (recordEdge edge s).capture
  stopped : ∀ (tag : BitVec 16) (cause : CloseCause) {s : State}, P s.capture → P (stopRecorder tag cause s).capture
  armed : ∀ {c : Capture}, c.recorder = .off → c.source.armable = true → P c → P { c with recorder := .armed }
  released : ∀ {c : Capture}, P c → P c.releasePlayer
  replaced : ∀ {c d : Capture} {l : List (Fin 1024)}, c.replacePlayer l = .ok d → P c → P d
  rolled : ∀ {c : Capture} (n : Nat), c.recorder = .recording → P c → P (c.holdAll (c.preRollSlots n))
  freed : ∀ {c : Capture} (l : List (Fin 1024)), P c → P (c.releaseAll l)
  deposited : ∀ {c : Capture} {e : RecordSource}, c.recorder = .off → e.slotCount ≤ 1024 →
    (e.sameRing c.source = true ∨ c.slots.list.any Slot.pins = false) → P c →
    P { (if e.sameRing c.source then c else c.emptied) with source := e }

section
variable {P : Capture → Prop} (hP : Capture.Kept P)
include hP

/-! ## Bursts and copies -/

theorem Capture.Kept.settled (k : Fin 1024) {c : Capture} (h : P c) : P (c.modifySlot k Slot.settle) := by
  refine hP.touched k (fun t => ⟨rfl, rfl, rfl, ?_, ?_⟩) h <;>
  · simp only [Slot.settle, Verdict.settled]
    split
    next hs => cases t.verdict <;> simp [hs.1]
    next => rfl

theorem Capture.Kept.queueCopy (k : Fin 1024) (b : Burst) {s : State} (h : P s.capture) :
    P (queueCopy k b s).capture := by
  unfold Machine.queueCopy
  split
  · rw [countMirrorDrop, (count_acts (B := [.counters]) (U := UnitId.all) (.refl _ _ _) (.path 2) (UnitId.mem_all _)
      (by decide)).capture (by decide)]
    exact hP.touched k (fun t => .of_same rfl rfl rfl rfl) h
  · exact hP.touched k (fun t => .of_same rfl rfl rfl rfl) h

omit hP in
/-- A burst that is no live write and carries no command leaves capture. -/
theorem acceptBurst_capture {b : Burst} {s : State} (hrecord : ¬ s.TakesRecord b) (hlive : s.classify b ≠ .recordSource) :
    (acceptBurst b s).capture = s.capture := by
  have hforward : Acts [.bus, .counters] [.busPath] s (forwardAsIs b s) := forwardAt_acts (.refl _ _ s) _ b (by decide)
  have hpass : Acts [.bus, .counters] [.busPath] s (passThrough b s) := passThrough_acts (.refl _ _ s) b (by decide)
  unfold acceptBurst
  split
  · exact (count_acts hpass (.path 0) (List.mem_singleton_self _) (by decide)).capture (by decide)
  next hclass =>
    unfold acceptControl
    split
    · exact hpass.capture (by decide)
    next hwrite =>
      unfold acceptControlWrite
      dsimp only
      split
      next hhalf =>
        split
        next hwhole => exact absurd ⟨hclass, hwrite, hhalf, hwhole⟩ hrecord
        next => exact (count_acts hforward (.path 1) (List.mem_singleton_self _) (by decide)).capture (by decide)
      · exact hforward.capture (by decide)
  next hclass => exact absurd hclass hlive
  · exact (acceptZoneRead_acts _ b s).capture (by decide)
  · exact hpass.capture (by decide)

theorem Capture.Kept.acceptBurst (b : Burst) {s : State} (hrecord : ¬ s.TakesRecord b) (h : P s.capture) :
    P (acceptBurst b s).capture := by
  by_cases hlive : s.classify b = .recordSource
  · unfold Machine.acceptBurst
    rw [hlive]
    dsimp only
    unfold acceptLiveWrite
    dsimp only
    split
    · exact h
    next k hk => exact hP.queueCopy k b (hP.touched k (fun t => .of_same rfl rfl rfl rfl) h)
  · rw [acceptBurst_capture hrecord hlive]
    exact h

theorem Capture.Kept.grantMirror {s : State} (h : P s.capture) : P (grantMirror s).capture := by
  unfold Machine.grantMirror
  split
  · exact h
  · exact hP.settled _ h

/-! ## Commands -/

theorem Capture.Kept.depositRecord (o : List Byte) {s : State} (h : P s.capture) :
    P ((depositRecord o s).state s).capture := by
  unfold Machine.depositRecord
  split
  · exact h
  next d hread =>
    dsimp only
    split
    · exact h
    · split
      · exact h
      next hoff =>
        split
        · exact h
        next hfree =>
          refine hP.deposited (not_not.1 hoff) ?_ ?_ h
          · show max 2 (min 1024 d.slotCount) ≤ 1024
            omega
          · rw [Bool.and_eq_true, not_and_or, Bool.not_eq_true', Bool.not_eq_false, Bool.not_eq_true] at hfree
            exact hfree

theorem Capture.Kept.takeDeposit (hd : Header) (o : List Byte) {s : State} (h : P s.capture) :
    P (takeDeposit hd o s).capture := by
  rw [takeDeposit_capture]
  by_cases hb : Block.capture ∈ s.cmd.pointer.blocks
  · cases hp : s.cmd.pointer with
    | record => exact hP.depositRecord o h
    | _ => simp [hp, Pointer.blocks] at hb
  · rw [(depositAt_acts _ o hd.tag s).capture hb]
    exact h

omit hP in
/-- SOFT_RESET of capture: the recorder stops, and the player gives up its holds (R145, R162). -/
theorem softReset_capture (tag : BitVec 16) (s : State) : ∃ t : State, t.capture = s.capture ∧
    (softReset tag s).capture = (stopRecorder tag .softReset t).capture.releasePlayer := by
  refine ⟨softResetRenderer (softResetCompositor tag (softResetZones s)), ?_, ?_⟩
  · rw [softResetRenderer, State.withGlyph_capture, softResetCompositor,
      (reportAlertChange_acts (B := [.comp]) (U := UnitId.all) ((Acts.refl _ _ _).withComp _ (by decide)) tag _
        (UnitId.mem_all _)).capture (by decide)]
    rfl
  · rw [softReset, setPointer, State.withCmd_capture, softResetMessages,
      (testHold_acts (.refl _ _ _) tag).capture (by decide)]
    rfl

theorem Capture.Kept.cue {k : Fin 1024} {n : Nat} {s : State} (h : P s.capture) (reply : State → Reply)
    (hreply : ∀ t, (reply t).state s = t) :
    P (Reply.state s (match cue k n s with
      | .error code => .refuse code
      | .ok t => reply t)).capture := by
  unfold Machine.cue
  split
  · exact h
  next t heq =>
    rw [hreply]
    split at heq
    · cases heq
    next c hc =>
      cases heq
      exact hP.replaced hc h

theorem Capture.Kept.takeCommand (c : Instr) {s : State} (h : P s.capture) (hc : Block.capture ∈ commandBlocks c) :
    P (takeCommand c s).capture := by
  have hack {code : Nat} {unit : UnitId} {hd : Header} {r : Reply} (hr : P (r.state s).capture) :
      P (acknowledge code unit hd s r).capture := by
    rw [acknowledge_capture]
    exact hr
  cases c with
  | deposit hd o => exact hP.takeDeposit hd o h
  | softReset hd =>
    refine hack ?_
    obtain ⟨t, ht, hsoft⟩ := softReset_capture hd.tag s
    rw [Reply.ok, Reply.state, hsoft]
    exact hP.released (hP.stopped _ _ (ht ▸ h))
  | recordArm hd =>
    refine hack ?_
    split
    · exact h
    next hoff =>
      split
      next hready => exact hP.armed (not_not.1 hoff) hready h
      · exact h
  | recordStop hd =>
    refine hack ?_
    split
    · exact h
    · exact hP.stopped _ _ h
  | clipIn hd tag n =>
    refine hack ?_
    dsimp only
    split
    · exact h
    · split
      · exact h
      next hrec =>
        split
        · exact h
        · exact hP.clips _ (hP.rolled _ (not_not.1 hrec) h)
  | clipOut hd =>
    refine hack ?_
    split
    · exact h
    · exact hP.clips _ h
  | clipFree hd clip =>
    refine hack ?_
    split
    · exact h
    · dsimp only
      split
      · exact h
      · exact hP.clips _ (hP.freed _ h)
  | playerConfig hd z m k p =>
    refine hack ?_
    split
    · split
      · exact h
      · exact h
    · exact h
  | cueClip hd clip =>
    refine hack ?_
    split
    · exact h
    · dsimp only
      split
      · exact h
      · split
        · exact h
        · split
          · exact h
          · exact hP.cue h (playerReply false) fun _ => rfl
  | cueRange hd f n =>
    refine hack ?_
    split
    · exact h
    · split
      · exact hP.cue h (playerReply _) fun _ => rfl
      · exact h
  | cueClock hd v n =>
    refine hack ?_
    dsimp only
    split
    · exact h
    · exact hP.cue h (fun t => .done t _ _ false) fun _ => rfl
  | play hd =>
    refine hack ?_
    dsimp only
    split <;> exact h
  | pause hd =>
    refine hack ?_
    split <;> exact h
  | step hd =>
    refine hack ?_
    split <;> exact h
  | rate hd r => exact hack h
  | stop hd => exact hack (hP.released h)
  | _ => simp [commandBlocks] at hc

/-! ## Moves -/

theorem Capture.Kept.run {m : Move} {s : State} (hm : m.Arises s) (h : P s.capture) : P (m.run s).capture := by
  by_cases hb : Block.capture ∈ m.blocks
  · cases m with
    | assert => exact hP.initial
    | command c => exact hP.takeCommand c h hb
    | accept b => exact hP.acceptBurst b hm.2 h
    | grantMirror => exact hP.grantMirror h
    | recordEdge edge => exact hP.turned edge h
    | _ => simp [Move.blocks, zoneBlocks, pulseBlocks] at hb
  · have hsame : (m.run s).capture = s.capture := Move.run_same hm hb
    rw [hsame]
    exact h

theorem Capture.Kept.step {s t : State} (hst : step s = .next t) (h : P s.capture) : P t.capture :=
  step_keeps (P := fun s => P s.capture) (fun _ _ hm h => hP.run hm h) hst h

end

end Sys2Proof.Machine
end

section
/-! SUPPORT. The law of holds (R138) through every operation of capture: the held slots as a set, which an operation keeps,
shrinks or enlarges by what the law leaves room for. -/

namespace Sys2Proof.Machine

/-! ## Held slots -/

/-- The held slots. -/
def Capture.heldSlots (c : Capture) : Finset (Fin 1024) := Finset.univ.filter fun k => (c.slots.get k).held = true

@[simp] theorem mem_heldSlots {c : Capture} {k : Fin 1024} : k ∈ c.heldSlots ↔ (c.slots.get k).held = true := by
  simp [Capture.heldSlots]

/-- The entries of a table that meet a condition are as many as their places. -/
theorem countP_list {α : Type} {n : Nat} (t : Tab α n) (p : α → Bool) :
    t.list.countP p = (Finset.univ.filter fun i => p (t.get i) = true).card := by
  rw [list_eq_map, List.countP_map, List.countP_eq_length_filter, ← List.toFinset_card_of_nodup
    ((List.nodup_finRange n).filter _)]
  congr 1
  ext i
  simp

theorem heldCount_eq (c : Capture) : c.heldCount = c.heldSlots.card := countP_list c.slots Slot.held

theorem heldCount_mono {c d : Capture} (h : d.heldSlots ⊆ c.heldSlots) : d.heldCount ≤ c.heldCount := by
  rw [heldCount_eq, heldCount_eq]
  exact Finset.card_le_card h

/-- `d` has the slot count of `c` and no slot held that is not held in `c`. -/
structure Capture.HoldsNoMore (c d : Capture) : Prop where
  count : d.source.slotCount = c.source.slotCount
  held : ∀ k, (d.slots.get k).held = true → (c.slots.get k).held = true

namespace Capture.HoldsNoMore

theorem refl (c : Capture) : c.HoldsNoMore c := ⟨rfl, fun _ h => h⟩

theorem trans {c d e : Capture} (h : c.HoldsNoMore d) (k : d.HoldsNoMore e) : c.HoldsNoMore e :=
  ⟨k.count.trans h.count, fun i hi => h.held i (k.held i hi)⟩

theorem lawful {c d : Capture} (h : c.HoldsNoMore d) (hc : c.HoldsLawful) : d.HoldsLawful := by
  unfold Capture.HoldsLawful at *
  rw [h.count]
  exact (heldCount_mono fun k hk => mem_heldSlots.2 (h.held k (mem_heldSlots.1 hk))).trans hc

/-- One slot changed, its hold kept or given up. -/
theorem modifySlot (c : Capture) (k : Fin 1024) {f : Slot → Slot} (hf : ∀ t, (f t).held = true → t.held = true) :
    c.HoldsNoMore (c.modifySlot k f) := by
  refine ⟨rfl, fun j hj => ?_⟩
  rw [slots_modifySlot] at hj
  split at hj
  · exact hf _ hj
  · exact hj

end Capture.HoldsNoMore

/-! ## Operations -/

section
variable {s : State}

theorem closeSlot_holds (tag : BitVec 16) (cause : CloseCause) (k : Fin 1024) (s : State) :
    s.capture.HoldsNoMore (closeSlot tag cause k s).capture := by
  have hclosed : s.capture.HoldsNoMore
      (s.capture.modifySlot k fun _ => (s.slot k).close s.capture.source.lines cause) := by
    refine ⟨rfl, fun j hj => ?_⟩
    rw [slots_modifySlot] at hj
    split at hj
    next hkj => exact hkj ▸ hj
    next => exact hj
  unfold closeSlot
  dsimp only
  split
  · exact hclosed
  · rw [postSlotPartial, post_capture]
    exact hclosed

theorem joinClip_holds (tag : BitVec 16) (k : Fin 1024) (h : s.capture.HoldsLawful) :
    (joinClip tag k s).capture.HoldsLawful := by
  unfold joinClip
  split
  · exact h
  · dsimp only
    split
    next hmay =>
      let joined := s.capture.modifySlot k fun t => { t with clipHolds := 1 }
      have hsubset : joined.heldSlots ⊆ insert k s.capture.heldSlots := by
        intro j hj
        rw [mem_heldSlots, slots_modifySlot] at hj
        rw [Finset.mem_insert, mem_heldSlots]
        split at hj
        next hkj => exact .inl hkj.symm
        next => exact .inr hj
      show joined.heldCount ≤ s.capture.holdLimit
      rw [heldCount_eq]
      refine (Finset.card_le_card hsubset).trans ?_
      have hlimit : s.capture.heldSlots.card ≤ s.capture.holdLimit := (heldCount_eq s.capture).symm.trans_le h
      obtain hheld | hroom := (mayHold_iff _ _).1 hmay
      · rw [Finset.insert_eq_self.2 (mem_heldSlots.2 hheld)]
        exact hlimit
      · rw [heldCount_eq] at hroom
        exact (Finset.card_insert_le _ _).trans hroom
    next =>
      rw [postClipLimit, post_capture]
      exact h

theorem closeAndJoin_holds (tag : BitVec 16) (cause : CloseCause) (h : s.capture.HoldsLawful) :
    (closeAndJoin tag cause s).capture.HoldsLawful := by
  unfold closeAndJoin
  split
  · exact h
  · exact joinClip_holds tag _ ((closeSlot_holds tag cause _ s).lawful h)

theorem closeClip_holds (s : State) : s.capture.HoldsNoMore (closeClip s).capture := by
  unfold closeClip
  split <;> exact ⟨rfl, fun _ h => h⟩

theorem stopRecorder_holds (tag : BitVec 16) (cause : CloseCause) (h : s.capture.HoldsLawful) :
    (stopRecorder tag cause s).capture.HoldsLawful := by
  have hclosed := closeAndJoin_holds tag cause h
  unfold stopRecorder
  dsimp only
  split
  · exact (closeClip_holds _).lawful hclosed
  · exact hclosed

theorem unlink_holds (c : Capture) (k : Fin 1024) : c.HoldsNoMore (c.unlink k) :=
  ⟨by rw [unlink_ends], fun j hj => by rwa [unlink_get] at hj⟩

theorem append_holds (c : Capture) (k : Fin 1024) (clock : Nat) : c.HoldsNoMore (c.append k clock) := by
  refine ⟨by rw [append_ends], fun j hj => ?_⟩
  by_cases hjk : j = k
  · rwa [hjk, append_get_self, ← hjk] at hj
  · rwa [append_get_ne _ _ hjk] at hj

theorem openSlot_holds (s : State) : s.capture.HoldsNoMore (openSlot s).capture := by
  unfold openSlot
  split
  · exact .refl _
  · exact (unlink_holds _ _).trans (append_holds _ _ _)

theorem recordEdge_holds (edge : Edge) (h : s.capture.HoldsLawful) : (recordEdge edge s).capture.HoldsLawful := by
  unfold recordEdge recordPulse
  split
  · split
    · exact h
    · exact (openSlot_holds _).lawful h
    · exact (openSlot_holds _).lawful (closeAndJoin_holds 0 .pulse h)
  · exact h

/-! ## Holds given and taken -/

theorem holdAll_get (c : Capture) (l : List (Fin 1024)) (k : Fin 1024) : (c.holdAll l).slots.get k =
    { c.slots.get k with clipHolds := (c.slots.get k).clipHolds + l.count k } := by
  unfold Capture.holdAll
  induction l generalizing c with
  | nil => rfl
  | cons j l ih =>
    rw [List.foldl_cons, ih, slots_modifySlot, List.count_cons]
    by_cases hjk : j = k
    · simp only [hjk, if_true, beq_self_eq_true]
      rw [Nat.add_assoc, Nat.add_comm 1]
    · simp [hjk]

theorem holdAll_rest (c : Capture) (l : List (Fin 1024)) : c.holdAll l = { c with slots := (c.holdAll l).slots } := by
  unfold Capture.holdAll
  induction l generalizing c with
  | nil => rfl
  | cons j l ih =>
    rw [List.foldl_cons, ih]
    rfl

theorem releaseAll_get (c : Capture) (l : List (Fin 1024)) (k : Fin 1024) : (c.releaseAll l).slots.get k =
    { c.slots.get k with clipHolds := (c.slots.get k).clipHolds - l.count k } := by
  unfold Capture.releaseAll
  induction l generalizing c with
  | nil => rfl
  | cons j l ih =>
    rw [List.foldl_cons, ih, slots_modifySlot, List.count_cons]
    by_cases hjk : j = k
    · simp [hjk, Nat.sub_sub, Nat.add_comm]
    · simp [hjk]

theorem releaseAll_rest (c : Capture) (l : List (Fin 1024)) :
    c.releaseAll l = { c with slots := (c.releaseAll l).slots } := by
  unfold Capture.releaseAll
  induction l generalizing c with
  | nil => rfl
  | cons j l ih =>
    rw [List.foldl_cons, ih]
    rfl

theorem held_iff (t : Slot) : t.held = true ↔ t.clipHolds ≠ 0 ∨ t.playerHold = true := by simp [Slot.held]

theorem heldSlots_holdAll (c : Capture) (l : List (Fin 1024)) :
    (c.holdAll l).heldSlots = c.heldSlots ∪ (l.filter fun k => !(c.slots.get k).held).toFinset := by
  ext k
  have hcount : l.count k ≠ 0 ↔ k ∈ l := by rw [← Nat.pos_iff_ne_zero, List.count_pos_iff]
  rw [Finset.mem_union, mem_heldSlots, mem_heldSlots, held_iff, holdAll_get, List.mem_toFinset, List.mem_filter,
    Bool.not_eq_true', ← Bool.not_eq_true, held_iff]
  dsimp only
  have hsum : (c.slots.get k).clipHolds + l.count k ≠ 0 ↔ (c.slots.get k).clipHolds ≠ 0 ∨ l.count k ≠ 0 := by omega
  rw [← hcount, hsum]
  tauto

/-- The slots newly held are at most as many as the places of the list that were not held. -/
theorem heldCount_holdAll (c : Capture) (l : List (Fin 1024)) : (c.holdAll l).heldCount =
    c.heldCount + (l.filter fun k => !(c.slots.get k).held).toFinset.card := by
  rw [heldCount_eq, heldCount_eq, heldSlots_holdAll, Finset.card_union_of_disjoint]
  rw [Finset.disjoint_left]
  intro k hk hnew
  rw [List.mem_toFinset, List.mem_filter, mem_heldSlots.1 hk] at hnew
  exact absurd hnew.2 (by decide)

/-! ## The pre-roll walk -/

/-- R140: the walk keeps to its length, its budget and the previous links, and says why it ended. -/
structure PreRolls (c : Capture) (n budget : Nat) (start : Option (Fin 1024)) (l : List (Fin 1024)) : Prop where
  length : l.length ≤ n
  head : ∀ k, l.head? = some k → start = some k
  links : ∀ j k, l[j + 1]? = some k → ∃ m, l[j]? = some m ∧ (c.slots.get m).previous = some k
  spent : (l.filter fun k => !(c.slots.get k).held).length ≤ budget
  ended : l.length = n ∨
    (let next := match l.getLast? with
      | some k => (c.slots.get k).previous
      | none => start
    next = none ∨ ∃ m, next = some m ∧ (c.slots.get m).held = false ∧
      (l.filter fun k => !(c.slots.get k).held).length = budget)

theorem preRolls_cons {c : Capture} {n budget rest : Nat} {k : Fin 1024} {l : List (Fin 1024)}
    (h : PreRolls c n rest (c.slots.get k).previous l)
    (hbudget : budget = rest + if (c.slots.get k).held = true then 0 else 1) :
    PreRolls c (n + 1) budget (some k) (k :: l) := by
  have hfilter : ((k :: l).filter fun k => !(c.slots.get k).held).length =
      (l.filter fun k => !(c.slots.get k).held).length + if (c.slots.get k).held = true then 0 else 1 := by
    rw [List.filter_cons]
    cases (c.slots.get k).held <;> rfl
  refine ⟨Nat.succ_le_succ h.length, fun j hj => hj, fun j m hm => ?_, ?_, ?_⟩
  · cases j with
    | zero =>
      refine ⟨k, rfl, h.head m ?_⟩
      rw [List.head?_eq_getElem?]
      exact hm
    | succ j => exact h.links j m hm
  · rw [hfilter, hbudget]
    exact Nat.add_le_add_right h.spent _
  · obtain hlength | hnext := h.ended
    · exact .inl (congrArg (· + 1) hlength)
    · right
      have hlast : (match (k :: l).getLast? with
          | some j => (c.slots.get j).previous
          | none => some k) = match l.getLast? with
          | some j => (c.slots.get j).previous
          | none => (c.slots.get k).previous := by
        rw [List.getLast?_cons]
        cases l.getLast? <;> rfl
      rw [hlast, hfilter, hbudget]
      obtain hnone | ⟨m, hm, hfree, hspent⟩ := hnext
      · exact .inl hnone
      · exact .inr ⟨m, hm, hfree, by rw [hspent]⟩

theorem preRolls (c : Capture) (n budget : Nat) (start : Option (Fin 1024)) :
    PreRolls c n budget start (c.preRoll n budget start) := by
  induction n generalizing budget start with
  | zero => exact ⟨Nat.le_refl _, nofun, nofun, Nat.zero_le _, .inl rfl⟩
  | succ n ih =>
    cases start with
    | none => exact ⟨Nat.zero_le _, nofun, nofun, Nat.zero_le _, .inr (.inl rfl)⟩
    | some k =>
      rw [Capture.preRoll]
      split
      next hheld => exact preRolls_cons (ih budget _) (by rw [if_pos hheld, Nat.add_zero])
      next hfree =>
        split
        next hspent =>
          exact ⟨Nat.zero_le _, nofun, nofun, Nat.zero_le _,
            .inr (.inr ⟨k, rfl, Bool.eq_false_of_not_eq_true hfree, hspent.symm⟩)⟩
        next hbudget => exact preRolls_cons (ih (budget - 1) _) (by rw [if_neg hfree]; omega)

/-- CLIP_IN keeps the law of holds. -/
theorem preRollSlots_holds {c : Capture} (n : Nat) (h : c.HoldsLawful) : (c.holdAll (c.preRollSlots n)).HoldsLawful := by
  have hspent := (preRolls c (min 255 n) (c.holdLimit - c.heldCount) c.newestClosed).spent
  have hcard := List.toFinset_card_le ((c.preRollSlots n).filter fun k => !(c.slots.get k).held)
  have hlimit : c.heldCount ≤ c.holdLimit := h
  have hsource : (c.holdAll (c.preRollSlots n)).source = c.source := by rw [holdAll_rest]
  rw [Capture.HoldsLawful, heldCount_holdAll, hsource]
  show _ ≤ c.holdLimit
  unfold Capture.preRollSlots at *
  omega

/-! ## The holds of the player -/

/-- R148: the player holds exactly the slots of the list. -/
def Capture.granted (c : Capture) (l : List (Fin 1024)) : Capture :=
  l.foldl (fun d k => d.modifySlot k fun t => { t with playerHold := true }) c.releasePlayer

theorem replacePlayer_eq (c : Capture) (l : List (Fin 1024)) : c.replacePlayer l =
    if l.all (fun k => (c.slots.get k).closed) then
      if (c.granted l).heldCount ≤ c.holdLimit then .ok (c.granted l) else .error .full
    else .error .range := rfl

theorem grantAll_get (c : Capture) (l : List (Fin 1024)) (k : Fin 1024) :
    (l.foldl (fun (d : Capture) k => d.modifySlot k fun t => { t with playerHold := true }) c).slots.get k =
      { c.slots.get k with playerHold := decide (k ∈ l) || (c.slots.get k).playerHold } := by
  induction l generalizing c with
  | nil => simp
  | cons j l ih =>
    rw [List.foldl_cons, ih, slots_modifySlot]
    by_cases hjk : j = k
    · simp [hjk]
    · simp [hjk, Ne.symm hjk]

theorem releasePlayer_get (c : Capture) (k : Fin 1024) :
    c.releasePlayer.slots.get k = { c.slots.get k with playerHold := false } := Tab.get_map _ _ _

theorem granted_get (c : Capture) (l : List (Fin 1024)) (k : Fin 1024) :
    (c.granted l).slots.get k = { c.slots.get k with playerHold := decide (k ∈ l) } := by
  rw [Capture.granted, grantAll_get, releasePlayer_get, Bool.or_false]

theorem granted_rest (c : Capture) (l : List (Fin 1024)) : c.granted l = { c with slots := (c.granted l).slots } := by
  have hrest : ∀ (l : List (Fin 1024)) (d : Capture),
      l.foldl (fun d k => d.modifySlot k fun t => { t with playerHold := true }) d = { d with
        slots := (l.foldl (fun d k => d.modifySlot k fun t => { t with playerHold := true }) d).slots } := by
    intro l
    induction l with
    | nil => exact fun d => rfl
    | cons j l ih =>
      intro d
      rw [List.foldl_cons, ih]
      rfl
  rw [Capture.granted, hrest]
  rfl

theorem replacePlayer_ok {c d : Capture} {l : List (Fin 1024)} (h : c.replacePlayer l = .ok d) :
    d = c.granted l ∧ (c.granted l).heldCount ≤ c.holdLimit ∧ ∀ k ∈ l, (c.slots.get k).closed = true := by
  rw [replacePlayer_eq] at h
  split at h
  next hclosed =>
    split at h
    next hlimit =>
      cases h
      exact ⟨rfl, hlimit, List.all_eq_true.1 hclosed⟩
    next => cases h
  next => cases h

/-! ## The law of holds -/

theorem replacePlayer_holds {c d : Capture} {l : List (Fin 1024)} (h : c.replacePlayer l = .ok d) : d.HoldsLawful := by
  obtain ⟨rfl, hlimit, -⟩ := replacePlayer_ok h
  rw [Capture.HoldsLawful, show (c.granted l).source = c.source by rw [granted_rest]]
  exact hlimit

theorem releasePlayer_holds (c : Capture) : c.HoldsNoMore c.releasePlayer := by
  refine ⟨rfl, fun k hk => ?_⟩
  rw [releasePlayer_get, held_iff] at hk
  exact (held_iff _).2 (.inl (hk.resolve_right Bool.false_ne_true))

theorem releaseAll_holds (c : Capture) (l : List (Fin 1024)) : c.HoldsNoMore (c.releaseAll l) := by
  refine ⟨by rw [releaseAll_rest], fun k hk => ?_⟩
  rw [releaseAll_get, held_iff] at hk
  exact (held_iff _).2 (hk.imp_left fun hne hz => hne (by dsimp only; rw [hz, Nat.zero_sub]))

theorem emptied_holds (c : Capture) (e : RecordSource) : ({ c.emptied with source := e } : Capture).HoldsLawful := by
  have hnone : ({ c.emptied with source := e } : Capture).heldCount = 0 :=
    List.countP_eq_zero.2 fun t ht => by
      rw [List.eq_of_mem_replicate ht]
      exact Bool.false_ne_true
  rw [Capture.HoldsLawful, hnone]
  exact Nat.zero_le _

theorem holdsLawful_deposited {c : Capture} (e : RecordSource) (h : c.HoldsLawful) :
    ({ (if e.sameRing c.source then c else c.emptied) with source := e } : Capture).HoldsLawful := by
  by_cases hsame : e.sameRing c.source = true
  · have hcount : e.slotCount = c.source.slotCount := by
      simp only [RecordSource.sameRing, Bool.and_eq_true, beq_iff_eq] at hsame
      exact hsame.1.1.1.1.2
    rw [if_pos hsame]
    show c.heldCount ≤ e.slotCount - 1
    rw [hcount]
    exact h
  · rw [if_neg hsame]
    exact emptied_holds c e

theorem modifySlot_alike {c : Capture} (k : Fin 1024) {f : Slot → Slot} (hf : ∀ t, Slot.Alike t (f t)) :
    c.HoldsNoMore (c.modifySlot k f) :=
  .modifySlot c k fun t ht => by rwa [(hf t).held] at ht

theorem holdsLawful_kept : Capture.Kept Capture.HoldsLawful where
  initial := Capture.initial_holds
  clips _ h := h
  touched k _ hf h := (modifySlot_alike k hf).lawful h
  turned edge _ h := recordEdge_holds edge h
  stopped tag cause _ h := stopRecorder_holds tag cause h
  armed _ _ h := h
  released {c} h := (releasePlayer_holds c).lawful h
  replaced hd _ := replacePlayer_holds hd
  rolled n _ h := preRollSlots_holds n h
  freed {c} l h := (releaseAll_holds c l).lawful h
  deposited _ _ _ h := holdsLawful_deposited _ h

end

end Sys2Proof.Machine
end

section
/-! SUPPORT. The clip commands (R139, R140, R142): the walks along the capture chain, and what each command answers. -/

namespace Sys2Proof.Machine

/-! ## Walks along the chain -/

theorem walks_zero (link : Fin 1024 → Option (Fin 1024)) (start : Option (Fin 1024)) : Walks link 0 start [] :=
  ⟨rfl, nofun⟩

theorem walks_none (link : Fin 1024 → Option (Fin 1024)) (n : Nat) : Walks link n none [] :=
  ⟨(ite_self _).symm, nofun⟩

/-- A walk of one slot more. -/
theorem walks_cons {link : Fin 1024 → Option (Fin 1024)} {n : Nat} {k : Fin 1024} {l : List (Fin 1024)}
    (h : Walks link n (link k) l) : Walks link (n + 1) (some k) (k :: l) := by
  obtain ⟨hhead, hlinks⟩ := h
  refine ⟨rfl, fun i j hj => ?_⟩
  cases i with
  | zero =>
    obtain rfl : k = j := Option.some.inj hj
    rw [List.getElem?_cons_succ, ← List.head?_eq_getElem?, hhead]
    cases n <;> simp
  | succ i =>
    rw [List.getElem?_cons_succ, hlinks i j hj]
    simp

theorem run_walks (c : Capture) (n : Nat) (start : Option (Fin 1024)) :
    Walks (fun k => (c.slots.get k).next) n start (c.run n start) := by
  induction n generalizing start with
  | zero => exact walks_zero _ _
  | succ n ih =>
    cases start with
    | none => exact walks_none _ _
    | some k => exact walks_cons (ih _)

theorem heldCount_filter (c : Capture) : c.heldCount = ((List.finRange 1024).filter fun k =>
    (c.slots.get k).clipHolds ≠ 0 ∨ (c.slots.get k).playerHold = true).length := by
  rw [Capture.heldCount, list_eq_map, List.countP_map, List.countP_eq_length_filter]
  congr 2
  funext k
  rw [Function.comp_apply, Bool.eq_iff_iff, held_iff, decide_eq_true_eq]

theorem newestClosed_recording {c : Capture} {k : Fin 1024} (hrec : c.recorder = .recording) (hk : c.newest = some k) :
    c.newestClosed = (c.slots.get k).previous := by rw [Capture.newestClosed, writing_some.2 ⟨hrec, hk⟩]

theorem newestClosed_idle {c : Capture} (h : c.recorder ≠ .recording) : c.newestClosed = c.newest := by
  rw [Capture.newestClosed, show c.writing = none from if_neg h]

theorem chainRead (c : Capture) : ChainRead c := by
  refine ⟨run_walks c, newestClosed_idle, fun hrec hnone => ?_, fun k => newestClosed_recording, heldCount_filter c⟩
  rw [Capture.newestClosed, show c.writing = c.newest from if_pos hrec, hnone]

/-! ## CLIP_IN -/

section
variable {s : State}

theorem joinableClip_isSome (c : Capture) :
    c.joinableClip.isSome = true ↔ ∃ i, (c.clips.get i).state = .opened ∨ (c.clips.get i).state = .closing := by
  simp only [Capture.joinableClip, List.find?_isSome, List.mem_finRange, true_and, joinable_iff]

theorem freeClip_none {c : Capture} : c.freeClip = none ↔ ∀ i, (c.clips.get i).state ≠ .free := by
  simp only [Capture.freeClip, find_finRange_none, beq_eq_false_iff_ne]

theorem freeClip_some {c : Capture} {i : Fin 32} :
    c.freeClip = some i ↔ (c.clips.get i).state = .free ∧ ∀ j, j < i → (c.clips.get j).state ≠ .free := by
  simp only [Capture.freeClip, find_finRange, beq_iff_eq, beq_eq_false_iff_ne]

/-- The clip CLIP_IN opens over these slots, newest first. -/
def Capture.clipOver (c : Capture) (tag : BitVec 16) (slots : List (Fin 1024)) : Clip :=
  { state := .opened, tag := tag, first := slots.getLast?, length := slots.length
    clock := match slots.getLast? with
      | some k => (c.slots.get k).clock
      | none => 0 }

/-- The capture as CLIP_IN leaves it. -/
def Capture.clippedIn (c : Capture) (i : Fin 32) (tag : BitVec 16) (slots : List (Fin 1024)) : Capture :=
  { c.holdAll slots with clips := (c.holdAll slots).clips.set i (c.clipOver tag slots) }

theorem clippedIn_eq (c : Capture) (i : Fin 32) (tag : BitVec 16) (slots : List (Fin 1024)) :
    c.clippedIn i tag slots =
      { c with slots := (c.holdAll slots).slots, clips := c.clips.set i (c.clipOver tag slots) } := by
  rw [Capture.clippedIn, holdAll_rest]

theorem takeClipIn_eq (h : Header) (tag preRoll : BitVec 16) (s : State) : takeClipIn h tag preRoll s =
    if s.capture.joinableClip.isSome then s.refuse 0x42 .capture h .state
    else if s.capture.recorder ≠ .recording then s.refuse 0x42 .capture h .state
    else
      match s.capture.freeClip with
      | none => s.refuse 0x42 .capture h .full
      | some i => (s.withCapture (s.capture.clippedIn i tag (s.capture.preRollSlots preRoll.toNat))).done 0x42 .capture h
          ((s.capture.preRollSlots preRoll.toNat).length != preRoll.toNat)
          (leBytes 1 i.val ++ leBytes 2 (s.capture.preRollSlots preRoll.toNat).length) := by
  unfold takeClipIn
  dsimp only
  split
  · rw [acknowledge_refuse]
  · split
    · rw [acknowledge_refuse]
    · cases s.capture.freeClip with
      | none => exact acknowledge_refuse _ _ _ _ _
      | some i => exact acknowledge_done _ _ _ _ _ _ _ _

/-- Where the walk of CLIP_IN ended before its length, no slot was left or the law of holds left no room. -/
theorem clippedIn_ended (c : Capture) (i : Fin 32) (tag : BitVec 16) (n : Nat)
    (hnodup : (c.preRollSlots n).Nodup) : (c.preRollSlots n).length = min 255 n ∨
      (let next := match (c.preRollSlots n).getLast? with
        | some l => (c.slots.get l).previous
        | none => c.newestClosed
      next = none ∨ ∃ m, next = some m ∧ (c.slots.get m).held = false ∧
        c.source.slotCount - 1 ≤ (c.clippedIn i tag (c.preRollSlots n)).heldCount) := by
  refine (preRolls c (min 255 n) (c.holdLimit - c.heldCount) c.newestClosed).ended.imp_right (Or.imp_right ?_)
  rintro ⟨m, hm, hfree, hspent⟩
  refine ⟨m, hm, hfree, ?_⟩
  have hcount : (c.clippedIn i tag (c.preRollSlots n)).heldCount = c.heldCount + (c.holdLimit - c.heldCount) := by
    show (c.holdAll (c.preRollSlots n)).heldCount = _
    rw [heldCount_holdAll, List.toFinset_card_of_nodup (hnodup.filter _)]
    exact congrArg _ hspent
  rw [hcount]
  show c.holdLimit ≤ _
  omega

/-! ## CLIP_OUT and CLIP_FREE -/

theorem takeClipOut_eq (h : Header) (s : State) : takeClipOut h s =
    match (List.finRange 32).find? fun i => (s.capture.clips.get i).state == .opened with
    | none => s.refuse 0x43 .capture h .state
    | some i => (s.withCapture { s.capture with
        clips := s.capture.clips.set i { s.capture.clips.get i with state := .closing } }).done 0x43 .capture h false
          (leBytes 1 i.val) := by
  unfold takeClipOut
  cases (List.finRange 32).find? fun i => (s.capture.clips.get i).state == .opened with
  | none => exact acknowledge_refuse _ _ _ _ _
  | some i => exact acknowledge_done _ _ _ _ _ _ _ _

theorem takeClipFree_range (h : Header) {clip : Byte} (hclip : 31 < clip.toNat) :
    takeClipFree h clip s = s.refuse 0x44 .capture h .range := by
  rw [takeClipFree, index_none (by omega), acknowledge_refuse]

theorem takeClipFree_eq (h : Header) {clip : Byte} {i : Fin 32} (hclip : clip.toNat = i.val) : takeClipFree h clip s =
    if (s.capture.clips.get i).state = .free then s.refuse 0x44 .capture h .absent
    else (s.withCapture { s.capture with
      slots := (s.capture.releaseAll (s.capture.run (s.capture.clips.get i).length (s.capture.clips.get i).first)).slots
      clips := s.capture.clips.set i Clip.initial }).done 0x44 .capture h false [] := by
  rw [takeClipFree, hclip, index_val]
  dsimp only
  split
  · exact acknowledge_refuse _ _ _ _ _
  · rw [releaseAll_rest]
    exact acknowledge_ok _ _ _ _ _

end

/-- Settles O44: CLIP_IN from the pre-roll walk and the holds it gives; CLIP_OUT and CLIP_FREE by their conditions. -/
theorem clipCommands : Obligations.ClipCommands := by
  intro h tag preRoll clip s hrun
  dsimp only
  have hin : ∀ {t}, takeClipIn h tag preRoll s = t → exec (.clipIn h tag preRoll) s = .next t := fun ht =>
    exec_takes rfl rfl hrun ht
  have hout : ∀ {t}, takeClipOut h s = t → exec (.clipOut h) s = .next t := fun ht => exec_takes rfl rfl hrun ht
  have hfree : ∀ {t}, takeClipFree h clip s = t → exec (.clipFree h clip) s = .next t := fun ht =>
    exec_takes rfl rfl hrun ht
  refine ⟨chainRead _, fun hstate => hin ?_, fun hno hrec hfull => hin ?_, fun i hno hrec hi hfirst => ?clipIn,
    fun hno => hout ?_, fun i hi hfirst => hout ?_, fun hclip => hfree (takeClipFree_range h hclip),
    fun i hclip hi => hfree ?_, fun i hclip hi => ?clipFree⟩
  · rw [takeClipIn_eq]
    obtain hjoin | hrec := hstate
    · rw [if_pos ((joinableClip_isSome _).2 hjoin)]
    · rw [if_pos hrec, ite_self]
  · rw [takeClipIn_eq, if_neg (mt (joinableClip_isSome _).1 hno), if_neg (not_not.2 hrec), freeClip_none.2 hfull]
  case clipIn =>
    let c := s.capture
    let slots := c.preRollSlots preRoll.toNat
    have hwalk : PreRolls c _ _ _ slots := preRolls c (min 255 preRoll.toNat) (c.holdLimit - c.heldCount) c.newestClosed
    refine ⟨slots, c.clippedIn i tag slots, hin ?_, hwalk.length, hwalk.head, hwalk.links, ?_, holdAll_get c slots, ?_, ?_,
      preRollSlots_holds preRoll.toNat, clippedIn_ended c i tag preRoll.toNat⟩
    · rw [takeClipIn_eq, if_neg (mt (joinableClip_isSome _).1 hno), if_neg (not_not.2 hrec), freeClip_some.2 ⟨hi, hfirst⟩]
      dsimp only
      rw [bne_eq_decide Iff.rfl]
    · rw [clippedIn_eq]
    · intro j hj
      rw [clippedIn_eq]
      exact Tab.get_set_ne _ _ hj.symm
    · rw [clippedIn_eq]
      exact Tab.get_set_self _ _ _
  · rw [takeClipOut_eq, find_finRange_none.2 fun i => beq_eq_false_iff_ne.2 (hno i)]
  · rw [takeClipOut_eq, (find_finRange (p := fun i => (s.capture.clips.get i).state == .opened)).2
      ⟨beq_iff_eq.2 hi, fun j hj => beq_eq_false_iff_ne.2 (hfirst j hj)⟩]
  · rw [takeClipFree_eq h hclip, if_pos hi]
  case clipFree =>
    exact ⟨_, releaseAll_get _ _, hfree (by rw [takeClipFree_eq h hclip, if_neg hi]; rfl)⟩

end Sys2Proof.Machine
end

section
/-! SUPPORT. The law of the capture chain (R132, R134) through every operation of capture: what a list of slots linked both
ways becomes when a slot is taken out or put at its end, and the operations that leave the chain as it is. -/

namespace Sys2Proof.Machine

/-! ## Lists linked by a function -/

/-- Each place of the list is linked to the next one, and the last to none. -/
def Linked (link : Fin 1024 → Option (Fin 1024)) : List (Fin 1024) → Prop
  | [] => True
  | k :: rest => link k = rest.head? ∧ Linked link rest

theorem Linked.congr {f g : Fin 1024 → Option (Fin 1024)} {l : List (Fin 1024)} (h : Linked f l)
    (hfg : ∀ k ∈ l, g k = f k) : Linked g l := by
  induction l with
  | nil => trivial
  | cons k rest ih =>
    obtain ⟨hk, hrest⟩ := h
    exact ⟨(hfg k (List.mem_cons_self ..)).trans hk, ih hrest fun j hj => hfg j (List.mem_cons_of_mem _ hj)⟩

theorem linked_iff {link : Fin 1024 → Option (Fin 1024)} {l : List (Fin 1024)} :
    Linked link l ↔ ∀ i k, l[i]? = some k → link k = l[i + 1]? := by
  induction l with
  | nil => simp [Linked]
  | cons k rest ih =>
    rw [Linked, ih]
    refine ⟨fun ⟨hk, hrest⟩ i j hj => ?_, fun h => ⟨?_, fun i j hj => h (i + 1) j hj⟩⟩
    · cases i with
      | zero =>
        obtain rfl : k = j := Option.some.inj hj
        rw [hk, List.head?_eq_getElem?]
        rfl
      | succ i => exact hrest i j hj
    · rw [h 0 k rfl, List.head?_eq_getElem?]
      rfl

/-- Links that lead backwards are links along the reversed list. -/
theorem linked_reverse_iff {link : Fin 1024 → Option (Fin 1024)} {l : List (Fin 1024)} :
    Linked link l.reverse ↔ ∀ i k, l[i]? = some k → link k = if i = 0 then none else l[i - 1]? := by
  have hplace : ∀ i, i < l.length → l.reverse[l.length - 1 - i]? = l[i]? := fun i hi => by
    rw [List.getElem?_reverse (by omega)]
    congr 1
    omega
  have hnext : ∀ i, i < l.length → l.reverse[l.length - 1 - i + 1]? = if i = 0 then none else l[i - 1]? := fun i hi => by
    split
    next h0 => exact List.getElem?_eq_none (by rw [List.length_reverse]; omega)
    next h0 => rw [← hplace (i - 1) (by omega), show l.length - 1 - i + 1 = l.length - 1 - (i - 1) by omega]
  rw [linked_iff]
  refine ⟨fun h i k hk => ?_, fun h j k hk => ?_⟩
  · obtain ⟨hi, -⟩ := List.getElem?_eq_some_iff.1 hk
    rw [h (l.length - 1 - i) k ((hplace i hi).trans hk), hnext i hi]
  · obtain ⟨hj, -⟩ := List.getElem?_eq_some_iff.1 hk
    rw [List.length_reverse] at hj
    have hi : l.length - 1 - (l.length - 1 - j) = j := by omega
    have hlt : l.length - 1 - j < l.length := by omega
    rw [h (l.length - 1 - j) k (by rw [← hplace _ hlt, hi, hk]), ← hnext _ hlt, hi]

/-- A place taken out: the one before it is linked to the one behind it. -/
theorem Linked.without {f g : Fin 1024 → Option (Fin 1024)} {a b : List (Fin 1024)} {k : Fin 1024}
    (h : Linked f (a ++ k :: b)) (hnodup : (a ++ k :: b).Nodup)
    (hg : ∀ m, g m = if a.getLast? = some m then b.head? else f m) : Linked g (a ++ b) := by
  induction a with
  | nil => exact h.2.congr fun m _ => by rw [hg, if_neg (by simp)]
  | cons m rest ih =>
    obtain ⟨hm, hrest⟩ := h
    rw [List.cons_append, List.nodup_cons, List.mem_append, not_or, List.mem_cons, not_or] at hnodup
    obtain ⟨⟨hmrest, hmk, hmb⟩, hnodup⟩ := hnodup
    cases rest with
    | nil =>
      refine ⟨by rw [hg, List.getLast?_singleton, if_pos rfl]; rfl, hrest.2.congr fun j hj => ?_⟩
      rw [hg, List.getLast?_singleton, if_neg]
      exact fun heq => hmb (Option.some.inj heq ▸ hj)
    | cons j rest =>
      refine ⟨?_, ih hrest hnodup fun i => by rw [hg, List.getLast?_cons_cons]⟩
      rw [hg, List.getLast?_cons_cons, if_neg, hm]
      · rfl
      · exact fun heq => hmrest (List.mem_of_getLast? heq)

/-- A place put at the end. -/
theorem Linked.extended {f g : Fin 1024 → Option (Fin 1024)} {l : List (Fin 1024)} {k : Fin 1024} (h : Linked f l)
    (hnodup : l.Nodup) (hk : g k = none) (hg : ∀ m ∈ l, g m = if l.getLast? = some m then some k else f m) :
    Linked g (l ++ [k]) := by
  induction l with
  | nil => exact ⟨hk, trivial⟩
  | cons m rest ih =>
    obtain ⟨hm, hrest⟩ := h
    obtain ⟨hmrest, hnodup⟩ := List.nodup_cons.1 hnodup
    have hfirst := hg m (List.mem_cons_self ..)
    cases rest with
    | nil => exact ⟨by rw [hfirst, List.getLast?_singleton, if_pos rfl]; rfl, hk, trivial⟩
    | cons j rest =>
      refine ⟨?_, ih hrest hnodup fun i hi => by rw [hg i (List.mem_cons_of_mem _ hi), List.getLast?_cons_cons]⟩
      rw [hfirst, List.getLast?_cons_cons, if_neg, hm]
      · rfl
      · exact fun heq => hmrest (List.mem_of_getLast? heq)

/-! ## The capture chain -/

/-- The slots of `l`, oldest first, are linked both ways, and the ends of the chain are theirs. -/
structure Capture.LinkedBy (c : Capture) (l : List (Fin 1024)) : Prop where
  nodup : l.Nodup
  oldest : c.oldest = l.head?
  newest : c.newest = l.getLast?
  next : Linked (fun k => (c.slots.get k).next) l
  previous : Linked (fun k => (c.slots.get k).previous) l.reverse

/-- The capture chain holds the slots of `l`, oldest first: those that are not EMPTY. -/
structure Capture.ChainedBy (c : Capture) (l : List (Fin 1024)) : Prop extends c.LinkedBy l where
  mem : ∀ k, k ∈ l ↔ (c.slots.get k).state ≠ .empty

theorem Capture.ChainLawful.chained {c : Capture} (h : c.ChainLawful) : ∃ l, c.ChainedBy l := by
  obtain ⟨l, hnodup, hmem, holdest, hnewest, hlinks⟩ := h.chain
  exact ⟨l, ⟨hnodup, holdest, hnewest, linked_iff.2 fun i k hk => (hlinks i k hk).1,
    linked_reverse_iff.2 fun i k hk => (hlinks i k hk).2⟩, hmem⟩

/-- The chain stands where the links, the ends and the EMPTY slots do. -/
theorem Capture.ChainedBy.keeps {c d : Capture} {l : List (Fin 1024)} (h : c.ChainedBy l) (oldest : d.oldest = c.oldest)
    (newest : d.newest = c.newest) (next : ∀ k, (d.slots.get k).next = (c.slots.get k).next)
    (previous : ∀ k, (d.slots.get k).previous = (c.slots.get k).previous)
    (empty : ∀ k, (d.slots.get k).state = .empty ↔ (c.slots.get k).state = .empty) : d.ChainedBy l :=
  ⟨⟨h.nodup, oldest.trans h.oldest, newest.trans h.newest, h.next.congr fun k _ => next k,
    h.previous.congr fun k _ => previous k⟩, fun k => (h.mem k).trans (not_congr (empty k).symm)⟩

/-- The chain law from a chain and the place of the writing slot. -/
theorem chainLawful_of {c : Capture} {l : List (Fin 1024)} (h : c.ChainedBy l)
    (writing : ∀ k, (c.slots.get k).state = .writing ↔ c.recorder = .recording ∧ c.newest = some k)
    (recording : c.recorder = .recording → c.newest ≠ none)
    (unheld : ∀ k, (c.slots.get k).state = .writing → (c.slots.get k).held = false)
    (count : c.source.slotCount ≤ 1024 ∧ (c.recorder ≠ .off → 1 ≤ c.source.slotCount))
    (within : ∀ k, c.source.slotCount ≤ k.val → (c.slots.get k).state = .empty) : c.ChainLawful :=
  ⟨⟨l, h.nodup, h.mem, h.oldest, h.newest, fun i k hk =>
    ⟨linked_iff.1 h.next i k hk, linked_reverse_iff.1 h.previous i k hk⟩⟩, writing, recording, unheld, count, within⟩

/-- `d` has the chain of `c`, and its writing slot is held by no more. -/
structure Capture.SameChain (c d : Capture) : Prop where
  count : d.source.slotCount = c.source.slotCount
  recorder : d.recorder = c.recorder
  oldest : d.oldest = c.oldest
  newest : d.newest = c.newest
  next : ∀ k, (d.slots.get k).next = (c.slots.get k).next
  previous : ∀ k, (d.slots.get k).previous = (c.slots.get k).previous
  empty : ∀ k, (d.slots.get k).state = .empty ↔ (c.slots.get k).state = .empty
  writing : ∀ k, (d.slots.get k).state = .writing ↔ (c.slots.get k).state = .writing
  held : ∀ k, (c.slots.get k).state = .writing → (d.slots.get k).held = true → (c.slots.get k).held = true

theorem Capture.SameChain.lawful {c d : Capture} (h : c.SameChain d) (hc : c.ChainLawful) : d.ChainLawful := by
  obtain ⟨l, hl⟩ := hc.chained
  refine chainLawful_of (hl.keeps h.oldest h.newest h.next h.previous h.empty) (fun k => ?_) ?_ (fun k hk => ?_) ?_
    fun k hk => ?_
  · rw [h.writing, h.recorder, h.newest, hc.writing]
  · rw [h.recorder, h.newest]
    exact hc.recording
  · have hwriting := (h.writing k).1 hk
    exact Bool.eq_false_of_not_eq_true fun hheld =>
      absurd (h.held k hwriting hheld) (by rw [hc.unheld k hwriting]; exact Bool.false_ne_true)
  · rw [h.count, h.recorder]
    exact hc.count
  · rw [h.empty]
    exact hc.within k (h.count ▸ hk)

/-- A capture that differs in the holds of its slots alone has the same chain. -/
theorem sameChain_holds {c d : Capture} (hrest : d = { c with slots := d.slots })
    (hslots : ∀ k, ∃ clips player, d.slots.get k = { c.slots.get k with clipHolds := clips, playerHold := player })
    (hheld : ∀ k, (c.slots.get k).state = .writing → (d.slots.get k).held = true → (c.slots.get k).held = true) :
    c.SameChain d := by
  have hslot : ∀ k, (d.slots.get k).next = (c.slots.get k).next ∧
      (d.slots.get k).previous = (c.slots.get k).previous ∧ (d.slots.get k).state = (c.slots.get k).state := fun k => by
    obtain ⟨clips, player, hk⟩ := hslots k
    rw [hk]
    exact ⟨rfl, rfl, rfl⟩
  refine ⟨?_, ?_, ?_, ?_, fun k => (hslot k).1, fun k => (hslot k).2.1, fun k => by rw [(hslot k).2.2],
    fun k => by rw [(hslot k).2.2], hheld⟩ <;>
  rw [hrest]

theorem sameChain_touched (c : Capture) (k : Fin 1024) {f : Slot → Slot} (hf : ∀ t, Slot.Alike t (f t)) :
    c.SameChain (c.modifySlot k f) := by
  have hslot : ∀ j, Slot.Alike (c.slots.get j) ((c.modifySlot k f).slots.get j) := fun j => by
    rw [slots_modifySlot]
    split
    · exact hf _
    · exact .of_same rfl rfl rfl rfl
  exact ⟨rfl, rfl, rfl, rfl, fun j => (hslot j).next, fun j => (hslot j).previous, fun j => (hslot j).empty,
    fun j => (hslot j).writing, fun j _ hj => (hslot j).held ▸ hj⟩

theorem sameChain_clips (c : Capture) (x : Tab Clip 32) : c.SameChain { c with clips := x } :=
  ⟨rfl, rfl, rfl, rfl, fun _ => rfl, fun _ => rfl, fun _ => Iff.rfl, fun _ => Iff.rfl, fun _ _ h => h⟩

theorem sameChain_released (c : Capture) : c.SameChain c.releasePlayer :=
  sameChain_holds rfl (fun k => ⟨_, false, releasePlayer_get c k⟩) fun k _ => (releasePlayer_holds c).held k

theorem sameChain_freed (c : Capture) (l : List (Fin 1024)) : c.SameChain (c.releaseAll l) :=
  sameChain_holds (releaseAll_rest c l) (fun k => ⟨_, _, releaseAll_get c l k⟩) fun k _ => (releaseAll_holds c l).held k

theorem not_closed_of_writing {t : Slot} (h : t.state = .writing) : t.closed = false := by simp [Slot.closed, h]

/-- The player holds closed slots alone. -/
theorem sameChain_replaced {c d : Capture} {l : List (Fin 1024)} (h : c.replacePlayer l = .ok d) : c.SameChain d := by
  obtain ⟨rfl, -, hclosed⟩ := replacePlayer_ok h
  refine sameChain_holds (granted_rest c l) (fun k => ⟨_, _, granted_get c l k⟩) fun k hk hheld => ?_
  have hout : k ∉ l := fun hin => by
    exact absurd (hclosed k hin) (by rw [not_closed_of_writing hk]; exact Bool.false_ne_true)
  rw [held_iff, granted_get] at hheld
  exact (held_iff _).2 (.inl (hheld.resolve_right (by simp [hout])))

/-! ## The chain read backwards -/

/-- The slots before a place of the chain, by its previous link. -/
theorem Capture.LinkedBy.previous_eq {c : Capture} {a b : List (Fin 1024)} {k : Fin 1024}
    (h : c.LinkedBy (a ++ k :: b)) : (c.slots.get k).previous = a.getLast? := by
  have hlink := linked_reverse_iff.1 h.previous a.length k (by simp)
  rw [hlink]
  cases a using List.reverseRecOn with
  | nil => rfl
  | append_singleton a m => simp

theorem Capture.LinkedBy.next_eq {c : Capture} {a b : List (Fin 1024)} {k : Fin 1024}
    (h : c.LinkedBy (a ++ k :: b)) : (c.slots.get k).next = b.head? := by
  have hlink := linked_iff.1 h.next a.length k (by simp)
  rw [hlink, List.head?_eq_getElem?]
  simp [List.getElem?_append_right]

/-- The pre-roll walk stays before the place it starts at. -/
theorem preRoll_mem {c : Capture} {a b : List (Fin 1024)} (h : c.LinkedBy (a ++ b)) (n budget : Nat) {k : Fin 1024}
    (hk : k ∈ c.preRoll n budget a.getLast?) : k ∈ a := by
  induction n generalizing a b budget with
  | zero => cases hk
  | succ n ih =>
    cases a using List.reverseRecOn with
    | nil => cases hk
    | append_singleton a m =>
      have hchain : c.LinkedBy (a ++ m :: b) := by rwa [List.append_assoc] at h
      have hrest : ∀ rest, k ∈ m :: c.preRoll n rest (c.slots.get m).previous → k ∈ a ++ [m] := fun rest hmem => by
        obtain rfl | hmem := List.mem_cons.1 hmem
        · exact List.mem_append_right _ (List.mem_singleton_self _)
        · rw [hchain.previous_eq] at hmem
          exact List.mem_append_left _ (ih hchain rest hmem)
      rw [List.getLast?_concat, Capture.preRoll] at hk
      split at hk
      · exact hrest _ hk
      · split at hk
        · cases hk
        · exact hrest _ hk

/-- While RECORDING the newest closed slot is the last of the chain before the writing slot. -/
theorem chained_recording {c : Capture} (h : c.ChainLawful) (hrec : c.recorder = .recording) :
    ∃ a k, c.ChainedBy (a ++ [k]) ∧ c.newest = some k ∧ c.newestClosed = a.getLast? := by
  obtain ⟨l, hl⟩ := h.chained
  cases l using List.reverseRecOn with
  | nil => exact absurd hl.newest (h.recording hrec)
  | append_singleton a k =>
    have hnewest : c.newest = some k := hl.newest.trans List.getLast?_concat
    exact ⟨a, k, hl, hnewest, (newestClosed_recording hrec hnewest).trans hl.previous_eq⟩

theorem sameChain_rolled {c : Capture} (n : Nat) (h : c.ChainLawful) (hrec : c.recorder = .recording) :
    c.SameChain (c.holdAll (c.preRollSlots n)) := by
  refine sameChain_holds (holdAll_rest _ _) (fun k => ⟨_, _, holdAll_get c _ k⟩) fun k hk hheld => ?_
  obtain ⟨a, m, hchain, hnewest, hclosed⟩ := chained_recording h hrec
  obtain rfl : m = k := Option.some.inj (hnewest.symm.trans ((h.writing k).1 hk).2)
  have hout : m ∉ c.preRollSlots n := fun hin => by
    rw [Capture.preRollSlots, hclosed] at hin
    exact List.disjoint_of_nodup_append hchain.nodup (preRoll_mem hchain.toLinkedBy _ _ hin) (List.mem_singleton_self m)
  rwa [held_iff, holdAll_get, List.count_eq_zero.2 hout, Nat.add_zero, ← held_iff] at hheld

end Sys2Proof.Machine
end

section
/-! SUPPORT. The capture chain while a slot is closed and the next one opened (R133, R135), and with it the law of the chain
through every step. -/

namespace Sys2Proof.Machine

/-! ## A chain with no writing slot -/

/-- The law of the chain while no slot is WRITING and the ring has slots. -/
structure Capture.Resting (c : Capture) : Prop where
  chain : ∃ l, c.ChainedBy l
  closed : ∀ k, (c.slots.get k).state ≠ .writing
  count : 1 ≤ c.source.slotCount ∧ c.source.slotCount ≤ 1024
  within : ∀ k, c.source.slotCount ≤ k.val → (c.slots.get k).state = .empty

/-- The clips and the recorder have no part in it. -/
theorem Capture.Resting.withClips {c : Capture} (h : c.Resting) (x : Tab Clip 32) (r : RecorderState) :
    ({ c with clips := x, recorder := r } : Capture).Resting := by
  obtain ⟨⟨l, hl⟩, hclosed, hcount, hwithin⟩ := h
  exact ⟨⟨l, hl.keeps rfl rfl (fun _ => rfl) (fun _ => rfl) fun _ => Iff.rfl⟩, hclosed, hcount, hwithin⟩

/-- The chain law holds of it while not RECORDING. -/
theorem Capture.Resting.lawful {c : Capture} (h : c.Resting) (hrec : c.recorder ≠ .recording) : c.ChainLawful := by
  obtain ⟨⟨l, hl⟩, hclosed, ⟨hpos, hcount⟩, hwithin⟩ := h
  exact chainLawful_of hl (fun k => ⟨fun hk => absurd hk (hclosed k), fun hk => absurd hk.1 hrec⟩)
    (fun hr => absurd hr hrec) (fun k hk => absurd hk (hclosed k)) ⟨hcount, fun _ => hpos⟩ hwithin

theorem Capture.ChainLawful.resting {c : Capture} (h : c.ChainLawful) (hrec : c.recorder ≠ .recording)
    (hpos : 1 ≤ c.source.slotCount) : c.Resting :=
  ⟨h.chained, fun k hk => hrec ((h.writing k).1 hk).1, ⟨hpos, h.count.1⟩, h.within⟩

/-- One slot changed that stays in the chain, at its links, and is not WRITING. -/
theorem Capture.Resting.modifySlot {c : Capture} (h : c.Resting) (k : Fin 1024) {f : Slot → Slot}
    (hf : ∀ t, (f t).next = t.next ∧ (f t).previous = t.previous ∧ (f t).state = t.state) :
    (c.modifySlot k f).Resting := by
  obtain ⟨⟨l, hl⟩, hclosed, hcount, hwithin⟩ := h
  have hslot : ∀ j, ((c.modifySlot k f).slots.get j).next = (c.slots.get j).next ∧
      ((c.modifySlot k f).slots.get j).previous = (c.slots.get j).previous ∧
      ((c.modifySlot k f).slots.get j).state = (c.slots.get j).state := fun j => by
    rw [slots_modifySlot]
    split
    · exact hf _
    · exact ⟨rfl, rfl, rfl⟩
  refine ⟨⟨l, hl.keeps rfl rfl (fun j => (hslot j).1) (fun j => (hslot j).2.1) fun j => by rw [(hslot j).2.2]⟩,
    fun j => ?_, hcount, fun j hj => ?_⟩
  · rw [(hslot j).2.2]
    exact hclosed j
  · rw [(hslot j).2.2]
    exact hwithin j hj

/-! ## The writing slot closed -/

theorem closed_state (t : Slot) (lines : Nat) (cause : CloseCause) :
    (t.close lines cause).state ≠ .empty ∧ (t.close lines cause).state ≠ .writing := by
  rw [close_eq, slotClosed]
  dsimp only
  split
  · exact ⟨by decide, by decide⟩
  · split <;> exact ⟨by decide, by decide⟩

/-- With the writing slot closed the chain is at rest. -/
theorem closeSlot_resting (tag : BitVec 16) (cause : CloseCause) {k : Fin 1024} {s : State} (h : s.capture.ChainLawful)
    (hrec : s.capture.recorder = .recording) (hk : s.capture.newest = some k) :
    (closeSlot tag cause k s).capture.Resting := by
  obtain ⟨l, hl⟩ := h.chained
  have hwriting : (s.capture.slots.get k).state = .writing := (h.writing k).2 ⟨hrec, hk⟩
  have hclose := closed_state (s.slot k) s.capture.source.lines cause
  have hkept : ∀ j, (s.capture.modifySlot k fun _ => (s.slot k).close s.capture.source.lines cause).slots.get j =
      if k = j then (s.slot k).close s.capture.source.lines cause else s.capture.slots.get j := fun j =>
    slots_modifySlot _ _ _ _
  have hclosed : (s.capture.modifySlot k fun _ => (s.slot k).close s.capture.source.lines cause).Resting := by
    refine ⟨⟨l, hl.keeps rfl rfl (fun j => ?_) (fun j => ?_) fun j => ?_⟩, fun j => ?_,
      ⟨h.count.2 (by rw [hrec]; decide), h.count.1⟩, fun j hj => ?_⟩ <;>
    rw [hkept] <;> split
    next hkj => rw [← hkj]; rfl
    next => rfl
    next hkj => rw [← hkj]; rfl
    next => rfl
    next hkj =>
      rw [← hkj, hwriting]
      exact ⟨fun he => absurd he hclose.1, fun he => absurd he (by decide)⟩
    next => rfl
    next => exact hclose.2
    next hkj => exact fun hw => hkj (Option.some.inj (hk.symm.trans ((h.writing j).1 hw).2))
    next hkj =>
      rw [← hkj] at hj
      exact absurd ((h.within k hj).symm.trans hwriting) (by decide)
    next => exact h.within j hj
  unfold closeSlot
  dsimp only
  split
  · exact hclosed
  · rw [postSlotPartial, post_capture]
    exact hclosed

theorem joinClip_resting (tag : BitVec 16) (k : Fin 1024) {s : State} (h : s.capture.Resting) :
    (joinClip tag k s).capture.Resting := by
  unfold joinClip
  split
  · exact h
  · dsimp only
    split
    · exact (h.modifySlot k (f := fun t => { t with clipHolds := 1 }) fun _ => ⟨rfl, rfl, rfl⟩).withClips _ s.capture.recorder
    · rw [postClipLimit, post_capture]
      exact h.withClips _ _

theorem closeAndJoin_resting (tag : BitVec 16) (cause : CloseCause) {s : State} (h : s.capture.ChainLawful)
    (hrec : s.capture.recorder = .recording) : (closeAndJoin tag cause s).capture.Resting := by
  obtain ⟨k, hk⟩ := Option.ne_none_iff_exists'.1 (h.recording hrec)
  rw [closeAndJoin, writing_some.2 ⟨hrec, hk⟩]
  exact joinClip_resting tag k (closeSlot_resting tag cause h hrec hk)

theorem closeAndJoin_recorder (tag : BitVec 16) (cause : CloseCause) (s : State) :
    (closeAndJoin tag cause s).capture.recorder = s.capture.recorder := by
  cases hw : s.capture.writing with
  | none => rw [closeAndJoin_none tag cause hw]
  | some k =>
    obtain ⟨joined, clipped, hcloses, hclose⟩ := closeAndJoin_eq tag cause hw
    rw [hclose, offer_capture, State.withCapture_capture]
    exact (clipOffered_keeps hcloses).1

theorem closeClip_resting {s : State} (h : s.capture.Resting) : (closeClip s).capture.Resting := by
  unfold closeClip
  split
  · exact h
  · exact h.withClips _ s.capture.recorder

theorem stopRecorder_chain (tag : BitVec 16) (cause : CloseCause) {s : State} (h : s.capture.ChainLawful) :
    (stopRecorder tag cause s).capture.ChainLawful := by
  by_cases hrec : s.capture.recorder = .recording
  · unfold stopRecorder
    dsimp only
    rw [if_pos hrec]
    have hrest := closeClip_resting (closeAndJoin_resting tag cause h hrec)
    exact (hrest.withClips _ .off).lawful (show RecorderState.off ≠ .recording by decide)
  · rw [stopRecorder_idle tag cause hrec]
    obtain ⟨l, hl⟩ := h.chained
    have hnone : ∀ k, (s.capture.slots.get k).state ≠ .writing := fun k hk => hrec ((h.writing k).1 hk).1
    exact chainLawful_of (hl.keeps rfl rfl (fun _ => rfl) (fun _ => rfl) fun _ => Iff.rfl)
      (fun k => ⟨fun hk => absurd hk (hnone k), fun hk => absurd hk.1 (show RecorderState.off ≠ .recording by decide)⟩)
      (fun hr => absurd hr (show RecorderState.off ≠ .recording by decide))
      (fun k hk => absurd hk (hnone k)) ⟨h.count.1, fun hoff => absurd rfl hoff⟩ h.within

/-! ## A slot opened -/

theorem unlink_empty {c : Capture} {k : Fin 1024} (h : (c.slots.get k).state = .empty) : c.unlink k = c := by
  rw [Capture.unlink, if_pos h]

theorem unlink_linked {c : Capture} {l : List (Fin 1024)} (h : c.ChainedBy l) (k : Fin 1024) :
    (c.unlink k).LinkedBy (l.erase k) := by
  by_cases hk : k ∈ l
  · have hfull := (h.mem k).1 hk
    obtain ⟨a, b, rfl⟩ := List.append_of_mem hk
    have hnodup := h.nodup
    have hka : k ∉ a := fun ha => List.disjoint_of_nodup_append hnodup ha (List.mem_cons_self ..)
    have hprevious := h.toLinkedBy.previous_eq
    have hnext := h.toLinkedBy.next_eq
    have herase : (a ++ k :: b).erase k = a ++ b := by rw [List.erase_append_right _ hka, List.erase_cons_head]
    have hreverse : (a ++ k :: b).reverse = b.reverse ++ k :: a.reverse := by simp
    have hends := unlink_ends c k
    rw [herase]
    refine ⟨herase ▸ hnodup.erase k, ?_, ?_, h.next.without hnodup fun m => ?_, ?_⟩
    · rw [hends, hprevious, hnext, h.oldest]
      cases a <;> simp [hfull]
    · rw [hends, hprevious, hnext, h.newest]
      cases b using List.reverseRecOn with
      | nil => simp [hfull]
      | append_singleton b m => simp [List.getLast?_cons]
    · rw [unlink_get, hprevious, hnext]
      simp [hfull]
    · rw [List.reverse_append]
      refine (hreverse ▸ h.previous : Linked _ (b.reverse ++ k :: a.reverse)).without
        (hreverse ▸ List.nodup_reverse.2 hnodup) fun m => ?_
      rw [unlink_get, hprevious, hnext]
      simp [hfull]
  · have hempty : (c.slots.get k).state = .empty := not_not.1 fun hne => hk ((h.mem k).2 hne)
    rw [unlink_empty hempty, List.erase_of_not_mem hk]
    exact h.toLinkedBy

theorem append_linked {c : Capture} {l : List (Fin 1024)} (h : c.LinkedBy l) {k : Fin 1024} (clock : Nat) (hk : k ∉ l) :
    (c.append k clock).LinkedBy (l ++ [k]) := by
  have hends := append_ends c k clock
  have hne : ∀ m ∈ l, m ≠ k := fun m hm heq => hk (heq ▸ hm)
  refine ⟨List.nodup_append.2 ⟨h.nodup, List.nodup_singleton k, fun m hm j hj => ?_⟩, ?_, ?_,
    h.next.extended h.nodup ?_ fun m hm => ?_, ?_⟩
  · rw [List.mem_singleton.1 hj]
    exact hne m hm
  · rw [hends, h.newest, h.oldest]
    cases l <;> simp
  · rw [hends, List.getLast?_concat]
  · rw [append_get_self]
  · rw [append_get_ne _ _ (hne m hm), h.newest]
  · rw [List.reverse_append]
    refine ⟨?_, h.previous.congr fun m hm => ?_⟩
    · show ((c.append k clock).slots.get k).previous = l.reverse.head?
      rw [append_get_self, h.newest, List.head?_reverse]
    · rw [append_get_ne _ _ (hne m (List.mem_reverse.1 hm))]

/-- R133: on a chain at rest a slot opened is the newest, and WRITING. -/
theorem opened_chain {c : Capture} (h : c.Resting) (hrec : c.recorder = .recording) {k : Fin 1024} (clock : Nat)
    (hk : k.val < c.source.slotCount) (hfree : (c.slots.get k).held = false) :
    ((c.unlink k).append k clock).ChainLawful := by
  obtain ⟨⟨l, hl⟩, hclosed, ⟨hpos, hcount⟩, hwithin⟩ := h
  have hout : k ∉ l.erase k := hl.nodup.not_mem_erase
  have hends : (c.unlink k).append k clock = { c with
      slots := ((c.unlink k).append k clock).slots, captureNumber := c.captureNumber + 1, lastOpened := some k
      newest := some k, oldest := ((c.unlink k).append k clock).oldest } := by
    rw [append_ends, unlink_ends]
  have hsource : ((c.unlink k).append k clock).source = c.source := by rw [hends]
  have hrecorder : ((c.unlink k).append k clock).recorder = .recording := by rw [hends, hrec]
  have hnewest : ((c.unlink k).append k clock).newest = some k := by rw [hends]
  have hself : (((c.unlink k).append k clock).slots.get k).state = .writing := by rw [append_get_self]
  have hstate : ∀ m, m ≠ k → (((c.unlink k).append k clock).slots.get m).state = (c.slots.get m).state := fun m hm => by
    rw [append_get_ne _ _ hm, unlink_get]
  refine chainLawful_of (l := l.erase k ++ [k]) ⟨append_linked (unlink_linked hl k) clock hout, fun m => ?_⟩ (fun m => ?_)
    (fun _ => by rw [hnewest]; exact Option.some_ne_none k) (fun m hm => ?_)
    (by rw [hsource]; exact ⟨hcount, fun _ => hpos⟩) fun m hm => ?_
  · rw [List.mem_append, List.mem_singleton]
    by_cases hmk : m = k
    · rw [hmk, hself]
      simp
    · rw [hstate m hmk, ← hl.mem, List.mem_erase_of_ne hmk, or_iff_left hmk]
  · rw [hrecorder, hnewest, eq_self, true_and, Option.some.injEq]
    by_cases hmk : m = k
    · rw [hmk, hself, eq_self, eq_self]
    · rw [hstate m hmk]
      exact ⟨fun hw => absurd hw (hclosed m), fun heq => absurd heq.symm hmk⟩
  · obtain rfl : m = k := not_not.1 fun hmk => hclosed m ((hstate m hmk).symm.trans hm)
    rw [append_get_self, unlink_get]
    exact hfree
  · rw [hsource] at hm
    rw [hstate m fun heq => absurd hk (by rw [← heq]; exact Nat.not_lt.2 hm)]
    exact hwithin m hm

/-! ## The walk of the ring -/

/-- From any start the walk of the ring passes every slot of it. -/
theorem walk_reaches {n m : Nat} (start : Nat) (hm : m < n) : ∃ j, j < n ∧ (start + j) % n = m := by
  have hdiv := Nat.div_add_mod start n
  have hrest := Nat.mod_lt start (Nat.zero_lt_of_lt hm)
  obtain hlt | hle := Nat.lt_or_ge m (start % n)
  · refine ⟨m + n - start % n, by omega, ?_⟩
    rw [show start + (m + n - start % n) = n * (start / n) + (m + n) by omega, Nat.mul_add_mod, Nat.add_mod_right,
      Nat.mod_eq_of_lt hm]
  · refine ⟨m - start % n, by omega, ?_⟩
    rw [show start + (m - start % n) = n * (start / n) + m by omega, Nat.mul_add_mod,
      Nat.mod_eq_of_lt hm]

theorem mem_walk {n : Nat} {m : Fin 1024} (start : Nat) (hm : m.val < n) :
    m ∈ (List.range n).map fun j => (⟨(start + j) % n % 1024, Nat.mod_lt _ (by decide)⟩ : Fin 1024) := by
  obtain ⟨j, hj, hplace⟩ := walk_reaches start hm
  exact List.mem_map.2 ⟨j, List.mem_range.2 hj, Fin.ext (by dsimp only; rw [hplace, Nat.mod_eq_of_lt m.isLt])⟩

theorem mem_walkOrder {c : Capture} {m : Fin 1024} (hm : m.val < c.source.slotCount) : m ∈ c.walkOrder := mem_walk _ hm

theorem walkOrder_lt {c : Capture} {m : Fin 1024} (h : m ∈ c.walkOrder) : m.val < c.source.slotCount := by
  obtain ⟨j, hj, rfl⟩ := List.mem_map.1 h
  exact (Nat.mod_le _ _).trans_lt (Nat.mod_lt _ (Nat.zero_lt_of_lt (List.mem_range.1 hj)))

/-- The law of holds leaves a slot of the ring that nothing holds. -/
theorem candidate_exists {c : Capture} (h : c.HoldsLawful) (hpos : 1 ≤ c.source.slotCount)
    (hcount : c.source.slotCount ≤ 1024) : ∃ k, c.candidate = some k ∧ k.val < c.source.slotCount ∧
      (c.slots.get k).held = false := by
  cases hcand : c.candidate with
  | some k =>
    refine ⟨k, rfl, walkOrder_lt (List.mem_of_find?_eq_some hcand), ?_⟩
    simpa using List.find?_some hcand
  | none =>
    have hall : ∀ m : Fin 1024, m.val < c.source.slotCount → (c.slots.get m).held = true := fun m hm => by
      simpa using List.find?_eq_none.1 hcand m (mem_walkOrder hm)
    have hcard : (Finset.range c.source.slotCount).card ≤ c.heldSlots.card := by
      refine Finset.card_le_card_of_injOn (Fin.ofNat 1024) (fun m hm => ?_) fun m hm j hj heq => ?_
      · have hlt := Finset.mem_range.1 hm
        exact mem_heldSlots.2 (hall _ (by rw [Fin.val_ofNat, Nat.mod_eq_of_lt (by omega)]; exact hlt))
      · have hm := Finset.mem_range.1 hm
        have hj := Finset.mem_range.1 hj
        have hval := congrArg Fin.val heq
        rwa [Fin.val_ofNat, Fin.val_ofNat, Nat.mod_eq_of_lt (by omega), Nat.mod_eq_of_lt (by omega)] at hval
    rw [Finset.card_range, ← heldCount_eq] at hcard
    have hlimit : c.heldCount ≤ c.source.slotCount - 1 := h
    omega

theorem openSlot_chain {s : State} (hholds : s.capture.HoldsLawful) (h : s.capture.Resting)
    (hrec : s.capture.recorder = .recording) : (openSlot s).capture.ChainLawful := by
  obtain ⟨k, hcand, hk, hfree⟩ := candidate_exists hholds h.count.1 h.count.2
  rw [openSlot_some hcand]
  exact opened_chain h hrec _ hk hfree

theorem recordEdge_chain (edge : Edge) {s : State} (hholds : s.capture.HoldsLawful) (h : s.capture.ChainLawful) :
    (recordEdge edge s).capture.ChainLawful := by
  unfold recordEdge recordPulse
  split
  · split
    next => exact h
    next harmed =>
      have hrest := h.resting (by rw [harmed]; decide) (h.count.2 (by rw [harmed]; decide))
      exact openSlot_chain (by exact hholds) (hrest.withClips s.capture.clips .recording) rfl
    next hrec =>
      exact openSlot_chain (closeAndJoin_holds 0 .pulse hholds) (closeAndJoin_resting 0 .pulse h hrec)
        ((closeAndJoin_recorder 0 .pulse s).trans hrec)
  · exact h

/-! ## Arming and RECORD deposits -/

theorem armed_chain {c : Capture} (h : c.ChainLawful) (hoff : c.recorder = .off) (hready : c.source.armable = true) :
    ({ c with recorder := .armed } : Capture).ChainLawful := by
  have hpos : c.source.slotCount ≠ 0 := ((armable_iff _).1 hready).1
  exact ((h.resting (by rw [hoff]; decide) (Nat.one_le_iff_ne_zero.2 hpos)).withClips c.clips .armed).lawful
    (show RecorderState.armed ≠ .recording by decide)

theorem deposited_chain {c : Capture} {e : RecordSource} (h : c.ChainLawful) (hoff : c.recorder = .off)
    (hcount : e.slotCount ≤ 1024) :
    ({ (if e.sameRing c.source then c else c.emptied) with source := e } : Capture).ChainLawful := by
  have hnone : c.recorder ≠ .recording := by rw [hoff]; decide
  by_cases hsame : e.sameRing c.source = true
  · have hring : e.slotCount = c.source.slotCount := by rw [(sameRing_iff _ _).1 hsame]
    rw [if_pos hsame]
    obtain ⟨l, hl⟩ := h.chained
    exact chainLawful_of (hl.keeps rfl rfl (fun _ => rfl) (fun _ => rfl) fun _ => Iff.rfl) h.writing h.recording h.unheld
      ⟨hcount, fun hon => absurd hoff hon⟩ fun k hk => h.within k (hring ▸ hk)
  · rw [if_neg hsame]
    have hslots : ∀ k, c.emptied.slots.get k = Slot.initial := fun k => Tab.get_fill Slot.initial k
    refine chainLawful_of (l := []) ⟨⟨List.nodup_nil, rfl, rfl, trivial, trivial⟩, fun k => ?_⟩ (fun k => ?_)
      (fun hrec => absurd hrec hnone) (fun k hk => ?_) ⟨hcount, fun hon => absurd hoff hon⟩ fun k _ => ?_
    · show k ∈ [] ↔ (c.emptied.slots.get k).state ≠ .empty
      rw [hslots]
      exact ⟨nofun, fun hne => absurd rfl hne⟩
    · show (c.emptied.slots.get k).state = .writing ↔ _
      rw [hslots]
      exact ⟨nofun, fun hrec => absurd hrec.1 hnone⟩
    · rw [show ({ c.emptied with source := e } : Capture).slots.get k = Slot.initial from hslots k] at hk
      exact absurd hk (by decide)
    · exact congrArg Slot.state (hslots k)

/-! ## Steps -/

/-- The two laws of capture: the law of holds is what leaves a slot to open. -/
theorem chainLawful_kept : Capture.Kept fun c => c.HoldsLawful ∧ c.ChainLawful where
  initial := ⟨Capture.initial_holds, Capture.initial_chain⟩
  clips x := fun ⟨hholds, h⟩ => ⟨hholds, (sameChain_clips _ x).lawful h⟩
  touched k _ hf := fun ⟨hholds, h⟩ => ⟨holdsLawful_kept.touched k hf hholds, (sameChain_touched _ k hf).lawful h⟩
  turned edge _ := fun ⟨hholds, h⟩ => ⟨recordEdge_holds edge hholds, recordEdge_chain edge hholds h⟩
  stopped tag cause _ := fun ⟨hholds, h⟩ => ⟨stopRecorder_holds tag cause hholds, stopRecorder_chain tag cause h⟩
  armed hoff hready := fun ⟨hholds, h⟩ => ⟨hholds, armed_chain h hoff hready⟩
  released := fun ⟨hholds, h⟩ => ⟨holdsLawful_kept.released hholds, (sameChain_released _).lawful h⟩
  replaced hd := fun ⟨_, h⟩ => ⟨replacePlayer_holds hd, (sameChain_replaced hd).lawful h⟩
  rolled n hrec := fun ⟨hholds, h⟩ => ⟨preRollSlots_holds n hholds, (sameChain_rolled n h hrec).lawful h⟩
  freed l := fun ⟨hholds, h⟩ => ⟨holdsLawful_kept.freed l hholds, (sameChain_freed _ l).lawful h⟩
  deposited hoff hcount hfree := fun ⟨hholds, h⟩ =>
    ⟨holdsLawful_kept.deposited hoff hcount hfree hholds, deposited_chain h hoff hcount⟩

/-- Settles O56: each operation of capture keeps the law of holds, and under it the law of the chain. -/
theorem holdsStayLawful : Obligations.HoldsStayLawful :=
  ⟨fun _ _ h hst => holdsLawful_kept.step hst h, fun _ _ hholds h hst => (chainLawful_kept.step hst ⟨hholds, h⟩).2⟩

end Sys2Proof.Machine
end

section
/-! SUPPORT. The three cues (R148 to R151): the slots they name along the capture chain, and what they answer. -/

namespace Sys2Proof.Machine

/-! ## Walks along the chain -/

theorem back_walks (c : Capture) (n : Nat) (start : Option (Fin 1024)) :
    Walks (fun k => (c.slots.get k).previous) n start (c.back n start) := by
  induction n generalizing start with
  | zero => exact walks_zero _ _
  | succ n ih =>
    cases start with
    | none => exact walks_none _ _
    | some k => exact walks_cons (ih _)

/-- A run along the chain passes its slots in order. -/
theorem run_eq {c : Capture} {a b : List (Fin 1024)} (h : c.LinkedBy (a ++ b)) (n : Nat) :
    c.run n b.head? = b.take n := by
  induction b generalizing a n with
  | nil => cases n <;> rfl
  | cons k b ih =>
    cases n with
    | zero => rfl
    | succ n =>
      have hrest : c.LinkedBy ((a ++ [k]) ++ b) := by rwa [List.append_assoc]
      rw [List.head?_cons, Capture.run, h.next_eq, ih hrest]
      rfl

/-- The chain read backwards from one of its places. -/
theorem back_eq {c : Capture} {a b : List (Fin 1024)} (h : c.LinkedBy (a ++ b)) {n : Nat} (hn : a.length ≤ n) :
    c.back n a.getLast? = a.reverse := by
  induction n generalizing a b with
  | zero =>
    obtain rfl := List.length_eq_zero_iff.1 (Nat.le_zero.1 hn)
    rfl
  | succ n ih =>
    cases a using List.reverseRecOn with
    | nil => rfl
    | append_singleton a k =>
      have hchain : c.LinkedBy (a ++ k :: b) := by rwa [List.append_assoc] at h
      rw [List.length_append, List.length_singleton] at hn
      rw [List.getLast?_concat, Capture.back, hchain.previous_eq, ih hchain (by omega), List.reverse_concat]

/-! ## Closed slots -/

theorem closed_iff (t : Slot) : t.closed = true ↔ SlotIsClosed t := by
  simp [Slot.closed, SlotIsClosed, or_assoc]

/-- A slot of the chain is closed unless it is the writing one. -/
theorem closed_of {t : Slot} (hempty : t.state ≠ .empty) (hwriting : t.state ≠ .writing) : SlotIsClosed t := by
  cases hs : t.state with
  | empty => exact absurd hs hempty
  | writing => exact absurd hs hwriting
  | settling => exact .inl hs
  | complete => exact .inr (.inl hs)
  | partialState => exact .inr (.inr hs)

theorem state_of_closed {t : Slot} (h : SlotIsClosed t) : t.state ≠ .empty ∧ t.state ≠ .writing := by
  obtain h | h | h := h <;> rw [h] <;> exact ⟨by decide, by decide⟩

/-- The closed slots are the chain up to the newest closed slot. -/
theorem closedChain {c : Capture} (h : c.ChainLawful) : ∃ a b, c.LinkedBy (a ++ b) ∧ c.newestClosed = a.getLast? ∧
    (∀ k, k ∈ a ↔ SlotIsClosed (c.slots.get k)) ∧ ∀ k ∈ b, ¬ SlotIsClosed (c.slots.get k) := by
  by_cases hrec : c.recorder = .recording
  · obtain ⟨a, k, hchain, hnewest, hclosed⟩ := chained_recording h hrec
    have hk : (c.slots.get k).state = .writing := (h.writing k).2 ⟨hrec, hnewest⟩
    refine ⟨a, [k], hchain.toLinkedBy, hclosed, fun j => ⟨fun hj => ?_, fun hj => ?_⟩, fun j hj hclosed => ?_⟩
    · refine closed_of ((hchain.mem j).1 (List.mem_append_left _ hj)) fun hw => ?_
      obtain rfl : k = j := Option.some.inj (hnewest.symm.trans ((h.writing j).1 hw).2)
      exact List.disjoint_of_nodup_append hchain.nodup hj (List.mem_singleton_self k)
    · obtain ⟨hempty, hwriting⟩ := state_of_closed hj
      refine (List.mem_append.1 ((hchain.mem j).2 hempty)).resolve_right fun hjk => ?_
      rw [List.mem_singleton.1 hjk] at hwriting
      exact hwriting hk
    · rw [List.mem_singleton.1 hj] at hclosed
      exact (state_of_closed hclosed).2 hk
  · obtain ⟨l, hl⟩ := h.chained
    refine ⟨l, [], by rw [List.append_nil]; exact hl.toLinkedBy, (newestClosed_idle hrec).trans hl.newest,
      fun k => ⟨fun hk => ?_, fun hk => ?_⟩, nofun⟩
    · exact closed_of ((hl.mem k).1 hk) fun hw => hrec ((h.writing k).1 hw).1
    · exact (hl.mem k).2 (state_of_closed hk).1

theorem linkedBy_length {c : Capture} {l : List (Fin 1024)} (h : c.LinkedBy l) : l.length ≤ 1024 := by
  have hcard := h.nodup.length_le_card
  rwa [Fintype.card_fin] at hcard

theorem completeSlots_eq (c : Capture) : c.completeSlots = (c.back 1024 c.newestClosed).filter fun k =>
    SlotIsClosed (c.slots.get k) ∧ (c.slots.get k).verdict = .complete := by
  refine List.filter_congr fun k _ => ?_
  rw [Bool.eq_iff_iff, Bool.and_eq_true, closed_iff, beq_iff_eq, decide_eq_true_eq]

theorem closedFrom_eq (c : Capture) (k : Fin 1024) : c.closedFrom k =
    ((c.run 1024 (some k)).filter fun j => SlotIsClosed (c.slots.get j)).length := by
  rw [Capture.closedFrom, List.countP_eq_length_filter]
  congr 2
  funext j
  rw [Bool.eq_iff_iff, closed_iff, decide_eq_true_eq]

/-- With a lawful chain every COMPLETE slot is found. -/
theorem mem_completeSlots {c : Capture} (h : c.ChainLawful) (k : Fin 1024) : k ∈ c.completeSlots ↔
    SlotIsClosed (c.slots.get k) ∧ (c.slots.get k).verdict = .complete := by
  obtain ⟨a, b, hchain, hnewest, hclosed, -⟩ := closedChain h
  have hlength := linkedBy_length hchain
  rw [List.length_append] at hlength
  rw [completeSlots_eq, hnewest, back_eq hchain (by omega), List.mem_filter, List.mem_reverse, hclosed, decide_eq_true_eq]
  tauto

/-- With a lawful chain the closed slots from a closed slot on are the chain from it to the newest closed slot. -/
theorem closedFrom_chain {c : Capture} (h : c.ChainLawful) {k : Fin 1024} (hk : SlotIsClosed (c.slots.get k)) :
    ∃ l : List (Fin 1024), c.closedFrom k = l.length ∧ l.Nodup ∧ (∀ j ∈ l, SlotIsClosed (c.slots.get j)) ∧
      l.getLast? = c.newestClosed ∧ Walks (fun j => (c.slots.get j).next) l.length (some k) l := by
  obtain ⟨a, b, hchain, hnewest, hclosed, hopen⟩ := closedChain h
  obtain ⟨x, y, rfl⟩ := List.append_of_mem ((hclosed k).2 hk)
  have htail : c.LinkedBy (x ++ (k :: y ++ b)) := by rwa [← List.append_assoc]
  have hlength := linkedBy_length htail
  rw [List.length_append] at hlength
  have hrun : ∀ n, c.run n (some k) = (k :: y ++ b).take n := run_eq htail
  have hin : ∀ j ∈ k :: y, SlotIsClosed (c.slots.get j) := fun j hj => (hclosed j).1 (List.mem_append_right _ hj)
  refine ⟨k :: y, ?_, ?_, hin, ?_, ?_⟩
  · rw [closedFrom_eq, hrun, List.take_of_length_le (by omega), List.filter_append,
      List.filter_eq_self.2 fun j hj => decide_eq_true (hin j hj),
      List.filter_eq_nil_iff.2 fun j hj => by rw [decide_eq_true_eq]; exact hopen j hj, List.append_nil]
  · exact (List.nodup_append.1 (List.nodup_append.1 htail.nodup).2.1).1
  · rw [hnewest, List.getLast?_append_of_ne_nil _ (List.cons_ne_nil k y)]
  · have hwalk := run_walks c (k :: y).length (some k)
    rwa [hrun, List.take_left] at hwalk

/-! ## The answer to a cue -/

section
variable {h : Header} {s : State}

/-- The slots held once the player has exactly the named ones. -/
theorem granted_heldCount (c : Capture) (named : List (Fin 1024)) : (c.granted named).heldCount =
    ((List.finRange 1024).filter fun k => (c.slots.get k).clipHolds ≠ 0 ∨ k ∈ named).length := by
  rw [heldCount_filter]
  congr 2
  funext k
  simp only [granted_get, decide_eq_true_eq]

theorem cueAnswer (code : Nat) (k : Fin 1024) (n : Nat) (clamped : Bool) (extra : List Byte) {reply : State → Reply}
    (hreply : ∀ t, reply t = .done t clamped (packPlayer t.player ++ extra) false) :
    CueAnswer code h k n clamped extra s (acknowledge code .player h s (match cue k n s with
      | .error why => .refuse why
      | .ok t => reply t)) := by
  have hall : (s.capture.run n (some k)).all (fun k => (s.capture.slots.get k).closed) = true ↔
      ∀ j ∈ s.capture.run n (some k), SlotIsClosed (s.capture.slots.get j) := by
    rw [List.all_eq_true]
    exact forall₂_congr fun j _ => closed_iff _
  refine ⟨fun hopen => ?_, fun hclosed hfull => ?_, fun hclosed hroom => ?_⟩ <;>
  rw [cue, replacePlayer_eq]
  · obtain ⟨j, hj, hno⟩ := hopen
    rw [if_neg (mt hall.1 fun hyes => hno (hyes j hj))]
    exact acknowledge_refuse ..
  · rw [if_pos (hall.2 hclosed), granted_heldCount, if_neg (by exact Nat.not_le.2 hfull)]
    exact acknowledge_refuse ..
  · refine ⟨(s.capture.granted (s.capture.run n (some k))).slots, granted_get _ _, ?_⟩
    rw [if_pos (hall.2 hclosed), granted_heldCount, if_pos (by exact hroom)]
    dsimp only
    rw [hreply, acknowledge_done, granted_rest]
    rfl

theorem playerReply_eq (clamped : Bool) (t : State) :
    playerReply clamped t = .done t clamped (packPlayer t.player ++ []) false := by rw [List.append_nil, playerReply]

/-! ## CUE_CLIP and CUE_RANGE -/

theorem takeCueClip_range {clip : Byte} (hclip : 31 < clip.toNat) :
    takeCueClip h clip s = s.refuse 0x51 .player h .range := by
  rw [takeCueClip, index_none (by omega)]
  exact acknowledge_refuse ..

theorem takeCueClip_absent {clip : Byte} {i : Fin 32} (hclip : clip.toNat = i.val)
    (hi : (s.capture.clips.get i).state ≠ .closed) : takeCueClip h clip s = s.refuse 0x51 .player h .absent := by
  rw [takeCueClip, hclip, index_val]
  dsimp only
  rw [if_pos hi]
  exact acknowledge_refuse ..

theorem takeCueClip_empty {clip : Byte} {i : Fin 32} (hclip : clip.toNat = i.val)
    (hi : (s.capture.clips.get i).state = .closed)
    (hempty : (s.capture.clips.get i).length = 0 ∨ (s.capture.clips.get i).first = none) :
    takeCueClip h clip s = s.refuse 0x51 .player h .range := by
  rw [takeCueClip, hclip, index_val]
  dsimp only
  rw [if_neg (not_not.2 hi)]
  cases hfirst : (s.capture.clips.get i).first with
  | none => exact acknowledge_refuse ..
  | some k =>
    have hzero := hempty.resolve_right (by rw [hfirst]; exact Option.some_ne_none k)
    dsimp only
    rw [if_pos hzero]
    exact acknowledge_refuse ..

theorem takeCueClip_cue {clip : Byte} {i : Fin 32} {k : Fin 1024} (hclip : clip.toNat = i.val)
    (hi : (s.capture.clips.get i).state = .closed) (hlen : (s.capture.clips.get i).length ≠ 0)
    (hfirst : (s.capture.clips.get i).first = some k) :
    CueAnswer 0x51 h k (s.capture.clips.get i).length false [] s (takeCueClip h clip s) := by
  rw [takeCueClip, hclip, index_val]
  dsimp only
  rw [if_neg (not_not.2 hi), hfirst]
  dsimp only
  rw [if_neg hlen]
  exact cueAnswer 0x51 k _ false [] (playerReply_eq false)

theorem takeCueRange_range {first length : BitVec 16}
    (hfirst : 1023 < first.toNat ∨ ∃ k : Fin 1024, first.toNat = k.val ∧ ¬ SlotIsClosed (s.slot k)) :
    takeCueRange h first length s = s.refuse 0x52 .player h .range := by
  obtain hbeyond | ⟨k, hk, hopen⟩ := hfirst
  · rw [takeCueRange, index_none (by omega)]
    exact acknowledge_refuse ..
  · rw [takeCueRange, hk, index_val]
    dsimp only
    rw [if_neg (mt (closed_iff _).1 hopen)]
    exact acknowledge_refuse ..

theorem takeCueRange_cue {first length : BitVec 16} {k : Fin 1024} (hfirst : first.toNat = k.val)
    (hclosed : SlotIsClosed (s.slot k)) :
    CueAnswer 0x52 h k (s.capture.rangeLength k length.toNat)
      (decide (s.capture.rangeLength k length.toNat ≠ length.toNat)) [] s (takeCueRange h first length s) := by
  rw [takeCueRange, hfirst, index_val]
  dsimp only
  rw [if_pos ((closed_iff _).2 hclosed), ← bne_eq_decide (a := s.capture.rangeLength k length.toNat) Iff.rfl]
  exact cueAnswer 0x52 k _ _ [] (playerReply_eq _)

/-! ## CUE_CLOCK -/

theorem nearest_none {c : Capture} {v : Nat} {l : List (Fin 1024)} (h : c.nearest v l = none) : l = [] := by
  cases l with
  | nil => rfl
  | cons k rest =>
    rw [Capture.nearest] at h
    split at h
    · cases h
    · split at h <;> cases h

/-- The newest of the nearest slots: nearer than those before it, and no farther than those behind it. -/
theorem nearest_spec {c : Capture} {v : Nat} {l : List (Fin 1024)} {k : Fin 1024} (h : c.nearest v l = some k) :
    ∃ newer older, l = newer ++ k :: older ∧
      (∀ j ∈ newer, clockDistance (c.slots.get k).clock v < clockDistance (c.slots.get j).clock v) ∧
      ∀ j ∈ older, clockDistance (c.slots.get k).clock v ≤ clockDistance (c.slots.get j).clock v := by
  induction l generalizing k with
  | nil => cases h
  | cons m rest ih =>
    rw [Capture.nearest] at h
    cases hrest : c.nearest v rest with
    | none =>
      rw [hrest] at h
      obtain rfl : m = k := Option.some.inj h
      obtain rfl := nearest_none hrest
      exact ⟨[], [], rfl, nofun, nofun⟩
    | some j =>
      obtain ⟨newer, older, rfl, hnewer, holder⟩ := ih hrest
      rw [hrest] at h
      dsimp only at h
      split at h
      next hcloser =>
        obtain rfl : j = k := Option.some.inj h
        refine ⟨m :: newer, older, rfl, fun i hi => ?_, holder⟩
        obtain rfl | hi := List.mem_cons.1 hi
        · exact hcloser
        · exact hnewer i hi
      next hfar =>
        obtain rfl : m = k := Option.some.inj h
        refine ⟨[], newer ++ j :: older, rfl, nofun, fun i hi => (Nat.not_lt.1 hfar).trans ?_⟩
        obtain hi | hi := List.mem_append.1 hi
        · exact (hnewer i hi).le
        · obtain rfl | hi := List.mem_cons.1 hi
          · exact le_rfl
          · exact holder i hi

theorem findClock_empty {c : Capture} (h : c.completeSlots = []) (v : Nat) : c.findClock v = none := by
  rw [Capture.findClock, h]
  rfl

/-- R151: the newest of the tenth of a second, else the newest of the nearest. -/
theorem findClock_spec {c : Capture} (h : c.completeSlots ≠ []) (v : Nat) : ∃ newer k older,
    c.completeSlots = newer ++ k :: older ∧ c.findClock v = some k ∧
    ((∃ j ∈ c.completeSlots, (c.slots.get j).clock / 100 = v / 100) →
      (c.slots.get k).clock / 100 = v / 100 ∧ ∀ j ∈ newer, (c.slots.get j).clock / 100 ≠ v / 100) ∧
    ((∀ j ∈ c.completeSlots, (c.slots.get j).clock / 100 ≠ v / 100) →
      (∀ j ∈ newer, clockDistance (c.slots.get k).clock v < clockDistance (c.slots.get j).clock v) ∧
      ∀ j ∈ older, clockDistance (c.slots.get k).clock v ≤ clockDistance (c.slots.get j).clock v) := by
  cases hfind : c.completeSlots.find? fun k => (c.slots.get k).clock / 100 == v / 100 with
  | some k =>
    obtain ⟨hk, newer, older, hslots, hnewer⟩ := List.find?_eq_some_iff_append.1 hfind
    have hmem : k ∈ c.completeSlots := List.mem_of_find?_eq_some hfind
    refine ⟨newer, k, older, hslots, by rw [Capture.findClock, hfind], fun _ => ⟨beq_iff_eq.1 hk, fun j hj => ?_⟩,
      fun hnone => absurd (beq_iff_eq.1 hk) (hnone k hmem)⟩
    simpa using hnewer j hj
  | none =>
    have hnone : ∀ j ∈ c.completeSlots, (c.slots.get j).clock / 100 ≠ v / 100 := fun j hj => by
      simpa using List.find?_eq_none.1 hfind j hj
    cases hnear : c.nearest v c.completeSlots with
    | none => exact absurd (nearest_none hnear) h
    | some k =>
      obtain ⟨newer, older, hslots, hnewer, holder⟩ := nearest_spec hnear
      refine ⟨newer, k, older, hslots, by rw [Capture.findClock, hfind]; exact hnear, ?_, fun _ => ⟨hnewer, holder⟩⟩
      rintro ⟨j, hj, htenth⟩
      exact absurd htenth (hnone j hj)

theorem takeCueClock_absent {value : BitVec 32} {length : BitVec 16} (hempty : s.capture.completeSlots = []) :
    takeCueClock h value length s = s.refuse 0x53 .player h .absent := by
  unfold takeCueClock
  dsimp only
  rw [findClock_empty hempty]
  exact acknowledge_refuse ..

theorem takeCueClock_cue {value : BitVec 32} {length : BitVec 16} {k : Fin 1024}
    (hfound : s.capture.findClock (min 5999000 value.toNat) = some k) :
    CueAnswer 0x53 h k (s.capture.rangeLength k length.toNat) (decide (min 5999000 value.toNat ≠ value.toNat ∨
      s.capture.rangeLength k length.toNat ≠ length.toNat)) (leBytes 4 (s.slot k).clock) s
      (takeCueClock h value length s) := by
  unfold takeCueClock
  dsimp only
  rw [show Config.gameClockTop = 5999000 from rfl, hfound]
  dsimp only
  rw [← bne_or_bne (a := min 5999000 value.toNat) (x := s.capture.rangeLength k length.toNat) Iff.rfl]
  exact cueAnswer 0x53 k _ _ _ fun t => rfl

end

/-- Settles O46: the walks along the chain, and for each cue the slots it names and the request for their holds. -/
theorem cues : Obligations.Cues := by
  intro h clip first length value s hrun
  dsimp only
  have hclip : ∀ {t}, takeCueClip h clip s = t → exec (.cueClip h clip) s = .next t := fun ht =>
    exec_takes rfl rfl hrun ht
  have hrange : ∀ {t}, takeCueRange h first length s = t → exec (.cueRange h first length) s = .next t := fun ht =>
    exec_takes rfl rfl hrun ht
  have hclock : ∀ {t}, takeCueClock h value length s = t → exec (.cueClock h value length) s = .next t := fun ht =>
    exec_takes rfl rfl hrun ht
  refine ⟨chainRead _, ⟨_, back_walks _ _ _, completeSlots_eq _⟩, closedFrom_eq _,
    fun hchain => ⟨mem_completeSlots hchain, fun k hk => closedFrom_chain hchain hk⟩,
    fun hbeyond => hclip (takeCueClip_range hbeyond),
    fun i hi => ⟨fun hstate => hclip (takeCueClip_absent hi hstate),
      fun hstate hempty => hclip (takeCueClip_empty hi hstate hempty),
      fun k hstate hlen hfirst => ⟨_, hclip rfl, takeCueClip_cue hi hstate hlen hfirst⟩⟩,
    fun hno => hrange (takeCueRange_range hno), fun k hk hclosed => ⟨_, hrange rfl, takeCueRange_cue hk hclosed⟩,
    fun hempty => hclock (takeCueClock_absent hempty), fun hsome => ?_⟩
  obtain ⟨newer, k, older, hslots, hfound, htenth, hnearest⟩ := findClock_spec hsome (min 5999000 value.toNat)
  exact ⟨newer, k, older, hslots, ⟨_, hclock rfl, takeCueClock_cue hfound⟩, htenth, hnearest⟩

end Sys2Proof.Machine
end

section
/-! SUPPORT. The crawl engine at a frame start (R190 to R193, R195): each of its steps says what it does with the message at a
place of the crawl, and together they are the reaction to the frame start. -/

namespace Sys2Proof.Machine

/-! ## Places of the crawl -/

section
variable {place : Option (Fin 64)} {s : State} {i : Fin 64} {m : Message}

theorem onCrawl_unique {j : Fin 64} {n : Message} (h : OnCrawl place s i m) (k : OnCrawl place s j n) : i = j ∧ m = n := by
  obtain ⟨hi, hm⟩ := h
  obtain ⟨hj, hn⟩ := k
  obtain rfl : i = j := Option.some.inj (hi.symm.trans hj)
  exact ⟨rfl, Option.some.inj (hm.symm.trans hn)⟩

/-- A place holds a message or it does not. -/
theorem onCrawl_or (place : Option (Fin 64)) (s : State) :
    (∃ i m, OnCrawl place s i m) ∨ ∀ i m, ¬ OnCrawl place s i m := by
  by_cases h : ∃ i m, OnCrawl place s i m
  · exact .inl h
  · exact .inr fun i m hm => h ⟨i, m, hm⟩

/-- What a step does with the message at a place it does for the one message there. -/
theorem onCrawl_spec {P : Fin 64 → Message → Prop} (h : OnCrawl place s i m) (hP : P i m) :
    ∀ j n, OnCrawl place s j n → P j n := fun j n hn => by
  obtain ⟨rfl, rfl⟩ := onCrawl_unique h hn
  exact hP

/-! ## Withdrawals and promotion -/

/-- A message removed at a frame start, with its one report. -/
theorem removeWith_gone {post : State → State} {r : Report} (v : State)
    (h : post (messageRemoved i v) = (messageRemoved i v).offer [r]) : removeWith 0 i post v = messageGone i r v :=
  removeWith_eq 0 i h

theorem withdrawAt_on {vacate : State → State} (h : OnCrawl place s i m) : withdrawAt place vacate s =
    if m.withdrawing then removeWith 0 i (postWithdrawn 0 1 m) (vacate s) else s := by
  obtain ⟨rfl, hm⟩ := h
  simp only [withdrawAt, hm]

theorem withdrawAt_off {vacate : State → State} (h : ∀ i m, ¬ OnCrawl place s i m) : withdrawAt place vacate s = s := by
  unfold withdrawAt
  split
  · rfl
  next i =>
    split
    next m hm => exact absurd ⟨rfl, hm⟩ (h i m)
    · rfl

theorem withdrawAt_spec (place : Option (Fin 64)) {vacate : State → State} (s : State)
    (hv : (vacate s).timing = s.timing) : WithdrawnAt place (vacate s) s (withdrawAt place vacate s) := by
  obtain ⟨i, m, hm⟩ | hnone := onCrawl_or place s
  · rw [withdrawAt_on hm]
    refine ⟨onCrawl_spec hm fun hw => ?_, fun hno => ?_⟩
    · rw [if_pos hw, ← report_congr hv]
      exact removeWith_gone _ (post_eq_offer ..)
    · rw [if_neg (by rw [hno i m hm]; exact Bool.false_ne_true)]
  · rw [withdrawAt_off hnone]
    exact ⟨fun i m hm => absurd hm (hnone i m), fun _ => rfl⟩

theorem promote_spec (s : State) : Promoted s (promote s) := by
  unfold promote
  split
  next i hlead hfollow =>
    refine ⟨fun j _ hj => ?_, fun hno => ?_⟩
    · obtain rfl : i = j := Option.some.inj (hfollow.symm.trans hj)
      rfl
    · exact absurd hfollow (by rw [hno.resolve_left (not_not.2 hlead)]; exact nofun)
  next hno => exact ⟨fun j hlead hj => (hno j hlead hj).elim, fun _ => rfl⟩

/-! ## Suspension -/

theorem suspendExpiring_on (h : OnCrawl place s i m) : suspendExpiring place s =
    if m.expiring then removeWith 0 i (postMessageExpired m) s else s := by
  obtain ⟨rfl, hm⟩ := h
  simp only [suspendExpiring, hm]

theorem suspendExpiring_off (h : ∀ i m, ¬ OnCrawl place s i m) : suspendExpiring place s = s := by
  unfold suspendExpiring
  split
  · rfl
  next i =>
    split
    next m hm => exact absurd ⟨rfl, hm⟩ (h i m)
    · rfl

theorem suspendExpiring_spec (place : Option (Fin 64)) (s : State) :
    SuspendedAt place s (suspendExpiring place s) := by
  obtain ⟨i, m, hm⟩ | hnone := onCrawl_or place s
  · rw [suspendExpiring_on hm]
    refine ⟨onCrawl_spec hm fun he => ?_, fun hno => ?_⟩
    · rw [if_pos he]
      exact removeWith_gone s (post_eq_offer ..)
    · rw [if_neg (by rw [hno i m hm]; exact Bool.false_ne_true)]
  · rw [suspendExpiring_off hnone]
    exact ⟨fun i m hm => absurd hm (hnone i m), fun _ => rfl⟩

theorem setQueue_store (u : MessageUnit) (c : MsgClass) (q : List (Fin 64)) : (u.setQueue c q).store = u.store := by
  cases c <;> rfl

theorem returnToHead_on (h : OnCrawl place s i m) : returnToHead place s = s.withMessage
    { s.message.setQueue m.cls (i :: s.message.queue m.cls) with
      store := s.message.store.set i (some { m with state := .queued, travel := 0 }) } := by
  obtain ⟨rfl, hm⟩ := h
  simp only [returnToHead, hm, setQueue_store]

theorem returnToHead_off (h : ∀ i m, ¬ OnCrawl place s i m) : returnToHead place s = s := by
  unfold returnToHead
  split
  · rfl
  next i =>
    split
    next m hm => exact absurd ⟨rfl, hm⟩ (h i m)
    · rfl

theorem returnToHead_spec (place : Option (Fin 64)) (s : State) : ReturnedFrom place s (returnToHead place s) := by
  obtain ⟨i, m, hm⟩ | hnone := onCrawl_or place s
  · exact ⟨onCrawl_spec hm (returnToHead_on hm), fun hno => absurd hm (hno i m)⟩
  · exact ⟨fun i m hm => absurd hm (hnone i m), fun _ => returnToHead_off hnone⟩

theorem suspendCrawl_spec (s : State) : Suspended s (suspendCrawl s) :=
  ⟨_, _, _, suspendExpiring_spec s.message.lead (clearLead (clearFollow s)), suspendExpiring_spec s.message.follow _,
    returnToHead_spec s.message.follow _, returnToHead_spec s.message.lead _⟩

/-! ## Advance -/

theorem advanceAt_on (h : OnCrawl place s i m) : advanceAt place s = s.withMessage { s.message with
    store := s.message.store.set i (some { m with travel := m.travel + s.message.config.speed }) } := by
  obtain ⟨rfl, hm⟩ := h
  rw [advanceAt, update_eq _ hm]

/-- Nothing to change at an empty place. -/
theorem update_none {u : MessageUnit} {i : Fin 64} (f : Message → Message) (h : u.store.get i = none) : u.update i f = u := by
  have hstore : u.store.modify i (Option.map f) = u.store := by
    rw [Tab.modify, h]
    exact (congrArg (u.store.set i) h.symm).trans (Tab.set_get _ _)
  rw [MessageUnit.update, hstore]

theorem advanceAt_off (h : ∀ i m, ¬ OnCrawl place s i m) : advanceAt place s = s := by
  unfold advanceAt
  split
  · rfl
  next i =>
    rw [update_none _ (Option.eq_none_iff_forall_ne_some.2 fun m hm => h i m ⟨rfl, hm⟩)]
    rfl

theorem advanceAt_spec (place : Option (Fin 64)) (s : State) : AdvancedAt place s (advanceAt place s) := by
  obtain ⟨i, m, hm⟩ | hnone := onCrawl_or place s
  · exact ⟨onCrawl_spec hm (advanceAt_on hm), fun hno => absurd hm (hno i m)⟩
  · exact ⟨fun i m hm => absurd hm (hnone i m), fun _ => advanceAt_off hnone⟩

/-! ## The finish of a LEAD -/

/-- What a LEAD that finishes becomes, before FOLLOW is promoted (R191). -/
def finished (i : Fin 64) (m : Message) (s : State) : State :=
  if m.expiring then removeWith 0 i (postMessageExpired m) (clearLead s)
  else if m.repeats ≤ 1 then removeWith 0 i (postRetired m) (clearLead s)
  else (clearLead s).withMessage ((clearLead s).message.join i { m with repeats := m.repeats - 1, travel := 0 })

theorem finishLead_on (h : OnCrawl s.message.lead s i m) : finishLead s =
    if s.message.config.width + wide s m ≤ m.travel then promote (finished i m s) else s := by
  obtain ⟨hi, hm⟩ := h
  simp only [finishLead, hi, hm, finished, wide, MessageUnit.width]
  refine if_congr Iff.rfl ?_ rfl
  split
  · rfl
  · split <;> rfl

theorem finishLead_off (h : ∀ i m, ¬ OnCrawl s.message.lead s i m) : finishLead s = s := by
  unfold finishLead
  split
  · rfl
  next i hi =>
    split
    · rfl
    next m hm => exact absurd ⟨hi, hm⟩ (h i m)

theorem finished_repeats (i : Fin 64) (m : Message) (s : State) :
    (clearLead s).withMessage ((clearLead s).message.join i { m with repeats := m.repeats - 1, travel := 0 }) =
      s.withMessage { s.message.setQueue m.cls (s.message.queue m.cls ++ [i]) with
        lead := none, orderCounter := s.message.orderCounter + 1
        store := s.message.store.set i (some { m with
          repeats := m.repeats - 1, travel := 0, state := .queued, order := s.message.orderCounter + 1 }) } := by
  simp only [MessageUnit.join]
  cases m.cls <;> rfl

theorem finishLead_spec (s : State) : LeadFinished s (finishLead s) := by
  obtain ⟨i, m, hm⟩ | hnone := onCrawl_or s.message.lead s
  · rw [finishLead_on hm]
    refine ⟨onCrawl_spec hm fun hpast => ?_, fun hno => if_neg (Nat.not_le.2 (hno i m hm))⟩
    rw [if_pos hpast]
    refine ⟨finished i m s, promote_spec _, fun he => ?_, fun he hr => ?_, fun he hr => ?_⟩ <;> unfold finished
    · rw [if_pos he]
      exact removeWith_gone (clearLead s) (post_eq_offer ..)
    · rw [if_neg (by rw [he]; exact Bool.false_ne_true), if_pos hr]
      exact removeWith_gone (clearLead s) (post_eq_offer ..)
    · rw [if_neg (by rw [he]; exact Bool.false_ne_true), if_neg (Nat.not_le.2 hr)]
      exact finished_repeats i m s
  · rw [finishLead_off hnone]
    exact ⟨fun i m hm => absurd hm (hnone i m), fun _ => rfl⟩

/-! ## Admission -/

theorem highestClass_none {u : MessageUnit} (h : ∀ c, u.queue c = []) : u.highestClass = none := by
  have ha : u.announce = [] := h .announce
  have hf : u.featured = [] := h .featured
  have hn : u.fan = [] := h .fan
  simp [MessageUnit.highestClass, ha, hf, hn]

theorem highestClass_heads {u : MessageUnit} {c : MsgClass} {j : Fin 64} {rest : List (Fin 64)} (h : Heads u c j rest) :
    u.highestClass = some c := by
  obtain ⟨hq, hbefore⟩ := h
  cases c with
  | announce =>
    have ha : u.announce = j :: rest := hq
    simp [MessageUnit.highestClass, ha]
  | featured =>
    have ha : u.announce = [] := hbefore .announce (by decide)
    have hf : u.featured = j :: rest := hq
    simp [MessageUnit.highestClass, ha, hf]
  | fan =>
    have ha : u.announce = [] := hbefore .announce (by decide)
    have hf : u.featured = [] := hbefore .featured (by decide)
    have hn : u.fan = j :: rest := hq
    simp [MessageUnit.highestClass, ha, hf, hn]

theorem canAdmit_iff (s : State) : s.message.canAdmit = true ↔ s.message.follow = none ∧
    ∀ i m, OnCrawl s.message.lead s i m → wide s m + s.message.config.gap ≤ m.travel := by
  unfold MessageUnit.canAdmit
  rw [Bool.and_eq_true, Option.isNone_iff_eq_none]
  refine and_congr_right fun _ => ?_
  obtain ⟨i, m, hm⟩ | hnone := onCrawl_or s.message.lead s
  · have hon := hm
    obtain ⟨hi, hstore⟩ := hm
    simp only [hi, hstore, decide_eq_true_eq]
    refine ⟨fun h => ?_, fun h => h i m ⟨rfl, hstore⟩⟩
    rw [hi] at hon
    exact onCrawl_spec hon h
  · refine ⟨fun _ i m hm => absurd hm (hnone i m), fun _ => ?_⟩
    split
    · rfl
    next i hi =>
      split
      next m hm => exact absurd ⟨hi, hm⟩ (hnone i m)
      · rfl

theorem crawlAdmit_off (h : ¬ s.message.canAdmit = true ∨ ∀ c, s.message.queue c = []) : crawlAdmit s = s := by
  unfold crawlAdmit
  obtain h | h := h
  · rw [if_neg h]
  · rw [highestClass_none h]
    exact ite_self s

/-- R192: the head of the highest non-empty class queue enters. -/
theorem crawlAdmit_on {c : MsgClass} {j : Fin 64} {rest : List (Fin 64)} (hcan : s.message.canAdmit = true)
    (hhead : Heads s.message c j rest) : crawlAdmit s = s.withMessage
      (if s.message.lead = none then
        { s.message.setQueue c rest with
          store := s.message.store.set j ((s.message.store.get j).map fun m => { m with state := .lead, travel := 0 })
          lead := some j }
      else
        { s.message.setQueue c rest with
          store := s.message.store.set j ((s.message.store.get j).map fun m => { m with state := .follow, travel := 0 })
          follow := some j }) := by
  unfold crawlAdmit
  rw [if_pos hcan, highestClass_heads hhead]
  dsimp only
  rw [hhead.1]
  dsimp only
  cases s.message.lead <;> simp only [MessageUnit.update, setQueue_store, Tab.modify, Option.isNone, if_true,
    Bool.false_eq_true, if_false, reduceCtorEq]

theorem crawlAdmit_spec (s : State) : Admitted s (crawlAdmit s) := by
  refine ⟨fun hno => crawlAdmit_off (hno.imp_left (mt (canAdmit_iff s).1)), fun c j rest hroom hhead => ?_⟩
  rw [crawlAdmit_on ((canAdmit_iff s).2 hroom) hhead]
  exact ⟨fun hlead => by rw [if_pos hlead], fun hlead => by rw [if_neg hlead]⟩

/-! ## The frame start -/

theorem crawlItem_eq (s : State) (p : Option (Fin 64)) : s.message.crawlItem p = crawlItems s p := by
  cases p <;> rfl

end

/-- The crawl after the withdrawals: suspended under the alert latch, else advanced and filled. -/
def crawlMoved (z : Fin 4) (t : State) : State :=
  if t.comp.alertLatch.get z then suspendCrawl t else crawlAdmit (crawlAdvance t)

theorem crawlMoved_acts (z : Fin 4) (s : State) : MessageActs s (crawlMoved z (crawlWithdrawals s)) := by
  have hw := crawlWithdrawals_acts s
  unfold crawlMoved
  split
  · exact suspendCrawl_acts hw
  · exact crawlAdmit_acts (crawlAdvance_acts hw)

theorem crawlFrameStart_pace (z : Fin 4) {s : State} (h : s.message.config.paceZone = z) :
    crawlFrameStart z s = takeCrawlRecord z (crawlMoved z (crawlWithdrawals s)) := if_pos h

theorem takeCrawlRecord_eq (z : Fin 4) (s : State) : takeCrawlRecord z s = s.withMessage { s.message with
    record := some
      { zone := z, frame := (s.zone z).frameNumber, alert := s.comp.alertLatch.get z
        crawlWidth := s.message.config.width
        items := crawlItems s s.message.lead ++ crawlItems s s.message.follow } } := by
  rw [takeCrawlRecord, ← crawlItem_eq, ← crawlItem_eq]

theorem crawlFrameStart_spec (z : Fin 4) (s : State) : CrawlStarted z s (crawlFrameStart z s) := by
  refine ⟨fun hpace => if_neg hpace, fun hpace => ?_⟩
  have hlatch : (crawlWithdrawals s).comp = s.comp := (crawlWithdrawals_acts s).comp (by decide)
  refine ⟨_, _, crawlWithdrawals s, crawlMoved z (crawlWithdrawals s),
    withdrawAt_spec s.message.lead (vacate := clearLead) s rfl, withdrawAt_spec _ (vacate := clearFollow) _ rfl,
    promote_spec _, fun halert => ?_, fun halert => ?_, ?_⟩
  · rw [crawlMoved, hlatch, if_pos halert]
    exact suspendCrawl_spec _
  · rw [crawlMoved, hlatch, if_neg (by rw [halert]; exact Bool.false_ne_true)]
    exact ⟨_, _, _, _, advanceAt_spec _ _, advanceAt_spec _ _, finishLead_spec _, finishLead_spec _, crawlAdmit_spec _⟩
  · rw [crawlFrameStart_pace z hpace, takeCrawlRecord_eq, (crawlMoved_acts z s).comp (by decide), State.zone,
      (crawlMoved_acts z s).zones (by decide)]
    rfl

end Sys2Proof.Machine
end

section
/-! SUPPORT. What a frame close does (R54, R57, R82, R174 to R178): the counts of the zone, the settlement of the panels and
the mentions, step by step. -/

namespace Sys2Proof.Machine

/-- Steps taken one after another, each as the relation says. -/
theorem inOrder_foldl {α : Type} {R : α → State → State → Prop} {f : State → α → State} (h : ∀ a s, R a s (f s a))
    (l : List α) (s : State) : InOrder R l s (l.foldl f s) := by
  induction l generalizing s with
  | nil => rfl
  | cons a l ih => exact ⟨f s a, h a s, ih _⟩

/-! ## The zone's own part -/

theorem postFrame_eq (z : Fin 4) (complete loss : Bool) (s : State) : postFrame z complete loss s =
    s.offer [s.report .zoneTiming 0 .frame z.val (bytesOf 4 (s.zone z).frameNumber ++
      [if complete then 1 else 0, if loss then 1 else 0] ++ leBytes 2 (s.zone z).coverage.length)] := by
  rw [postFrame, post_eq_offer, leBytes_yesNo, leBytes_yesNo]
  simp only [List.append_assoc]
  rfl

theorem countClose_eq (z : Fin 4) (complete loss : Bool) (s : State) :
    countClose z complete loss s = frameCounted z complete loss s := by
  unfold countClose frameCounted
  rw [postFrame_eq]

section
variable {s : State} {p : Fin 8}

/-! ## Rotation -/

theorem setPanel_self (s : State) (p : Fin 8) : s.setPanel p (s.panel p) = s :=
  congrArg (fun t : Tab Panel 8 => s.withSponsor { s.sponsor with panels := t }) (Tab.set_get _ _)

theorem advanceSearch_spec (p : Fin 8) (s : State) : AdvanceSearched p s (advanceSearch p s) := fun hn =>
  ⟨fun _ _ hj hk hel hbefore => search_found hn hj hk hel hbefore, search_none _ hn⟩

theorem rotateDecision_spec (p : Fin 8) (s : State) : RotationDecided p s (rotateDecision p s) := by
  unfold rotateDecision
  dsimp only
  split
  next hnone =>
    refine ⟨fun ⟨e, he, _⟩ => ?_, fun _ => advanceSearch_spec p s⟩
    exact absurd (hnone.symm.trans he) nofun
  next e he =>
    have hgoes : (!s.eligible p e) = true ∨ (s.entry e).dwell ≤ (s.panel p).count ↔
        ¬ (Eligible s p e ∧ (s.panel p).count < (s.entry e).dwell) := by
      rw [Bool.not_eq_true', ← Bool.not_eq_true, eligible_iff, not_and_or, Nat.not_lt]
    refine ⟨fun ⟨d, hd, hstays⟩ => ?_, fun hno => ?_⟩
    · obtain rfl : e = d := Option.some.inj (he.symm.trans hd)
      rw [if_neg (mt hgoes.1 (not_not.2 hstays))]
    · rw [if_pos (hgoes.2 fun hstays => hno ⟨e, he, hstays⟩)]
      exact advanceSearch_spec p s

theorem decision_spec (p : Fin 8) (s : State) : PanelDecided p s (decision p s) := by
  have hends : ((endMoment p s).panel p).state = (s.panel p).savedState := by
    rw [endMoment, panel_setPanel_self]
  unfold decision
  split
  next hs =>
    exact ⟨fun _ => rfl, fun hr => absurd (hs.symm.trans hr) (by decide), fun hm => absurd (hs.symm.trans hm) (by decide)⟩
  next hs =>
    exact ⟨fun _ => rfl, fun hr => absurd (hs.symm.trans hr) (by decide), fun hm => absurd (hs.symm.trans hm) (by decide)⟩
  next hs =>
    refine ⟨fun hno => ?_, fun _ => rotateDecision_spec p s, fun hm => absurd (hs.symm.trans hm) (by decide)⟩
    rw [hs] at hno
    obtain hno | hno | ⟨hno, -⟩ := hno <;> exact absurd hno (by decide)
  next hs =>
    refine ⟨fun hno => ?_, fun hr => absurd (hs.symm.trans hr) (by decide), fun _ hzero => ?_⟩
    · rw [hs] at hno
      obtain hno | hno | ⟨-, hno⟩ := hno
      · exact absurd hno (by decide)
      · exact absurd hno (by decide)
      · exact if_neg hno
    · rw [if_pos hzero]
      dsimp only
      rw [hends]
      exact ⟨fun hsaved => by rw [if_pos hsaved]; exact rotateDecision_spec p (endMoment p s),
        fun hsaved => by rw [if_neg hsaved]; rfl⟩

theorem progress_eq (showing : Count) (p : Fin 8) (s : State) :
    progress showing p s = panelProgressed p showing s := by
  have hself : s.setPanel p { s.panel p with count := (s.panel p).count } = s := setPanel_self s p
  unfold progress panelProgressed
  dsimp only
  by_cases h : showing = (s.panel p).showing
  · have hstill (hr : (s.panel p).state ≠ .rotating) (hm : (s.panel p).state ≠ .moment) :
        s = s.setPanel p { s.panel p with
          count := if (s.panel p).state = .rotating then min 65535 ((s.panel p).count + 1)
            else if (s.panel p).state = .moment then (s.panel p).count - 1 else (s.panel p).count } := by
      rw [if_neg hr, if_neg hm]
      exact hself.symm
    rw [if_pos h, if_neg (not_not.2 h)]
    split
    next hs => rw [if_pos hs]
    next hs => rw [if_neg (by rw [hs]; decide), if_pos hs]
    next hs => exact hstill (by rw [hs]; decide) (by rw [hs]; decide)
    next hs => exact hstill (by rw [hs]; decide) (by rw [hs]; decide)
  · rw [if_neg h, if_pos h]
    exact hself.symm

/-! ## Exposures -/

theorem expose_eq {e : Fin 128} {cause : Nat} {q : Option (Fin 8)} {cb pb : Byte} (s : State)
    (h : leBytes 1 cause ++ optionalIndex 1 q = [cb, pb]) : expose e cause q s = entryExposed e cb pb s := by
  have hentry : (count (.exposed e) s).entry e = s.entry e := by
    rw [State.entry, (count_acts (B := [.counters]) (U := UnitId.all) (.refl _ _ s) (.exposed e) (UnitId.mem_all _)
      (by decide)).sponsor (by decide)]
    rfl
  have htiming : (count (.exposed e) s).timing = s.timing :=
    (count_acts (B := [.counters]) (U := UnitId.all) (.refl _ _ s) (.exposed e) (UnitId.mem_all _) (by decide)).timing
      (by decide)
  unfold expose fulfil entryExposed
  dsimp only
  rw [hentry]
  refine if_congr ?_ ?_ rfl
  · simp only [State.reached, Bool.and_eq_true, decide_eq_true_eq, Bool.not_eq_true', and_assoc]
  · rw [postFulfilled, post_eq_offer, List.append_assoc, h, ← report_congr htiming, entry_setEntry_self]
    rfl

/-! ## The settlement of a panel -/

theorem settlePanel_spec (z : Fin 4) (r : CloseRecord) (p : Fin 8) (s : State) :
    PanelSettled z r p s (settlePanel z r s p) := by
  have hexposes : ((r.ofPanel p).any fun m => m.clear && m.served) = true ↔
      ∃ m ∈ r.ofPanel p, m.clear = true ∧ m.served = true := by
    simp only [List.any_eq_true, Bool.and_eq_true]
  unfold settlePanel
  dsimp only
  refine ⟨fun hempty => ?_, fun hshown halert => ?_, fun ⟨halert, hclear⟩ credited hnone hsome => ?_,
    fun hshown halert hno => ?_⟩
  · rw [if_pos (List.isEmpty_iff.2 hempty)]
  · rw [if_neg (mt List.isEmpty_iff.1 hshown), if_pos halert]
  · have hshown : r.ofPanel p ≠ [] := fun hempty => by
      obtain ⟨m, hm, -⟩ := hclear
      rw [hempty] at hm
      exact nomatch hm
    rw [if_neg (mt List.isEmpty_iff.1 hshown), if_neg (by rw [halert]; exact Bool.false_ne_true),
      if_pos (hexposes.2 hclear), progress_eq]
    have hcredited : (match ((s.sponsor.latches.get z).get p).entry with
        | some e => expose e 0 (some p) s
        | none => s) = credited := by
      split
      next e he =>
        rw [hsome e he]
        exact expose_eq s rfl
      next he => exact (hnone he).symm
    rw [← hcredited]
    exact decision_spec p _
  · rw [if_neg (mt List.isEmpty_iff.1 hshown), if_neg (by rw [halert]; exact Bool.false_ne_true),
      if_neg (mt hexposes.1 fun hclear => hno ⟨halert, hclear⟩)]
    exact decision_spec p _

end

/-! ## The close -/

theorem discardCrawlRecord_eq (z : Fin 4) (s : State) : discardCrawlRecord z s = s.withMessage { s.message with
    record := match s.message.record with
      | some c => if c.zone = z then none else some c
      | none => none } := by
  unfold discardCrawlRecord
  cases hrecord : s.message.record with
  | none => exact congrArg (fun x => s.withMessage { s.message with record := x }) hrecord
  | some c =>
    dsimp only
    split
    · rfl
    · exact congrArg (fun x => s.withMessage { s.message with record := x }) hrecord

theorem closeReactions_spec (z : Fin 4) (s : State) : CloseTaken z s (closeReactions z s) := by
  refine ⟨_, _, inOrder_foldl (fun p t => settlePanel_spec z (s.closeRecord z) p t) _ _,
    inOrder_foldl (f := fun t e => if (s.mentionList z (s.closeRecord z)).contains e then expose e 1 none t else t)
      (fun e t => ?_) _ _, ?_⟩
  · refine if_congr List.contains_iff_mem (expose_eq t rfl) rfl
  · rw [closeReactions]
    exact congrArg (discardRecord z) (discardCrawlRecord_eq z _)

end Sys2Proof.Machine
end

section
/-! SUPPORT. The player at a frame start (R157 to R160): what becomes of its record, and the report of a pause by the alert. -/

namespace Sys2Proof.Machine

/-! ## The record -/

/-- The slot a player selects for index `i` of its source (R158, steps 2 and 3). -/
def Player.chosen (c : Capture) (i : Nat) (p : Player) : Option (Fin 1024) :=
  match c.follow i p.first with
  | none => none
  | some k =>
    if p.partialSkip = true ∧ (c.slots.get k).verdict = .partialVerdict ∧ p.selection ≠ none then p.selection else some k

/-- The player with index `i` selected, at its position. -/
def Player.shows (c : Capture) (i : Nat) (p : Player) : Player :=
  { p with selection := p.chosen c i, shownPosition := p.position }

/-- The end test of a PLAYING player, and its selection (R158). -/
def Player.endsOrShows (c : Capture) (latch : Bool) (p : Player) : Player :=
  if p.position / 16 < p.length then p.shows c (p.position / 16)
  else if p.endMode = .hold ∨ (p.policy = .finish ∧ latch = true) then
    Player.shows c (p.length - 1) { p with state := .ended }
  else Player.shows c (p.position % (16 * p.length) / 16) { p with position := p.position % (16 * p.length) }

/-- Step 2 of R157, by state. -/
def Player.paced (c : Capture) (latch : Bool) (p : Player) : Player :=
  match p.state with
  | .idle | .ended => p
  | .cued => p.shows c (p.position / 16)
  | .playing => p.endsOrShows c latch
  | .paused => if p.stepPending then { p.shows c (p.position / 16) with stepPending := false } else p

/-- Step 3 of R157. -/
def Player.advanced (p : Player) : Player :=
  if p.state = .playing then { p with position := p.position + p.rate } else p

/-- Step 1 of R157: the player as the alert policy leaves it. -/
def Player.alerted (latch : Bool) (p : Player) : Player :=
  if latch = true ∧ p.state = .playing ∧ p.policy = .pause then p.pauseFor .alert else p

/-- The player as a frame start of zone `z` leaves it. -/
def Player.started (z : Fin 4) (c : Capture) (latch : Bool) (p : Player) : Player :=
  let q := if p.paceZone = z then ((p.alerted latch).paced c latch).advanced else p
  { q with latched := q.latched.set z q.selection }

section
variable {s : State}

theorem chosen_eq (s : State) (i : Nat) : s.player.chosen s.capture i = chosenSlot s i := rfl

/-! ## The operations on the state -/

theorem select_eq (i : Nat) (s : State) : select i s = s.withPlayer (s.player.shows s.capture i) := by
  have hchosen : (if (s.player.partialSkip && (match s.sourceSlot i with
      | some k => (s.slot k).verdict == .partialVerdict
      | none => false) && s.player.selection.isSome) = true then s.player.selection else s.sourceSlot i) =
      s.player.chosen s.capture i := by
    rw [chosen_eq, chosenSlot]
    cases s.sourceSlot i with
    | none => simp
    | some k => simp [Option.isSome_iff_ne_none, and_assoc]
  exact congrArg (fun x => s.withPlayer { s.player with selection := x, shownPosition := s.player.position }) hchosen

theorem endOrSelect_eq (latch : Bool) (s : State) :
    endOrSelect latch s = s.withPlayer (s.player.endsOrShows s.capture latch) := by
  unfold endOrSelect Player.endsOrShows
  dsimp only
  split
  · exact select_eq _ _
  · split
    · rw [select_eq]
      rfl
    · rw [select_eq]
      rfl

theorem paceSelection_eq (latch : Bool) (s : State) :
    paceSelection latch s = s.withPlayer (s.player.paced s.capture latch) := by
  unfold paceSelection Player.paced
  cases s.player.state with
  | idle => rfl
  | ended => rfl
  | cued => exact select_eq _ _
  | playing => exact endOrSelect_eq _ _
  | paused =>
    dsimp only
    split
    · rw [select_eq]
      rfl
    · rfl

theorem paceAdvance_eq (s : State) : paceAdvance s = s.withPlayer s.player.advanced := by
  unfold paceAdvance Player.advanced
  split <;> rfl

/-- The reports of a pause by the alert. -/
def pauseReports (z : Fin 4) (latch : Bool) (s : State) : List Report :=
  if s.player.paceZone = z ∧ latch = true ∧ s.player.state = .playing ∧ s.player.policy = .pause then [pausedReport s] else []

theorem applyAlertPolicy_eq (latch : Bool) (s : State) : applyAlertPolicy latch s =
    (s.withPlayer (s.player.alerted latch)).offer
      (if latch = true ∧ s.player.state = .playing ∧ s.player.policy = .pause then [pausedReport s] else []) := by
  unfold applyAlertPolicy Player.alerted
  split
  · exact post_eq_offer ..
  · rfl

theorem playerFrameStart_eq (z : Fin 4) (s : State) : playerFrameStart z s =
    (s.withPlayer (s.player.started z s.capture (s.comp.alertLatch.get z))).offer
      (pauseReports z (s.comp.alertLatch.get z) s) := by
  unfold playerFrameStart Player.started pauseReports latchSlot
  dsimp only
  by_cases hpace : s.player.paceZone = z
  · rw [if_pos hpace, if_pos hpace, applyAlertPolicy_eq, paceSelection_eq, paceAdvance_eq]
    simp only [hpace, true_and, State.withPlayer_player, offer_player, offer_capture, ← offer_withPlayer]
    rfl
  · rw [if_neg hpace, if_neg hpace, if_neg fun h => hpace h.1]
    rfl

/-! ## By state -/

section
variable {z : Fin 4} {c : Capture} {latch : Bool} {p : Player}

/-- The zone's latched slot takes the selection (R159). -/
def Player.latches (z : Fin 4) (p : Player) : Player := { p with latched := p.latched.set z p.selection }

theorem alerted_of_not (h : ¬ (latch = true ∧ p.policy = .pause)) : p.alerted latch = p :=
  if_neg fun hall => h ⟨hall.1, hall.2.2⟩

theorem alerted_of_state (h : p.state ≠ .playing) : p.alerted latch = p := if_neg fun hall => h hall.2.1

theorem started_still (h : p.paceZone ≠ z ∨ p.state = .idle ∨ p.state = .ended ∨
    (p.state = .paused ∧ p.stepPending = false)) : p.started z c latch = p.latches z := by
  unfold Player.started
  obtain hpace | hstate := h
  · rw [if_neg hpace]
    rfl
  · have hstill : (p.alerted latch).paced c latch = p ∧ p.advanced = p := by
      obtain hs | hs | ⟨hs, hstep⟩ := hstate <;>
      · rw [alerted_of_state (by rw [hs]; decide)]
        simp [Player.paced, Player.advanced, *]
    rw [hstill.1, hstill.2, ite_self]
    rfl

theorem started_cued (hpace : p.paceZone = z) (hs : p.state = .cued) :
    p.started z c latch = (p.shows c (p.position / 16)).latches z := by
  have hpaced : ((p.alerted latch).paced c latch).advanced = p.shows c (p.position / 16) := by
    rw [alerted_of_state (by rw [hs]; decide)]
    simp [Player.paced, Player.advanced, Player.shows, hs]
  unfold Player.started
  rw [if_pos hpace, hpaced]
  rfl

theorem started_step (hpace : p.paceZone = z) (hs : p.state = .paused) (hstep : p.stepPending = true) :
    p.started z c latch = { p.shows c (p.position / 16) with stepPending := false }.latches z := by
  have hpaced : ((p.alerted latch).paced c latch).advanced = { p.shows c (p.position / 16) with stepPending := false } := by
    rw [alerted_of_state (by rw [hs]; decide)]
    simp [Player.paced, Player.advanced, Player.shows, hs, hstep]
  unfold Player.started
  rw [if_pos hpace, hpaced]
  rfl

theorem started_paused (hpace : p.paceZone = z) (hs : p.state = .playing) (halert : latch = true)
    (hpolicy : p.policy = .pause) (hstep : p.stepPending = false) : p.started z c latch =
      Player.latches z { p with state := .paused, cause := .alert, position := p.shownPosition } := by
  have hpaced : ((p.alerted latch).paced c latch).advanced =
      { p with state := .paused, cause := .alert, position := p.shownPosition } := by
    simp [Player.alerted, Player.paced, Player.advanced, Player.pauseFor, hs, halert, hpolicy, hstep]
  unfold Player.started
  rw [if_pos hpace, hpaced]
  rfl

/-- A PLAYING player that the alert does not pause. -/
theorem started_playing (hpace : p.paceZone = z) (hs : p.state = .playing) (hno : ¬ (latch = true ∧ p.policy = .pause)) :
    p.started z c latch = (p.endsOrShows c latch).advanced.latches z := by
  unfold Player.started
  rw [if_pos hpace, alerted_of_not hno, Player.paced, hs]
  rfl

theorem endsOrShows_within (h : ¬ p.length ≤ p.position / 16) (hs : p.state = .playing) :
    (p.endsOrShows c latch).advanced = { p with
      selection := p.chosen c (p.position / 16), shownPosition := p.position, position := p.position + p.rate } := by
  rw [Player.endsOrShows, if_pos (Nat.not_le.1 h)]
  exact if_pos hs

theorem endsOrShows_ends (h : p.length ≤ p.position / 16) (hends : p.endMode = .hold ∨ (p.policy = .finish ∧ latch = true)) :
    (p.endsOrShows c latch).advanced = { p with
      state := .ended, shownPosition := p.position, selection := p.chosen c (p.length - 1) } := by
  rw [Player.endsOrShows, if_neg (Nat.not_lt.2 h), if_pos hends]
  rfl

theorem endsOrShows_loops (h : p.length ≤ p.position / 16) (hs : p.state = .playing)
    (hends : ¬ (p.endMode = .hold ∨ (p.policy = .finish ∧ latch = true))) :
    (p.endsOrShows c latch).advanced = { p with
      selection := p.chosen c (p.position % (16 * p.length) / 16), shownPosition := p.position % (16 * p.length)
      position := p.position % (16 * p.length) + p.rate } := by
  rw [Player.endsOrShows, if_neg (Nat.not_lt.2 h), if_neg hends]
  exact if_pos hs

end

end

end Sys2Proof.Machine
end

section
/-! SUPPORT. The frame a zone pulse starts (R49 to R52, R56, R57): the state in which the consumers begin, what each of them
makes of it, and the reports they send. -/

namespace Sys2Proof.Machine

/-! ## Reports -/

/-- An operation that leaves the bus path and the command unit sends reports and nothing else by them. -/
theorem Acts.sends {B : List Block} {U : List UnitId} {s t : State} (h : Acts B U s t) (hcmd : Block.cmd ∉ B)
    (hbus : Block.bus ∉ B) : ∃ rs : List Report, (∀ r ∈ rs, r.unit ∈ U) ∧ t.cmd = (s.offer rs).cmd ∧
      t.bus = (s.offer rs).bus := by
  obtain ⟨rs, hrs, hwire⟩ := h.sent
  obtain ⟨p, hp⟩ := offer_shape rs s
  have hsame : ∀ b : Block, b.Same s (s.offer rs) := fun b => by
    rw [hp]
    exact Block.same_withReportPath s p b
  obtain ⟨⟨hq, hl, hn, ho, hw⟩, hpr, hc⟩ := wire_eq_iff.1 hwire
  have ht : t.cmd = _ := h.same .cmd hcmd
  have hs : (s.offer rs).cmd = _ := hsame .cmd
  have htb : t.bus = _ := h.same .bus hbus
  have hsb : (s.offer rs).bus = _ := hsame .bus
  exact ⟨rs, hrs, by rw [ht, hs, hq, hl, hn, ho, hpr, hc], by rw [htb, hsb, hw]⟩

/-! ## Pulses -/

theorem covered_iff (z : Zone) : z.covered = true ↔ Covered z := by
  simp [Zone.covered, Covered]

theorem exec_zonePulse (z : Fin 4) (edge : Edge) {s : State} (hrun : s.Running) :
    exec (.zonePulse z edge) s = .next (zoneEdge z edge (s.withPins (pulsePins z edge s))) := by
  have hpins : ({ s.pins with zfp := s.pins.zfp.set z (levelAfter edge) } : Pins) = pulsePins z edge s := by
    rw [levelAfter_eq]
    rfl
  show Host.Outcome.next (whileRunning (zoneEdge z edge)
    (s.withPins { s.pins with zfp := s.pins.zfp.set z (levelAfter edge) })) = _
  rw [hpins]
  exact congrArg Host.Outcome.next (whileRunning_running _ (by exact hrun))

/-- The state in which a pulse of zone `z` finds the frame before closed. -/
def frameClosed (z : Fin 4) (s : State) : State := if (s.zone z).state = .scanning then closeByPulse z s else s

/-- The zone timing unit's own part of a frame start, with REGAINED out of LOST (R50, R56). -/
def frameOpened (z : Fin 4) (s : State) : State :=
  (s.setZone z { s.zone z with
    state := .scanning, frameNumber := (s.zone z).frameNumber + 1, coverage := [], lossTimer := some 0 }).offer
    (if (s.zone z).state = .lost then
      [s.report .zoneTiming 0 .regained z.val (bytesOf 4 ((s.zone z).frameNumber + 1))] else [])

theorem frameClosed_zone (z : Fin 4) (s : State) : (frameClosed z s).zones = s.zones := by
  unfold frameClosed
  split
  · exact (closeByPulse_acts z s).zones (by decide)
  · rfl

theorem postRegained_eq (z : Fin 4) (s : State) : postRegained z s =
    s.offer [s.report .zoneTiming 0 .regained z.val (bytesOf 4 (s.zone z).frameNumber)] := post_eq_offer ..

/-- R50, R56: an accepted pulse closes the open frame and starts the next one. -/
theorem zoneEdge_starts {z : Fin 4} {edge : Edge} {s : State} (h : StartsFrame z edge s) :
    zoneEdge z edge s = startReactions z (frameOpened z (frameClosed z s)) := by
  obtain ⟨-, hedge, hstate⟩ := h
  rw [zoneEdge, if_pos hedge]
  unfold framePulse frameClosed
  obtain hs | hs | ⟨hs, haccept⟩ := hstate
  · simp only [hs]
    rw [if_neg (by decide), frameOpened, if_neg (by rw [hs]; decide)]
    rfl
  · simp only [hs]
    rw [if_neg (by decide), frameOpened, if_pos hs, postRegained_eq, openFrame, zone_setZone_self]
    rfl
  · have hzone : (closeByPulse z s).zone z = s.zone z := by
      rw [State.zone, (closeByPulse_acts z s).zones (by decide)]
      rfl
    simp only [hs]
    rw [if_pos (haccept.imp_right (covered_iff _).2), if_pos trivial, frameOpened, hzone,
      if_neg (by rw [hs]; decide), openFrame, hzone]
    rfl

theorem exec_starts {z : Fin 4} {edge : Edge} {s : State} (h : StartsFrame z edge s) : exec (.zonePulse z edge) s =
    .next (startReactions z (frameOpened z (frameClosed z (s.withPins (pulsePins z edge s))))) := by
  rw [exec_zonePulse z edge h.1]
  exact congrArg Host.Outcome.next (zoneEdge_starts h)

/-! ## The consumers -/

/-- What the compositor makes of its record at a frame start (R67). -/
def Compositor.started (z : Fin 4) (zone : Zone) (alert : Bool) (c : Compositor) : Compositor :=
  let active := ((takeWindows z c).taken.get z).map (Option.map (clipWindow zone))
  { takeWindows z c with
    active := (takeWindows z c).active.set z active
    alertLatch := (takeWindows z c).alertLatch.set z alert
    frameRecord := (takeWindows z c).frameRecord.set z (some (frameMarks active alert)) }

theorem started_alertLatch (z : Fin 4) (zone : Zone) (alert : Bool) (c : Compositor) :
    (c.started z zone alert).alertLatch = c.alertLatch.set z alert := by
  unfold Compositor.started takeWindows
  dsimp only
  split <;> rfl

theorem started_staged (z : Fin 4) (zone : Zone) (alert : Bool) (c : Compositor) :
    (c.started z zone alert).staged = c.staged := by
  unfold Compositor.started takeWindows
  dsimp only
  split <;> rfl

/-- A zone latches the slot the player then has selected (R159). -/
theorem started_latched (z : Fin 4) (c : Capture) (latch : Bool) (p : Player) :
    (p.started z c latch).latched = p.latched.set z (p.started z c latch).selection := by
  have halerted : (p.alerted latch).latched = p.latched := by unfold Player.alerted; split <;> rfl
  have hends : ∀ q : Player, (q.endsOrShows c latch).latched = q.latched := fun q => by
    unfold Player.endsOrShows
    split
    · rfl
    · split <;> rfl
  have hpaced : ∀ q : Player, (q.paced c latch).latched = q.latched := fun q => by
    unfold Player.paced
    split
    · rfl
    · rfl
    · rfl
    · exact hends q
    · split <;> rfl
  have hadvanced : ∀ q : Player, q.advanced.latched = q.latched := fun q => by unfold Player.advanced; split <;> rfl
  unfold Player.started
  dsimp only
  split
  · rw [hadvanced, hpaced, halerted]
  · rfl

/-- The panels as a zone latches them (R169). -/
def latchedPanels (s : State) : Tab PanelLatch 8 :=
  s.sponsor.panels.map fun x => { entry := x.shown, image := s.panelImage x, showing := x.showing }

theorem latchedPanels_get (s : State) (p : Fin 8) : (latchedPanels s).get p =
    { entry := (s.panel p).shown, image := imageShown s (s.panel p), showing := (s.panel p).showing } := by
  rw [latchedPanels, Tab.get_map]
  rfl

theorem latchPanels_eq (z : Fin 4) {s : State} {x : Sponsor} (h : s.sponsor = x) : latchPanels z s =
    s.withSponsor { x with latches := x.latches.set z (latchedPanels (s.withSponsor x)) } := by
  subst h
  rfl

theorem content_eq (s : State) : s.content = contentOf s := by
  have hcopied : ∀ place : Option (Fin 64), (s.message.onScreen place).map Message.content =
      (place.bind s.message.store.get).map fun m =>
        ({ text := m.text, length := m.length, travel := m.travel, colour := m.colour } : CrawlContent) := fun place => by
    cases place <;> rfl
  unfold State.content contentOf
  dsimp only
  rw [hcopied, hcopied]

section
variable (z : Fin 4) (s : State)

theorem frameOpened_alert : (frameOpened z s).alertInForce = s.alertInForce := by
  rw [State.alertInForce, frameOpened, offer_pins, offer_comp]
  rfl

theorem frameOpened_comp : (frameOpened z s).comp = s.comp := offer_comp _ _

theorem frameOpened_zones : (frameOpened z s).zones = s.zones.set z { s.zone z with
    state := .scanning, frameNumber := (s.zone z).frameNumber + 1, coverage := [], lossTimer := some 0 } := by
  rw [frameOpened, offer_zones]
  rfl

/-- The compositor as the frame start leaves it. -/
def startedComp : Compositor :=
  (frameOpened z s).comp.started z ((frameOpened z s).zone z) (frameOpened z s).alertInForce

/-- The player as the frame start leaves it. -/
def startedPlayer : Player := s.player.started z s.capture s.alertInForce

/-- The state the message unit finds at a frame start. -/
def beforeCrawl : State :=
  ((((frameOpened z s).withComp (startedComp z s)).withPlayer (startedPlayer z s)).offer
    (pauseReports z s.alertInForce s)).withSponsor
      { s.sponsor with latches := s.sponsor.latches.set z (latchedPanels s) }

theorem startedComp_latch : (startedComp z s).alertLatch.get z = s.alertInForce := by
  rw [startedComp, started_alertLatch, Tab.get_set_self, frameOpened_alert]

theorem playerStarted_eq : playerFrameStart z (composerFrameStart z (frameOpened z s)) =
    (((frameOpened z s).withComp (startedComp z s)).withPlayer (startedPlayer z s)).offer
      (pauseReports z s.alertInForce s) := by
  have hplayer : ((frameOpened z s).withComp (startedComp z s)).player = s.player := offer_player _ _
  have hcapture : ((frameOpened z s).withComp (startedComp z s)).capture = s.capture := offer_capture _ _
  have htiming : ((frameOpened z s).withComp (startedComp z s)).timing = s.timing := offer_timing _ _
  have hreports : pauseReports z s.alertInForce ((frameOpened z s).withComp (startedComp z s)) =
      pauseReports z s.alertInForce s := by
    rw [pauseReports, pauseReports, pausedReport, pausedReport, hplayer, report_congr htiming]
  have hcomposed : composerFrameStart z (frameOpened z s) = (frameOpened z s).withComp (startedComp z s) := rfl
  rw [hcomposed, playerFrameStart_eq, State.withComp_comp, startedComp_latch, hreports, hplayer, hcapture]
  rfl

theorem beforeCrawl_eq :
    latchPanels z (playerFrameStart z (composerFrameStart z (frameOpened z s))) = beforeCrawl z s := by
  have hsponsor : ((((frameOpened z s).withComp (startedComp z s)).withPlayer (startedPlayer z s)).offer
      (pauseReports z s.alertInForce s)).sponsor = s.sponsor := by
    rw [offer_sponsor]
    exact offer_sponsor _ _
  rw [playerStarted_eq, latchPanels_eq z hsponsor]
  rfl

/-- R57: the consumers' reactions, in unit order. -/
theorem startReactions_eq : startReactions z (frameOpened z s) =
    (crawlFrameStart z (beforeCrawl z s)).withGlyph
      { s.glyph with latches := s.glyph.latches.set z (some (contentOf (crawlFrameStart z (beforeCrawl z s)))) } := by
  have hglyph : (crawlFrameStart z (beforeCrawl z s)).glyph = s.glyph := by
    rw [(crawlFrameStart_acts z _).glyph (by decide), beforeCrawl, State.withSponsor_glyph, offer_glyph]
    exact offer_glyph _ _
  rw [startReactions, beforeCrawl_eq, latchContent, content_eq, hglyph]

theorem started_comp : (startReactions z (frameOpened z s)).comp = startedComp z s := by
  rw [startReactions_eq, State.withGlyph_comp, (crawlFrameStart_acts z _).comp (by decide), beforeCrawl,
    State.withSponsor_comp, offer_comp]
  rfl

theorem started_player : (startReactions z (frameOpened z s)).player = startedPlayer z s := by
  rw [startReactions_eq, State.withGlyph_player, (crawlFrameStart_acts z _).player (by decide), beforeCrawl,
    State.withSponsor_player, offer_player]
  rfl

theorem started_sponsor : (startReactions z (frameOpened z s)).sponsor =
    { s.sponsor with latches := s.sponsor.latches.set z (latchedPanels s) } := by
  rw [startReactions_eq, State.withGlyph_sponsor, (crawlFrameStart_acts z _).sponsor (by decide), beforeCrawl,
    State.withSponsor_sponsor]

/-- The content latch takes what stands after the crawl's reaction. -/
theorem startedGlyph : (startReactions z (frameOpened z s)).glyph = { s.glyph with
    latches := s.glyph.latches.set z (some (contentOf (startReactions z (frameOpened z s)))) } := by
  have hglyph : (crawlFrameStart z (beforeCrawl z s)).glyph = s.glyph := by
    rw [(crawlFrameStart_acts z _).glyph (by decide), beforeCrawl, State.withSponsor_glyph, offer_glyph]
    exact offer_glyph _ _
  have hcontent : ∀ (t : State) x, t.glyph = s.glyph →
      contentOf (t.withGlyph { s.glyph with latches := x }) = contentOf t := fun t x ht => by
    simp only [contentOf, State.withGlyph_glyph, ht]
    rfl
  rw [startReactions_eq, State.withGlyph_glyph, hcontent _ _ hglyph]

theorem pauseReports_paused (h : PausedByAlert z s) : pauseReports z s.alertInForce s = [pausedReport s] := by
  obtain ⟨hpace, hstate, hpolicy, halert⟩ := h
  exact if_pos ⟨hpace, halert, hstate, hpolicy⟩

theorem pauseReports_none (h : ¬ PausedByAlert z s) : pauseReports z s.alertInForce s = [] :=
  if_neg fun ⟨hpace, halert, hstate, hpolicy⟩ => h ⟨hpace, hstate, hpolicy, halert⟩

theorem frameStarted : FrameStarted z s (startReactions z (frameOpened z s)) := by
  refine ⟨pauseReports z s.alertInForce s, latchedPanels s, crawlFrameStart z (beforeCrawl z s),
    pauseReports_paused z s, pauseReports_none z s, latchedPanels_get s, ?_, startReactions_eq z s⟩
  rw [started_comp, started_player]
  exact crawlFrameStart_spec z _

/-- What a frame start leaves of the rest. -/
theorem frameStart_acts : Acts [.zones, .comp, .player, .sponsor, .message, .glyph] [.zoneTiming, .player, .message] s
    (startReactions z (frameOpened z s)) := by
  refine Acts.trans ?_ ((startReactions_acts z _).mono (by decide) (by decide))
  refine ((Acts.refl _ _ s).setZone _ _ (by decide)).offer _ fun r hr => ?_
  split at hr
  · obtain rfl := List.mem_singleton.1 hr
    exact List.mem_cons_self
  · exact nomatch hr

end

/-! ## The close before -/

/-- The blocks a close touches. -/
theorem frameClosed_acts (z : Fin 4) (s : State) :
    Acts [.sponsor, .counters, .comp, .message] [.zoneTiming, .sponsor] s (frameClosed z s) := by
  unfold frameClosed
  split
  · exact closeByPulse_acts z s
  · exact .refl _ _ s

/-- A close leaves the compositor all but the record of its frame. -/
theorem frameClosed_comp (z : Fin 4) (s : State) : ∃ record, (∀ y, y ≠ z → record.get y = s.comp.frameRecord.get y) ∧
    (frameClosed z s).comp = { s.comp with frameRecord := record } := by
  unfold frameClosed
  split
  · refine ⟨s.comp.frameRecord.set z none, fun y hy => Tab.get_set_ne _ _ hy.symm, ?_⟩
    rw [closeByPulse, closeReactions_comp, (countClose_acts z _ _ s).comp (by decide)]
  · exact ⟨_, fun _ _ => rfl, rfl⟩

theorem frameClosed_alert (z : Fin 4) (s : State) : (frameClosed z s).alertInForce = s.alertInForce := by
  obtain ⟨record, -, hcomp⟩ := frameClosed_comp z s
  rw [State.alertInForce, (frameClosed_acts z s).pins (by decide), hcomp]
  rfl

/-- A close leaves the message unit all but its crawl record. -/
theorem closeReactions_message (z : Fin 4) (s : State) : ∃ record,
    (closeReactions z s).message = { s.message with record := record } := by
  have hbefore := ((settlePanels_acts z (s.closeRecord z) s).trans
    (creditMentions_acts (s.mentionList z (s.closeRecord z)) _))
  rw [closeReactions, discardRecord, State.withComp_message, discardCrawlRecord_eq, State.withMessage_message,
    hbefore.message (by decide)]
  exact ⟨_, rfl⟩

theorem frameClosed_message (z : Fin 4) (s : State) : ∃ record,
    (frameClosed z s).message = { s.message with record := record } := by
  unfold frameClosed
  split
  · obtain ⟨record, hrecord⟩ := closeReactions_message z (countClose z (s.zone z).covered false s)
    exact ⟨record, by rw [closeByPulse, hrecord, (countClose_acts z _ _ s).message (by decide)]⟩
  · exact ⟨_, rfl⟩

theorem frameClosed_taken {z : Fin 4} {s : State} (h : (s.zone z).state = .scanning) :
    CloseTaken z (frameCounted z (s.zone z).covered false s) (frameClosed z s) := by
  rw [frameClosed, if_pos h, closeByPulse, countClose_eq]
  exact closeReactions_spec z _

/-! ## Zone pulses -/

theorem zoneEdge_ignored {z : Fin 4} {edge : Edge} {s : State} (h : edge ≠ (s.zone z).sense ∨ (s.zone z).state = .idle) :
    zoneEdge z edge s = s := by
  unfold zoneEdge
  split
  next hedge =>
    unfold framePulse
    simp only [h.resolve_left (not_not.2 hedge)]
  next => rfl

theorem postSyncError_eq (z : Fin 4) (s : State) : postSyncError z s = s.offer [s.report .zoneTiming 0 .syncError z.val
    (bytesOf 4 (s.zone z).frameNumber ++ leBytes 2 (s.zone z).coverage.length)] := post_eq_offer ..

/-- R52: an early pulse in IGNORE_EARLY is refused. -/
theorem zoneEdge_refused {z : Fin 4} {edge : Edge} {s : State} (hedge : edge = (s.zone z).sense)
    (hs : (s.zone z).state = .scanning) (hmode : (s.zone z).mode = .ignoreEarly) (hno : ¬ Covered (s.zone z)) :
    zoneEdge z edge s = count (zoneCounter z 2) (if (s.zone z).level = .none then s else
      s.offer [s.report .zoneTiming 0 .syncError z.val
        (bytesOf 4 (s.zone z).frameNumber ++ leBytes 2 (s.zone z).coverage.length)]) := by
  have hrefused : ¬ ((s.zone z).mode = .restart ∨ (s.zone z).covered = true) := by
    rw [hmode, covered_iff]
    exact fun h => h.elim (by decide) hno
  rw [zoneEdge, if_pos hedge]
  unfold framePulse
  simp only [hs]
  rw [if_neg hrefused, refusePulse, postSyncError_eq]

/-- Settles O31: the pulses that start no frame, then the frame start behind the close. -/
theorem zonePulses : Obligations.ZonePulses := by
  intro z edge s hrun
  dsimp only
  refine ⟨fun hignored => ?_, fun hedge hs hmode hno => ?_, fun hstarts => ?_⟩
  · rw [exec_zonePulse z edge hrun]
    exact congrArg Host.Outcome.next (zoneEdge_ignored (s := s.withPins (pulsePins z edge s)) hignored)
  · rw [exec_zonePulse z edge hrun]
    exact congrArg Host.Outcome.next (zoneEdge_refused (s := s.withPins (pulsePins z edge s)) hedge hs hmode hno)
  · have hclosed := frameClosed_acts z (s.withPins (pulsePins z edge s))
    have hstart := frameStart_acts z (frameClosed z (s.withPins (pulsePins z edge s)))
    obtain ⟨record, -, hcomp⟩ := frameClosed_comp z (s.withPins (pulsePins z edge s))
    have hglyph : (frameClosed z (s.withPins (pulsePins z edge s))).glyph = s.glyph := hclosed.glyph (by decide)
    refine ⟨(s.zone z).covered, frameClosed z (s.withPins (pulsePins z edge s)), _, exec_starts hstarts, covered_iff _,
      fun hs => frameClosed_taken (s := s.withPins (pulsePins z edge s)) hs, fun hs => if_neg hs, frameStarted z _, ?_,
      (hstart.pins (by decide)).trans (hclosed.pins (by decide)),
      (hstart.pending (by decide)).trans (hclosed.pending (by decide)),
      (hstart.timing (by decide)).trans (hclosed.timing (by decide)),
      (hstart.capture (by decide)).trans (hclosed.capture (by decide)), ?_, ?_, ?_, fun p => ?_, ?_⟩
    · rw [(startReactions_acts z _).zones (by decide), frameOpened_zones, State.zone, hclosed.zones (by decide)]
      rfl
    · rw [started_comp, startedComp, started_alertLatch, frameOpened_alert, frameOpened_comp, frameClosed_alert, hcomp]
      rfl
    · rw [started_comp, startedComp, started_staged, frameOpened_comp, hcomp]
      rfl
    · rw [started_player, startedPlayer, started_latched, hclosed.player (by decide)]
      rfl
    · simp only [State.panel, imageShown, started_sponsor, Tab.get_set_self, latchedPanels_get]
    · rw [startedGlyph, hglyph]

end Sys2Proof.Machine
end

section
/-! SUPPORT. The active set of a zone at a frame start (R67, R68, R80): the windows it takes, their bounds and the marks of the
clear and served record. -/

namespace Sys2Proof.Machine

/-- A window outside its zone on either side is inert, another is cut to it (R68). -/
theorem clipWindow_bounded (zone : Zone) (w : Window) : clipWindow zone w = bounded zone w := by
  unfold clipWindow bounded
  by_cases h : w.top < zone.lines ∧ w.left < zone.width
  · rw [if_pos h, if_neg (by omega)]
  · rw [if_neg h, if_pos (by omega)]

theorem inert_iff (w : Window) : w.inert = true ↔ w.height = 0 ∨ w.width = 0 := by simp [Window.inert]

theorem blocks_iff (w : Window) (alert : Bool) : w.blocks alert = true ↔ w.enabled = true ∧ w.height ≠ 0 ∧ w.width ≠ 0 ∧
    (w.kind = .alert → alert = true) := by
  cases hk : decide (w.kind = .alert) <;> simp_all [Window.blocks, Window.inert, and_assoc]

theorem intersects_iff (a b : Window) : a.intersects b = true ↔ ¬ (a.top + a.height ≤ b.top ∨ b.top + b.height ≤ a.top ∨
    a.left + a.width ≤ b.left ∨ b.left + b.width ≤ a.left) := by
  simp only [Window.intersects, Bool.and_eq_true, decide_eq_true_eq]
  omega

theorem ranksAbove_iff (k : WindowKind) (i : Fin 16) (l : WindowKind) (j : Fin 16) :
    ranksAbove k i l j = true ↔ l.rank < k.rank ∨ (k = l ∧ i < j) := by
  simp [ranksAbove]

/-- R80: nothing that counts and ranks above the window shares a line and a column with it. -/
theorem isClear_iff (active : Tab (Option Window) 16) (alert : Bool) (i : Fin 16) (w : Window) :
    isClear active alert i w = true ↔ ∀ j v, active.get j = some v → v.enabled = true → v.height ≠ 0 → v.width ≠ 0 →
      (v.kind = .alert → alert = true) → w.kind.rank < v.kind.rank ∨ (v.kind = w.kind ∧ j < i) →
      v.top + v.height ≤ w.top ∨ w.top + w.height ≤ v.top ∨ v.left + v.width ≤ w.left ∨ w.left + w.width ≤ v.left := by
  unfold isClear
  rw [List.all_eq_true]
  constructor
  · intro h j v hv he hh hw ha hr
    have hj := h j (List.mem_finRange j)
    rw [hv] at hj
    dsimp only at hj
    by_contra hno
    rw [(ranksAbove_iff _ _ _ _).2 hr, (blocks_iff v alert).2 ⟨he, hh, hw, ha⟩, (intersects_iff v w).2 hno] at hj
    exact absurd hj (by decide)
  · intro h j _
    cases hv : active.get j with
    | none => rfl
    | some v =>
      by_contra hno
      rw [Bool.not_eq_true, Bool.not_eq_false', Bool.and_eq_true, Bool.and_eq_true] at hno
      obtain ⟨⟨hr, hb⟩, hi⟩ := hno
      obtain ⟨he, hh, hw, ha⟩ := (blocks_iff v alert).1 hb
      exact (intersects_iff v w).1 hi (h j v hv he hh hw ha ((ranksAbove_iff _ _ _ _).1 hr))

theorem mem_frameMarks {active : Tab (Option Window) 16} {alert : Bool} {m : FrameMark} : m ∈ frameMarks active alert ↔
    ∃ i w, active.get i = some w ∧ (w.enabled = true ∧ w.height ≠ 0 ∧ w.width ≠ 0 ∧ (w.kind = .sponsor ∨ w.kind = .crawl)) ∧
      m = { window := i, clear := isClear active alert i w, lines := [] } := by
  unfold frameMarks
  rw [List.mem_filterMap]
  have hmarked (w : Window) : (w.enabled = true ∧ (!w.inert) = true ∧ (w.kind = .sponsor ∨ w.kind = .crawl)) ↔
      w.enabled = true ∧ w.height ≠ 0 ∧ w.width ≠ 0 ∧ (w.kind = .sponsor ∨ w.kind = .crawl) := by
    rw [Bool.not_eq_true', ← Bool.not_eq_true, inert_iff, not_or, and_assoc]
  constructor
  · rintro ⟨i, -, hi⟩
    cases hw : active.get i with
    | none => simp [hw] at hi
    | some w =>
      simp only [hw] at hi
      split at hi
      next hm => exact ⟨i, w, hw, (hmarked w).1 hm, (Option.some.inj hi).symm⟩
      next => cases hi
  · rintro ⟨i, w, hw, hm, rfl⟩
    refine ⟨i, List.mem_finRange i, ?_⟩
    simp only [hw]
    exact if_pos ((hmarked w).2 hm)

section
variable (z : Fin 4) (zone : Zone) (alert : Bool) (c : Compositor)

/-- R67: what the zone takes. -/
theorem started_taken (i : Fin 16) : ((c.started z zone alert).taken.get z).get i =
    if c.applyPending.get z = true then if (c.staged.get i).zone = z then some (c.staged.get i) else none
    else (c.taken.get z).get i := by
  unfold Compositor.started takeWindows
  dsimp only
  split
  · rw [Tab.get_set_self, Tab.get_map]
  · rfl

theorem started_active (i : Fin 16) : ((c.started z zone alert).active.get z).get i =
    (((c.started z zone alert).taken.get z).get i).map (bounded zone) := by
  have hclip : clipWindow zone = bounded zone := funext (clipWindow_bounded zone)
  rw [← hclip]
  show (((takeWindows z c).active.set z _).get z).get i = _
  rw [Tab.get_set_self, Tab.get_map]
  rfl

theorem started_record : (c.started z zone alert).frameRecord.get z =
    some (frameMarks ((c.started z zone alert).active.get z) alert) := by
  show ((takeWindows z c).frameRecord.set z _).get z = some (frameMarks (((takeWindows z c).active.set z _).get z) alert)
  rw [Tab.get_set_self, Tab.get_set_self]

theorem started_pending : (c.started z zone alert).applyPending = c.applyPending.set z false := by
  unfold Compositor.started takeWindows
  dsimp only
  split
  · rfl
  next h =>
    rw [Bool.not_eq_true] at h
    rw [← h, Tab.set_get]

theorem started_others {y : Fin 4} (hy : y ≠ z) : (c.started z zone alert).taken.get y = c.taken.get y ∧
    (c.started z zone alert).active.get y = c.active.get y ∧
    (c.started z zone alert).frameRecord.get y = c.frameRecord.get y := by
  unfold Compositor.started takeWindows
  dsimp only
  split <;> simp [Tab.get_set_ne _ _ hy.symm]

theorem started_alertOn : (c.started z zone alert).alertOn = c.alertOn := by
  unfold Compositor.started takeWindows
  dsimp only
  split <;> rfl

end

/-- Bounds are taken from the lines and the width of the zone alone. -/
theorem started_geometry (z : Fin 4) {a b : Zone} (hl : a.lines = b.lines) (hw : a.width = b.width) (alert : Bool)
    (c : Compositor) : c.started z a alert = c.started z b alert := by
  have hclip : clipWindow a = clipWindow b := by
    funext w
    rw [clipWindow, clipWindow, hl, hw]
  rw [Compositor.started, Compositor.started, hclip]

/-- The compositor after a zone pulse that starts a frame, from the one before it but for the record of the frame closed. -/
theorem pulsed_comp (z : Fin 4) (edge : Edge) (s : State) : ∃ record,
    (∀ y, y ≠ z → record.get y = s.comp.frameRecord.get y) ∧
    (startReactions z (frameOpened z (frameClosed z (s.withPins (pulsePins z edge s))))).comp =
      ({ s.comp with frameRecord := record } : Compositor).started z (s.zone z) s.alertInForce := by
  obtain ⟨record, hrecord, hcomp⟩ := frameClosed_comp z (s.withPins (pulsePins z edge s))
  have hzone : (frameClosed z (s.withPins (pulsePins z edge s))).zone z = s.zone z := by
    rw [State.zone, frameClosed_zone]
    rfl
  refine ⟨record, hrecord, ?_⟩
  rw [started_comp, startedComp, frameOpened_comp, hcomp, frameOpened_alert, frameClosed_alert, State.zone,
    frameOpened_zones, Tab.get_set_self, hzone]
  exact started_geometry z rfl rfl _ _

/-- Settles O33: what a frame start makes of the compositor, entry by entry. -/
theorem activeSets : Obligations.ActiveSets := by
  intro z edge s hstarts
  obtain ⟨record, hrecord, hcomp⟩ := pulsed_comp z edge s
  let c := ({ s.comp with frameRecord := record } : Compositor).started z (s.zone z) s.alertInForce
  refine ⟨_, frameMarks (c.active.get z) s.alertInForce, exec_starts hstarts, ?_⟩
  rw [hcomp]
  refine ⟨started_staged .., started_alertOn .., started_alertLatch .., started_pending .., started_record ..,
    fun y hy => ?_, started_taken _ _ _ _, started_active _ _ _ _, fun i => ⟨?_, ?_⟩, fun m hm => ?_⟩
  · obtain ⟨htaken, hactive, hframe⟩ := started_others z (s.zone z) s.alertInForce { s.comp with frameRecord := record } hy
    exact ⟨htaken, hactive, hframe.trans (hrecord y hy)⟩
  · rintro ⟨m, hm, rfl⟩
    obtain ⟨i, w, hw, hmarked, rfl⟩ := mem_frameMarks.1 hm
    exact ⟨w, hw, hmarked⟩
  · rintro ⟨w, hw, hmarked⟩
    exact ⟨_, mem_frameMarks.2 ⟨i, w, hw, hmarked, rfl⟩, rfl⟩
  · obtain ⟨i, w, hw, -, rfl⟩ := mem_frameMarks.1 hm
    refine ⟨rfl, fun v hv => ?_⟩
    obtain rfl : w = v := Option.some.inj (hw.symm.trans hv)
    exact isClear_iff _ _ _ _

end Sys2Proof.Machine
end

section
/-! SUPPORT. The player and the reports at a zone pulse that starts a frame (R157 to R160). -/

namespace Sys2Proof.Machine

/-! ## The source -/

/-- A walk without its first slot is the walk from the next one. -/
theorem walks_tail {link : Fin 1024 → Option (Fin 1024)} {n : Nat} {k : Fin 1024} {l : List (Fin 1024)}
    (h : Walks link (n + 1) (some k) (k :: l)) : Walks link n (link k) l := by
  obtain ⟨-, hlinks⟩ := h
  refine ⟨?_, fun i j hj => ?_⟩
  · have hhead := hlinks 0 k rfl
    rw [List.getElem?_cons_succ, ← List.head?_eq_getElem?] at hhead
    rw [hhead]
    cases n <;> simp
  · have hnext := hlinks (i + 1) j hj
    rw [List.getElem?_cons_succ] at hnext
    rw [hnext]
    simp

/-- The slot a number of links along a walk is the entry of that number. -/
theorem follow_walk {c : Capture} {i n : Nat} {start : Option (Fin 1024)} {l : List (Fin 1024)} (hi : i < n)
    (h : Walks (fun k => (c.slots.get k).next) n start l) : c.follow i start = l[i]? := by
  induction i generalizing n start l with
  | zero =>
    have hhead := h.1
    rw [if_neg (Nat.ne_of_gt hi), List.head?_eq_getElem?] at hhead
    rw [hhead]
    cases start <;> rfl
  | succ i ih =>
    obtain ⟨m, rfl⟩ : ∃ m, n = m + 1 := ⟨n - 1, by omega⟩
    have hhead : l.head? = start := h.1
    cases l with
    | nil =>
      rw [← hhead]
      rfl
    | cons k l =>
      obtain rfl : some k = start := hhead
      exact ih (Nat.lt_of_succ_lt_succ hi) (walks_tail h)

/-! ## Reports -/

/-- Where an operation leaves the bus path and the command unit, they are as its reports leave them. -/
theorem Acts.sends_eq {B : List Block} {U : List UnitId} {s t : State} {rs : List Report} (h : Acts B U s t)
    (hcmd : Block.cmd ∉ B) (hbus : Block.bus ∉ B) (hwire : t.wire = (s.offer rs).wire) :
    t.cmd = (s.offer rs).cmd ∧ t.bus = (s.offer rs).bus := by
  obtain ⟨p, hp⟩ := offer_shape rs s
  have hsame : ∀ b : Block, b.Same s (s.offer rs) := fun b => by
    rw [hp]
    exact Block.same_withReportPath s p b
  obtain ⟨⟨hq, hl, hn, ho, hw⟩, hpr, hc⟩ := wire_eq_iff.1 hwire
  have ht : t.cmd = _ := h.same .cmd hcmd
  have hs : (s.offer rs).cmd = _ := hsame .cmd
  have htb : t.bus = _ := h.same .bus hbus
  have hsb : (s.offer rs).bus = _ := hsame .bus
  exact ⟨by rw [ht, hs, hq, hl, hn, ho, hpr, hc], by rw [htb, hsb, hw]⟩

section
variable (s : State)
theorem wire_withComp (x : Compositor) : (s.withComp x).wire = s.wire := rfl
theorem wire_withPlayer (x : Player) : (s.withPlayer x).wire = s.wire := rfl
theorem wire_withSponsor (x : Sponsor) : (s.withSponsor x).wire = s.wire := rfl
theorem wire_withGlyph (x : GlyphRenderer) : (s.withGlyph x).wire = s.wire := rfl
theorem wire_setZone (z : Fin 4) (x : Zone) : (s.setZone z x).wire = s.wire := rfl
end

section
variable (z : Fin 4) (s : State)

/-- The reports before those of the consumers are of the zone timing unit and the sponsor unit. -/
theorem frameOpened_wire : ∃ before : List Report, (∀ r ∈ before, r.unit = .zoneTiming ∨ r.unit = .sponsor) ∧
    (frameOpened z (frameClosed z s)).wire = (s.offer before).wire := by
  obtain ⟨closing, hclosing, hwire⟩ := (frameClosed_acts z s).sent
  refine ⟨closing ++ (if ((frameClosed z s).zone z).state = .lost then [(frameClosed z s).report .zoneTiming 0 .regained
    z.val (bytesOf 4 (((frameClosed z s).zone z).frameNumber + 1))] else []), fun r hr => ?_, ?_⟩
  · obtain hr | hr := List.mem_append.1 hr
    · simpa using hclosing r hr
    · split at hr
      · obtain rfl := List.mem_singleton.1 hr
        exact .inl rfl
      · exact nomatch hr
  · rw [← offer_append, frameOpened]
    exact offer_wire _ ((wire_setZone _ _ _).trans hwire)

/-- The report of a pause by the alert stands behind those of the zone and of a close, before those of the crawl. -/
theorem beforeCrawl_wire : ∃ before : List Report, (∀ r ∈ before, r.unit = .zoneTiming ∨ r.unit = .sponsor) ∧
    (beforeCrawl z (frameClosed z s)).wire =
      (s.offer (before ++ pauseReports z (frameClosed z s).alertInForce (frameClosed z s))).wire := by
  obtain ⟨before, hbefore, hwire⟩ := frameOpened_wire z s
  refine ⟨before, hbefore, ?_⟩
  rw [← offer_append, beforeCrawl, wire_withSponsor]
  exact offer_wire _ ((wire_withPlayer _ _).trans ((wire_withComp _ _).trans hwire))

theorem pulsed_wire : ∃ before after : List Report, (∀ r ∈ before, r.unit = .zoneTiming ∨ r.unit = .sponsor) ∧
    (∀ r ∈ after, r.unit = .message) ∧ (startReactions z (frameOpened z (frameClosed z s))).wire =
      (s.offer (before ++ pauseReports z (frameClosed z s).alertInForce (frameClosed z s) ++ after)).wire := by
  obtain ⟨before, hbefore, hwire⟩ := beforeCrawl_wire z s
  obtain ⟨after, hafter, hcrawl⟩ := (crawlFrameStart_acts z (beforeCrawl z (frameClosed z s))).sent
  refine ⟨before, after, hbefore, fun r hr => List.mem_singleton.1 (hafter r hr), ?_⟩
  rw [startReactions_eq, wire_withGlyph, ← offer_append, ← offer_wire after hwire, hcrawl]

/-- What a zone pulse that starts a frame leaves of the rest. -/
theorem pulsed_acts : Acts zoneBlocks zoneUnits s (startReactions z (frameOpened z (frameClosed z s))) :=
  ((frameClosed_acts z s).mono (by decide) (by decide)).trans ((frameStart_acts z _).mono (by decide) (by decide))

theorem frameClosed_player : (frameClosed z s).player = s.player := (frameClosed_acts z s).player (by decide)

theorem frameClosed_timing : (frameClosed z s).timing = s.timing := (frameClosed_acts z s).timing (by decide)

theorem frameClosed_capture : (frameClosed z s).capture = s.capture := (frameClosed_acts z s).capture (by decide)

theorem frameClosed_pauses : pauseReports z (frameClosed z s).alertInForce (frameClosed z s) =
    pauseReports z s.alertInForce s := by
  rw [pauseReports, pauseReports, pausedReport, pausedReport, frameClosed_alert, frameClosed_player,
    report_congr (frameClosed_timing z s)]

theorem pulsed_player : (startReactions z (frameOpened z (frameClosed z s))).player =
    s.player.started z s.capture s.alertInForce := by
  rw [started_player, startedPlayer, frameClosed_player, frameClosed_capture, frameClosed_alert]

end

/-- Settles O47: the reports in their order, and the player by its state. -/
theorem playerPacing : Obligations.PlayerPacing := by
  intro z edge s hstarts
  refine ⟨_, exec_starts hstarts, fun i l hwalk => follow_walk (Nat.lt_succ_self i) hwalk, ?reports, ?player⟩
  case reports =>
    obtain ⟨before, after, hbefore, hafter, hwire⟩ := pulsed_wire z (s.withPins (pulsePins z edge s))
    rw [frameClosed_pauses] at hwire
    obtain ⟨hcmd, hbus⟩ := (pulsed_acts z (s.withPins (pulsePins z edge s))).sends_eq (by decide) (by decide) hwire
    refine ⟨before, pauseReports z s.alertInForce s, after, hcmd.trans ?_, hbus.trans ?_, pauseReports_paused z s,
      pauseReports_none z s, hbefore, hafter⟩ <;>
    · rw [offer_withPins]
      rfl
  case player =>
    have hplayer : (startReactions z (frameOpened z (frameClosed z (s.withPins (pulsePins z edge s))))).player =
        s.player.started z s.capture s.alertInForce := pulsed_player z _
    rw [hplayer]
    refine ⟨fun hstill => started_still hstill, fun hpace hs => started_cued hpace hs,
      fun hpace hs hstep => started_step hpace hs hstep,
      fun hpace hs hpauses hstep => started_paused hpace hs hpauses.1 hpauses.2 hstep, fun hpace hs hno hin => ?_,
      fun hpace hs hno hpast hends => ?_, fun hpace hs hno hpast hends => ?_⟩ <;>
    rw [started_playing hpace hs hno]
    · rw [endsOrShows_within hin hs]
      rfl
    · rw [endsOrShows_ends hpast (hends.imp_right And.symm)]
      rfl
    · rw [endsOrShows_loops hpast hs (mt (Or.imp_right And.symm) hends)]
      rfl

end Sys2Proof.Machine
end

section
/-! SUPPORT. The crawl at a zone pulse that starts a frame (R190 to R193, R195): the steps in the cases of an empty crawl, of a
LEAD alone, and of an alert. -/

namespace Sys2Proof.Machine

/-! ## The configuration -/

section
variable (s : State)

theorem holdTested_message (tag : BitVec 16) : ∃ hold, (holdTested tag s).message = { s.message with hold := hold } := by
  unfold holdTested
  dsimp only
  split
  · rw [offer_message]
    exact ⟨_, rfl⟩
  · split
    · rw [offer_message]
      exact ⟨_, rfl⟩
    · exact ⟨_, rfl⟩

theorem removeWith_message (tag : BitVec 16) (i : Fin 64) {post : State → State} (hpost : ∀ t, (post t).message = t.message) :
    ∃ hold, (removeWith tag i post s).message = { s.message.remove i with hold := hold } := by
  obtain ⟨hold, hhold⟩ := holdTested_message (post (s.withMessage (s.message.remove i))) tag
  exact ⟨hold, by rw [removeWith, testHold_eq, hhold, hpost]; rfl⟩

theorem removeWith_config (tag : BitVec 16) (i : Fin 64) {post : State → State}
    (hpost : ∀ t, (post t).message = t.message) : (removeWith tag i post s).message.config = s.message.config := by
  obtain ⟨hold, hmessage⟩ := removeWith_message s tag i hpost
  rw [hmessage]
  rfl

theorem postWithdrawn_message (tag : BitVec 16) (removal : Nat) (m : Message) :
    (postWithdrawn tag removal m s).message = s.message := post_message ..

theorem postMessageExpired_message (m : Message) : (postMessageExpired m s).message = s.message := post_message ..

theorem postRetired_message (m : Message) : (postRetired m s).message = s.message := post_message ..

theorem setQueue_config (u : MessageUnit) (c : MsgClass) (q : List (Fin 64)) : (u.setQueue c q).config = u.config := by
  cases c <;> rfl

theorem promote_config : (promote s).message.config = s.message.config := by
  unfold promote
  split <;> rfl

theorem withdrawAt_config (place : Option (Fin 64)) {vacate : State → State}
    (hv : (vacate s).message.config = s.message.config) :
    (withdrawAt place vacate s).message.config = s.message.config := by
  unfold withdrawAt
  split
  · rfl
  · split
    · split
      · rw [removeWith_config _ _ _ (postWithdrawn_message · _ _ _), hv]
      · rfl
    · rfl

theorem crawlWithdrawals_config : (crawlWithdrawals s).message.config = s.message.config := by
  rw [crawlWithdrawals, promote_config, withdrawAt_config (vacate := clearFollow) _ _ rfl,
    withdrawAt_config (vacate := clearLead) _ _ rfl]

theorem suspendExpiring_message (place : Option (Fin 64)) : (suspendExpiring place s).message.config = s.message.config ∧
    (suspendExpiring place s).message.lead = s.message.lead ∧
    (suspendExpiring place s).message.follow = s.message.follow := by
  unfold suspendExpiring
  split
  · exact ⟨rfl, rfl, rfl⟩
  next i =>
    split
    next m hm =>
      split
      · obtain ⟨hold, hmessage⟩ := removeWith_message s 0 i (postMessageExpired_message · m)
        rw [hmessage]
        exact ⟨rfl, rfl, rfl⟩
      · exact ⟨rfl, rfl, rfl⟩
    · exact ⟨rfl, rfl, rfl⟩

theorem returnToHead_message (place : Option (Fin 64)) : (returnToHead place s).message.config = s.message.config ∧
    (returnToHead place s).message.lead = s.message.lead ∧
    (returnToHead place s).message.follow = s.message.follow := by
  unfold returnToHead
  split
  · exact ⟨rfl, rfl, rfl⟩
  · split
    next m _ =>
      dsimp only [State.withMessage_message]
      cases m.cls <;> exact ⟨rfl, rfl, rfl⟩
    · exact ⟨rfl, rfl, rfl⟩

/-- R193: the suspended crawl is empty. -/
theorem suspendCrawl_message : (suspendCrawl s).message.config = s.message.config ∧
    (suspendCrawl s).message.lead = none ∧ (suspendCrawl s).message.follow = none := by
  unfold suspendCrawl
  dsimp only
  obtain ⟨hc₁, hl₁, hf₁⟩ := suspendExpiring_message (clearLead (clearFollow s)) s.message.lead
  obtain ⟨hc₂, hl₂, hf₂⟩ := suspendExpiring_message (suspendExpiring s.message.lead (clearLead (clearFollow s)))
    s.message.follow
  obtain ⟨hc₃, hl₃, hf₃⟩ := returnToHead_message (suspendExpiring s.message.follow
    (suspendExpiring s.message.lead (clearLead (clearFollow s)))) s.message.follow
  obtain ⟨hc₄, hl₄, hf₄⟩ := returnToHead_message (returnToHead s.message.follow (suspendExpiring s.message.follow
    (suspendExpiring s.message.lead (clearLead (clearFollow s))))) s.message.lead
  exact ⟨hc₄.trans (hc₃.trans (hc₂.trans hc₁)), hl₄.trans (hl₃.trans (hl₂.trans hl₁)),
    hf₄.trans (hf₃.trans (hf₂.trans hf₁))⟩

theorem advanceAt_config (place : Option (Fin 64)) : (advanceAt place s).message.config = s.message.config := by
  unfold advanceAt
  split <;> rfl

theorem finishLead_config : (finishLead s).message.config = s.message.config := by
  obtain ⟨i, m, hm⟩ | hnone := onCrawl_or s.message.lead s
  · rw [finishLead_on hm]
    split
    · rw [promote_config]
      unfold finished
      split
      · exact removeWith_config _ _ _ (postMessageExpired_message · m)
      · split
        · exact removeWith_config _ _ _ (postRetired_message · m)
        · rw [finished_repeats]
          exact setQueue_config ..
    · rfl
  · rw [finishLead_off hnone]

theorem crawlAdmit_config : (crawlAdmit s).message.config = s.message.config := by
  unfold crawlAdmit
  split
  · split
    · rfl
    · split
      · rfl
      · dsimp only [State.withMessage_message]
        split <;> exact setQueue_config ..
  · rfl

theorem crawlFrameStart_config (z : Fin 4) : (crawlFrameStart z s).message.config = s.message.config := by
  by_cases hpace : s.message.config.paceZone = z
  · rw [crawlFrameStart_pace z hpace, takeCrawlRecord_eq, State.withMessage_message, crawlMoved]
    dsimp only
    split
    · rw [(suspendCrawl_message _).1, crawlWithdrawals_config]
    · rw [crawlAdmit_config, crawlAdvance, finishLead_config, finishLead_config, advanceAt_config, advanceAt_config,
        crawlWithdrawals_config]
  · rw [crawlFrameStart, if_neg hpace]

end

/-! ## The cases of the crawl -/

section
variable {s : State} {i : Fin 64} {m : Message}

/-- With nothing to withdraw and nothing to promote step 1 changes nothing. -/
theorem crawlWithdrawals_quiet (hlead : ∀ i m, OnCrawl s.message.lead s i m → m.withdrawing = false)
    (hfollow : s.message.follow = none) : crawlWithdrawals s = s := by
  have hkept : withdrawAt s.message.lead clearLead s = s :=
    (withdrawAt_spec s.message.lead (vacate := clearLead) s rfl).2 hlead
  unfold crawlWithdrawals
  dsimp only
  rw [hkept, hfollow]
  exact (promote_spec s).2 (.inr hfollow)

theorem onCrawl_none (s : State) (i : Fin 64) (m : Message) : ¬ OnCrawl none s i m := fun h => nomatch h.1

/-- The message unit at a frame start of its pace zone, from what the steps make of it. -/
theorem crawled_message (z : Fin 4) {x : MessageUnit} (hpace : s.message.config.paceZone = z)
    (h : crawlMoved z (crawlWithdrawals s) = s.withMessage x) : (crawlFrameStart z s).message =
      { x with
        record := some
          { zone := z, frame := (s.zone z).frameNumber, alert := s.comp.alertLatch.get z, crawlWidth := x.config.width
            items := crawlItems (s.withMessage x) x.lead ++ crawlItems (s.withMessage x) x.follow } } := by
  rw [crawlFrameStart_pace z hpace, takeCrawlRecord_eq, h]
  rfl

/-- A LEAD alone under an alert stands at the head of its queue again. -/
theorem suspendCrawl_lead (hlead : s.message.lead = some i) (hfollow : s.message.follow = none)
    (hm : s.message.store.get i = some m) (hexpiring : m.expiring = false) : suspendCrawl s = s.withMessage
      { s.message.setQueue m.cls (i :: s.message.queue m.cls) with
        store := s.message.store.set i (some { m with state := .queued, travel := 0 }), lead := none, follow := none } := by
  have hkept : suspendExpiring (some i) (clearLead (clearFollow s)) = clearLead (clearFollow s) :=
    (suspendExpiring_spec (some i) (clearLead (clearFollow s))).2
      (onCrawl_spec (i := i) (m := m) ⟨rfl, hm⟩ hexpiring)
  unfold suspendCrawl
  rw [hlead, hfollow]
  dsimp only
  rw [hkept, suspendExpiring_off (onCrawl_none _), returnToHead_off (onCrawl_none _),
    returnToHead_on (s := clearLead (clearFollow s)) (i := i) (m := m) ⟨rfl, hm⟩]
  cases m.cls <;> rfl

theorem setQueue_follow {u : MessageUnit} (c : MsgClass) (q : List (Fin 64)) (h : u.follow = none) :
    u.setQueue c q = { u.setQueue c q with follow := none } := by
  obtain ⟨_, _, _, _, _, _, follow, _, _, _⟩ := u
  obtain rfl : follow = none := h
  cases c <;> rfl

/-- An empty crawl takes the head of the highest non-empty class. -/
theorem crawl_fills {c : MsgClass} {j : Fin 64} {rest : List (Fin 64)} (hlead : s.message.lead = none)
    (hfollow : s.message.follow = none) (hhead : Heads s.message c j rest) (hm : s.message.store.get j = some m) :
    crawlAdmit (crawlAdvance s) = s.withMessage { s.message.setQueue c rest with
      store := s.message.store.set j (some { m with state := .lead, travel := 0 }), lead := some j, follow := none } := by
  have hstill : crawlAdvance s = s := by
    have hoff : finishLead s = s := finishLead_off fun i n hn => onCrawl_none s i n (hlead ▸ hn)
    rw [crawlAdvance, hlead, hfollow, advanceAt_off (onCrawl_none s), advanceAt_off (onCrawl_none s), hoff, hoff]
  have hcan : s.message.canAdmit = true :=
    (canAdmit_iff s).2 ⟨hfollow, fun i n hn => absurd (hlead ▸ hn) (onCrawl_none s i n)⟩
  rw [hstill, crawlAdmit_on hcan hhead, if_pos hlead, hm, setQueue_follow c rest hfollow]
  rfl

/-- The LEAD one frame on. -/
def leadMoved (i : Fin 64) (m : Message) (s : State) : State := s.withMessage { s.message with
  store := s.message.store.set i (some { m with travel := m.travel + s.message.config.speed }) }

theorem crawlAdvance_lead (hlead : s.message.lead = some i) (hfollow : s.message.follow = none)
    (hm : s.message.store.get i = some m)
    (hpast : m.travel + s.message.config.speed < s.message.config.width + wide s m) :
    crawlAdvance s = leadMoved i m s := by
  have hon : OnCrawl (leadMoved i m s).message.lead (leadMoved i m s) i
      { m with travel := m.travel + s.message.config.speed } := ⟨hlead, Tab.get_set_self _ _ _⟩
  have hoff : finishLead (leadMoved i m s) = leadMoved i m s :=
    (finishLead_spec _).2 (onCrawl_spec hon (by exact hpast))
  rw [crawlAdvance, hlead, hfollow, advanceAt_on (i := i) (m := m) ⟨rfl, hm⟩, advanceAt_off (onCrawl_none _)]
  exact (congrArg finishLead hoff).trans hoff

/-- A LEAD alone whose entry is not clear by the gap, or with nothing waiting, goes on alone. -/
theorem crawl_leads (hlead : s.message.lead = some i) (hfollow : s.message.follow = none)
    (hm : s.message.store.get i = some m)
    (hpast : m.travel + s.message.config.speed < s.message.config.width + wide s m)
    (hno : m.travel + s.message.config.speed < wide s m + s.message.config.gap ∨ ∀ c, s.message.queue c = []) :
    crawlAdmit (crawlAdvance s) = leadMoved i m s := by
  have hon : OnCrawl (leadMoved i m s).message.lead (leadMoved i m s) i
      { m with travel := m.travel + s.message.config.speed } := ⟨hlead, Tab.get_set_self _ _ _⟩
  rw [crawlAdvance_lead hlead hfollow hm hpast]
  refine crawlAdmit_off (hno.imp (fun hgap hcan => ?_) id)
  exact absurd (((canAdmit_iff _).1 hcan).2 _ _ hon) (Nat.not_le.2 hgap)

/-- Behind a LEAD clear of the entry by the gap the head of the highest class enters. -/
theorem crawl_follows {c : MsgClass} {j : Fin 64} {rest : List (Fin 64)} {n : Message} (hlead : s.message.lead = some i)
    (hfollow : s.message.follow = none) (hm : s.message.store.get i = some m)
    (hpast : m.travel + s.message.config.speed < s.message.config.width + wide s m)
    (hgap : wide s m + s.message.config.gap ≤ m.travel + s.message.config.speed) (hhead : Heads s.message c j rest)
    (hji : j ≠ i) (hn : s.message.store.get j = some n) : crawlAdmit (crawlAdvance s) = s.withMessage
      { s.message.setQueue c rest with
        store := (s.message.store.set i (some { m with travel := m.travel + s.message.config.speed })).set j
          (some { n with state := .follow, travel := 0 })
        follow := some j } := by
  have hon : OnCrawl (leadMoved i m s).message.lead (leadMoved i m s) i
      { m with travel := m.travel + s.message.config.speed } := ⟨hlead, Tab.get_set_self _ _ _⟩
  have hcan : (leadMoved i m s).message.canAdmit = true :=
    (canAdmit_iff _).2 ⟨hfollow, onCrawl_spec hon (by exact hgap)⟩
  have hstore : (leadMoved i m s).message.store.get j = some n := (Tab.get_set_ne _ _ hji.symm).trans hn
  have hsome : ¬ (leadMoved i m s).message.lead = none := by
    rw [show (leadMoved i m s).message.lead = some i from hlead]
    exact nofun
  rw [crawlAdvance_lead hlead hfollow hm hpast, crawlAdmit_on (c := c) (j := j) (rest := rest) hcan (by cases c <;> exact hhead),
    if_neg hsome, hstore]
  cases c <;> rfl

theorem crawlMoved_alert (z : Fin 4) (h : s.comp.alertLatch.get z = true) :
    crawlMoved z (crawlWithdrawals s) = suspendCrawl (crawlWithdrawals s) := by
  rw [crawlMoved, (crawlWithdrawals_acts s).comp (by decide), if_pos h]

theorem crawlMoved_clear (z : Fin 4) (h : s.comp.alertLatch.get z = false) :
    crawlMoved z (crawlWithdrawals s) = crawlAdmit (crawlAdvance (crawlWithdrawals s)) := by
  rw [crawlMoved, (crawlWithdrawals_acts s).comp (by decide), if_neg (by rw [h]; exact Bool.false_ne_true)]

/-- What the crawl record keeps of the message at a place. -/
theorem crawlItems_some (h : s.message.store.get i = some m) :
    crawlItems s (some i) = [{ sponsor := m.sponsor, travel := m.travel, width := wide s m }] := by
  simp only [crawlItems, Option.bind_some, h]

end

/-! ## Zone pulses -/

section
variable (z : Fin 4) (edge : Edge) (s : State)

/-- The state the message unit finds at a zone pulse that starts a frame. -/
def pulsedBefore : State := beforeCrawl z (frameClosed z (s.withPins (pulsePins z edge s)))

theorem pulsedBefore_message : ∃ record, (pulsedBefore z edge s).message = { s.message with record := record } := by
  obtain ⟨record, hrecord⟩ := frameClosed_message z (s.withPins (pulsePins z edge s))
  refine ⟨record, ?_⟩
  rw [pulsedBefore, beforeCrawl, State.withSponsor_message, offer_message, State.withPlayer_message,
    State.withComp_message, frameOpened, offer_message]
  exact hrecord

theorem pulsedBefore_latch : (pulsedBefore z edge s).comp.alertLatch.get z = s.alertInForce := by
  rw [pulsedBefore, beforeCrawl, State.withSponsor_comp, offer_comp]
  exact (startedComp_latch z _).trans (frameClosed_alert z _)

theorem pulsedBefore_frame : ((pulsedBefore z edge s).zone z).frameNumber = (s.zone z).frameNumber + 1 := by
  rw [State.zone, pulsedBefore, beforeCrawl, State.withSponsor_zones, offer_zones, State.withPlayer_zones,
    State.withComp_zones, frameOpened_zones, Tab.get_set_self, State.zone, frameClosed_zone]
  rfl

theorem pulsedBefore_timing : (pulsedBefore z edge s).timing = s.timing := by
  rw [pulsedBefore, beforeCrawl, State.withSponsor_timing, offer_timing, State.withPlayer_timing, State.withComp_timing,
    frameOpened, offer_timing]
  exact frameClosed_timing z _

theorem pulsedBefore_acts :
    Acts zoneBlocks zoneUnits (s.withPins (pulsePins z edge s)) (pulsedBefore z edge s) := by
  have hclosed : Acts zoneBlocks zoneUnits (s.withPins (pulsePins z edge s))
      (frameClosed z (s.withPins (pulsePins z edge s))) := (frameClosed_acts z _).mono (by decide) (by decide)
  refine ((((Acts.offer (hclosed.setZone _ _ (by decide)) _ fun r hr => ?_).withComp _ (by decide)).withPlayer _
    (by decide)).offer _ fun r hr => ?_).withSponsor _ (by decide)
  · split at hr
    · obtain rfl := List.mem_singleton.1 hr
      exact List.mem_cons_self
    · exact nomatch hr
  · unfold pauseReports at hr
    split at hr
    · obtain rfl := List.mem_singleton.1 hr
      exact show UnitId.player ∈ zoneUnits by decide
    · exact nomatch hr

theorem pulsedBefore_sent : ∃ earlier : List Report, (pulsedBefore z edge s).cmd = (s.offer earlier).cmd ∧
    (pulsedBefore z edge s).bus = (s.offer earlier).bus ∧ ∀ r ∈ earlier, r.unit ≠ .message := by
  obtain ⟨before, hbefore, hwire⟩ := beforeCrawl_wire z (s.withPins (pulsePins z edge s))
  obtain ⟨hcmd, hbus⟩ := (pulsedBefore_acts z edge s).sends_eq (by decide) (by decide) hwire
  rw [offer_withPins] at hcmd hbus
  refine ⟨_, hcmd, hbus, fun r hr => ?_⟩
  obtain hr | hr := List.mem_append.1 hr
  · obtain h | h := hbefore r hr <;> rw [h] <;> decide
  · unfold pauseReports at hr
    split at hr
    · rw [List.mem_singleton.1 hr]
      exact show UnitId.player ≠ .message by decide
    · exact nomatch hr

theorem pulsed_message : (startReactions z (frameOpened z (frameClosed z (s.withPins (pulsePins z edge s))))).message =
    (crawlFrameStart z (pulsedBefore z edge s)).message := by
  rw [startReactions_eq]
  rfl

end

/-- Settles O51: the steps in their order, and the message unit in each of the cases. -/
theorem crawlFrames : Obligations.CrawlFrames := by
  intro z edge s hstarts
  obtain ⟨record, hmessage⟩ := pulsedBefore_message z edge s
  have hlatch := pulsedBefore_latch z edge s
  have hframe := pulsedBefore_frame z edge s
  have hdone := pulsed_message z edge s
  have hconfig : (pulsedBefore z edge s).message.config = s.message.config := by rw [hmessage]
  have hlead : (pulsedBefore z edge s).message.lead = s.message.lead := by rw [hmessage]
  have hfollow : (pulsedBefore z edge s).message.follow = s.message.follow := by rw [hmessage]
  have hstore : (pulsedBefore z edge s).message.store = s.message.store := by rw [hmessage]
  have hqueues : (pulsedBefore z edge s).message.queue = s.message.queue := by
    rw [hmessage]
    funext c
    cases c <;> rfl
  have hheads : ∀ {c j rest}, Heads s.message c j rest → Heads (pulsedBefore z edge s).message c j rest := by
    intro c j rest hhead
    rwa [Heads, hqueues]
  have hwide : ∀ m, wide (pulsedBefore z edge s) m = wide s m := fun m => by rw [wide, wide, hconfig]
  have hclear : ¬ s.alertInForce = true → (pulsedBefore z edge s).comp.alertLatch.get z = false := fun halert =>
    hlatch.trans (Bool.eq_false_of_not_eq_true halert)
  have hon : ∀ {i m}, s.message.lead = some i → s.message.store.get i = some m →
      OnCrawl (pulsedBefore z edge s).message.lead (pulsedBefore z edge s) i m := fun hl hm =>
    ⟨hlead.trans hl, by rw [hstore]; exact hm⟩
  refine ⟨_, exec_starts hstarts, ⟨pulsedBefore z edge s, _, crawlFrameStart_spec z _, ?_, hlatch, hframe,
    pulsedBefore_timing z edge s, ?_, pulsedBefore_sent z edge s⟩, ?_, fun hpace => ?_, fun hpace halert => ?_,
    fun i m hpace halert hl hf hm hw he => ?_, fun c j rest m hpace halert hl hf hhead hm => ?_,
    fun i m hpace halert hl hf hm hw hpast => ⟨fun hno => ?_, fun c j rest n hgap hhead hji hn => ?_⟩⟩
  · rw [hmessage]
  · rw [startReactions_eq]
    rfl
  all_goals rw [hdone]
  · rw [crawlFrameStart_config, hconfig]
  · rw [crawlFrameStart, if_neg (by rw [hconfig]; exact hpace), hmessage]
  · rw [crawlFrameStart_pace z (by rw [hconfig]; exact hpace), takeCrawlRecord_eq, crawlMoved_alert z (hlatch.trans halert)]
    exact (suspendCrawl_message _).2
  · have hquiet := crawlWithdrawals_quiet (onCrawl_spec (hon hl hm) hw) (hfollow.trans hf)
    rw [crawled_message z (by rw [hconfig]; exact hpace) (by
      rw [crawlMoved_alert z (hlatch.trans halert), hquiet]
      exact suspendCrawl_lead (hlead.trans hl) (hfollow.trans hf) (hon hl hm).2 he), hlatch, hframe, hmessage]
    cases m.cls <;> rfl
  · have hquiet := crawlWithdrawals_quiet (s := pulsedBefore z edge s)
      (fun i n hn => absurd ((hlead.trans hl) ▸ hn) (onCrawl_none _ i n)) (hfollow.trans hf)
    rw [crawled_message z (by rw [hconfig]; exact hpace) (by
      rw [crawlMoved_clear z (hclear halert), hquiet]
      exact crawl_fills (hlead.trans hl) (hfollow.trans hf) (hheads hhead) (by rw [hstore]; exact hm)),
      hlatch, hframe, crawlItems_some (by exact Tab.get_set_self _ _ _)]
    simp only [wide, State.withMessage_message, setQueue_config, hmessage]
    cases c <;> rfl
  · have hquiet := crawlWithdrawals_quiet (onCrawl_spec (hon hl hm) hw) (hfollow.trans hf)
    rw [crawled_message z (by rw [hconfig]; exact hpace) (by
      rw [crawlMoved_clear z (hclear halert), hquiet]
      exact crawl_leads (hlead.trans hl) (hfollow.trans hf) (hon hl hm).2 (by rw [hconfig, hwide]; exact hpast)
        (by rw [hconfig, hwide, hqueues]; exact hno)), hlatch, hframe]
    dsimp only
    rw [hlead, hl, hfollow, hf, crawlItems_some (by exact Tab.get_set_self _ _ _)]
    simp only [wide, State.withMessage_message, hmessage, hl, hf]
    rfl
  · have hquiet := crawlWithdrawals_quiet (onCrawl_spec (hon hl hm) hw) (hfollow.trans hf)
    have hstays : (((pulsedBefore z edge s).message.store.set i (some { m with
        travel := m.travel + (pulsedBefore z edge s).message.config.speed })).set j
          (some { n with state := .follow, travel := 0 })).get i =
        some { m with travel := m.travel + (pulsedBefore z edge s).message.config.speed } :=
      (Tab.get_set_ne _ _ hji).trans (Tab.get_set_self _ _ _)
    rw [crawled_message z (by rw [hconfig]; exact hpace) (by
      rw [crawlMoved_clear z (hclear halert), hquiet]
      exact crawl_follows (hlead.trans hl) (hfollow.trans hf) (hon hl hm).2 (by rw [hconfig, hwide]; exact hpast)
        (by rw [hconfig, hwide]; exact hgap) (hheads hhead) hji (by rw [hstore]; exact hn)), hlatch, hframe]
    dsimp only
    rw [show ((pulsedBefore z edge s).message.setQueue c rest).lead = some i by cases c <;> exact hlead.trans hl,
      crawlItems_some (by exact hstays), crawlItems_some (by exact Tab.get_set_self _ _ _)]
    simp only [wide, State.withMessage_message, setQueue_config, hmessage]
    cases c <;> simp only [MessageUnit.setQueue, hl] <;> rfl

end Sys2Proof.Machine
end

section
/-! SUPPORT. What the counters gain at a frame close (R54, R174, R178): each step adds to the counters it names, so the counts of
a close are sums over the zone, the panels and the mentioned entries. -/

namespace Sys2Proof.Machine

/-! ## Gains -/

/-- From `s` to `t` each counter takes as many increments as `gain` says; the mode and the panel latches stay. -/
structure Gained (gain : CounterId → Nat) (s t : State) : Prop where
  saturate : t.cmd.saturate = s.cmd.saturate
  latches : t.sponsor.latches = s.sponsor.latches
  counters : ∀ id, t.counters.get id = (Counter.bump s.cmd.saturate)^[gain id] (s.counters.get id)

namespace Gained
variable {f g : CounterId → Nat} {s m t : State}

theorem congr (h : Gained f s t) (hg : ∀ id, g id = f id) : Gained g s t :=
  ⟨h.saturate, h.latches, fun id => by rw [hg, h.counters]⟩

theorem still (hc : t.counters = s.counters) (hm : t.cmd.saturate = s.cmd.saturate)
    (hl : t.sponsor.latches = s.sponsor.latches) : Gained (fun _ => 0) s t :=
  ⟨hm, hl, fun _ => congrArg (Counters.get · _) hc⟩

theorem trans (h₁ : Gained f s m) (h₂ : Gained g m t) : Gained (fun id => f id + g id) s t :=
  ⟨h₂.saturate.trans h₁.saturate, h₂.latches.trans h₁.latches, fun id => by
    rw [h₂.counters, h₁.counters, h₁.saturate, ← Function.iterate_add_apply, Nat.add_comm (g id)]⟩

theorem then_still (h : Gained f s m) (hc : t.counters = m.counters) (hm : t.cmd.saturate = m.cmd.saturate)
    (hl : t.sponsor.latches = m.sponsor.latches) : Gained f s t :=
  (h.trans (still hc hm hl)).congr fun _ => rfl

/-- Steps taken one after another gain the sum of what each gains. -/
theorem foldl {α : Type} {step : State → α → State} {gain : α → CounterId → Nat}
    (h : ∀ a t, t.sponsor.latches = s.sponsor.latches → Gained (gain a) t (step t a)) (l : List α) :
    Gained (fun id => (l.map (gain · id)).sum) s (l.foldl step s) := by
  suffices hgen : ∀ t, t.sponsor.latches = s.sponsor.latches →
      Gained (fun id => (l.map (gain · id)).sum) t (l.foldl step t) from hgen s rfl
  induction l with
  | nil => exact fun t _ => still rfl rfl rfl
  | cons a l ih => exact fun t ht => (h a t ht).trans (ih _ ((h a t ht).latches.trans ht))

end Gained

theorem count_gained (id : CounterId) (s : State) : Gained (fun j => if j = id then 1 else 0) s (count id s) := by
  refine ⟨count_saturate id s, ?_, fun j => ?_⟩
  · obtain ⟨p, hp⟩ := count_shape id s
    rw [hp]
    rfl
  · rw [count_counters]
    split
    next hj =>
      subst hj
      rw [Counters.get_set_self]
      rfl
    next hj => exact Counters.get_set_ne _ _ (Ne.symm hj)

/-! ## The steps of a close -/

section
variable (s : State)

theorem expose_gained (e : Fin 128) (cause : Nat) (p : Option (Fin 8)) :
    Gained (fun j => if j = .exposed e then 1 else 0) s (expose e cause p s) := by
  have hfulfil : Gained (fun _ => 0) (count (.exposed e) s) (expose e cause p s) := by
    unfold expose fulfil
    split
    · obtain ⟨path, hpath⟩ := post_shape .sponsor 0 .entryFulfilled 0 e.val _ _
      rw [postFulfilled, hpath]
      exact .still rfl rfl rfl
    · exact .still rfl rfl rfl
  exact ((count_gained (.exposed e) s).trans hfulfil).congr fun _ => rfl

theorem rotateDecision_latches (p : Fin 8) : (rotateDecision p s).sponsor.latches = s.sponsor.latches := by
  have hsearch : (advanceSearch p s).sponsor.latches = s.sponsor.latches := by
    unfold advanceSearch search
    dsimp only
    split <;> rfl
  unfold rotateDecision
  dsimp only
  split
  · exact hsearch
  · split
    · exact hsearch
    · rfl

theorem decision_latches (p : Fin 8) : (decision p s).sponsor.latches = s.sponsor.latches := by
  unfold decision
  split
  · rfl
  · rfl
  · exact rotateDecision_latches s p
  · split
    · dsimp only
      split
      · exact rotateDecision_latches _ p
      · rfl
    · rfl

theorem decision_gained (p : Fin 8) : Gained (fun _ => 0) s (decision p s) := by
  refine .still ?_ ?_ (decision_latches s p)
  all_goals
    obtain ⟨x, hx⟩ := decision_shape p s
    rw [hx]
    rfl

theorem progress_gained (showing : Count) (p : Fin 8) : Gained (fun _ => 0) s (progress showing p s) := by
  rw [progress_eq]
  exact .still rfl rfl rfl

/-- The record exposes panel `p` (R174). -/
abbrev CloseRecord.Exposes (record : CloseRecord) (p : Fin 8) : Prop :=
  record.alert = false ∧ ∃ m ∈ record.ofPanel p, m.clear = true ∧ m.served = true

/-- What the settlement of a panel adds: OCCLUDED of a panel that the record names and does not expose, EXPOSED of the entry
latched for one that it exposes (R174). -/
def panelGain (record : CloseRecord) (latches : Tab PanelLatch 8) (p : Fin 8) (id : CounterId) : Nat :=
  if record.Exposes p then
    if (latches.get p).entry.map .exposed = some id then 1 else 0
  else if record.ofPanel p ≠ [] ∧ id = .occluded p then 1 else 0

theorem settlePanel_gained (z : Fin 4) (r : CloseRecord) (p : Fin 8) :
    Gained (panelGain r (s.sponsor.latches.get z) p) s (settlePanel z r s p) := by
  have hexposes : ((r.ofPanel p).any fun m => m.clear && m.served) = true ↔
      ∃ m ∈ r.ofPanel p, m.clear = true ∧ m.served = true := by
    simp only [List.any_eq_true, Bool.and_eq_true]
  have hoccluded : Gained (fun id => if id = .occluded p then 1 else 0) s (count (.occluded p) s) := count_gained _ s
  unfold settlePanel
  dsimp only
  split
  next hempty =>
    have hempty := List.isEmpty_iff.1 hempty
    refine (Gained.still rfl rfl rfl).congr fun id => ?_
    simp [panelGain, hempty]
  next hshown =>
    rw [List.isEmpty_iff] at hshown
    split
    next halert => exact hoccluded.congr fun id => by simp [panelGain, halert, hshown]
    next halert =>
      rw [Bool.not_eq_true] at halert
      split
      next hclear =>
        refine ((Gained.trans (f := fun id => if ((s.sponsor.latches.get z).get p).entry.map .exposed = some id
          then 1 else 0) ?_ (progress_gained _ _ p)).trans (decision_gained _ p)).congr fun id => ?_
        · split
          next e he =>
            exact (expose_gained s e 0 (some p)).congr fun id => by simp [he, eq_comm]
          next hnone => exact (Gained.still rfl rfl rfl).congr fun id => by simp [hnone]
        · rw [panelGain, if_pos ⟨halert, hexposes.1 hclear⟩]
          exact if_congr Iff.rfl rfl rfl
      next hclear =>
        refine (hoccluded.trans (decision_gained _ p)).congr fun id => ?_
        rw [panelGain, if_neg fun h => hclear (hexposes.2 h.2)]
        simp [hshown]

theorem settlePanels_gained (z : Fin 4) (r : CloseRecord) :
    Gained (fun id => ∑ p, panelGain r (s.sponsor.latches.get z) p id) s (settlePanels z r s) := by
  refine (Gained.foldl (s := s) (fun p t ht => ?_) (List.finRange 8)).congr fun id => Fin.sum_univ_def _
  rw [← ht]
  exact settlePanel_gained t z r p

theorem creditMentions_gained (mentioned : List (Fin 128)) :
    Gained (fun id => ∑ e, if e ∈ mentioned ∧ id = .exposed e then 1 else 0) s (creditMentions mentioned s) := by
  refine (Gained.foldl (s := s) (fun e t _ => ?_) (List.finRange 128)).congr fun id => Fin.sum_univ_def _
  by_cases h : e ∈ mentioned
  · rw [if_pos (List.contains_iff_mem.2 h)]
    exact (expose_gained t e 1 none).congr fun id => by simp [h]
  · rw [if_neg (mt List.contains_iff_mem.1 h)]
    exact (Gained.still rfl rfl rfl).congr fun id => by simp [h]

/-- What the consumers of a close add (R174, R178). -/
def closeGain (z : Fin 4) (s : State) (id : CounterId) : Nat :=
  (∑ p, panelGain (s.closeRecord z) (s.sponsor.latches.get z) p id) +
    ∑ e, if e ∈ s.mentionList z (s.closeRecord z) ∧ id = .exposed e then 1 else 0

theorem closeReactions_gained (z : Fin 4) : Gained (closeGain z s) s (closeReactions z s) := by
  refine ((settlePanels_gained s z (s.closeRecord z)).trans
    (creditMentions_gained _ (s.mentionList z (s.closeRecord z)))).then_still ?_ ?_ ?_
  all_goals
    rw [closeReactions, discardCrawlRecord_eq]
    rfl

theorem countClose_gained (z : Fin 4) (complete loss : Bool) : Gained
    (fun id => (if id = zoneCounter z 0 then 1 else 0) + if complete = false ∧ id = zoneCounter z 1 then 1 else 0) s
    (countClose z complete loss s) := by
  unfold countClose
  dsimp only
  refine Gained.congr (Gained.trans (f := fun id => if id = zoneCounter z 0 then 1 else 0)
    (g := fun id => if complete = false ∧ id = zoneCounter z 1 then 1 else 0)
    (m := count (zoneCounter z 0) (if (s.zone z).level = .everyFrame then postFrame z complete loss s else s)) ?_ ?_)
    fun _ => rfl
  · refine ((Gained.still ?_ ?_ ?_).trans (count_gained _ _)).congr fun id => (Nat.zero_add _).symm
    all_goals
      split
      · obtain ⟨path, hpath⟩ := post_shape .zoneTiming 0 .frame 0 z.val _ s
        rw [postFrame, hpath]
        rfl
      · rfl
  · cases complete with
    | true => exact (Gained.still rfl rfl rfl).congr fun id => rfl
    | false => exact (count_gained _ _).congr fun id => by simp

theorem closeGain_zone (z : Fin 4) (i : Fin 16) : closeGain z s (.zone i) = 0 := by
  simp [closeGain, panelGain]

theorem closeGain_path (z : Fin 4) (i : Fin 4) : closeGain z s (.path i) = 0 := by
  simp [closeGain, panelGain]

theorem closeGain_occluded (z : Fin 4) (p : Fin 8) : closeGain z s (.occluded p) =
    if (s.closeRecord z).ofPanel p ≠ [] ∧ ¬ (s.closeRecord z).Exposes p then 1 else 0 := by
  have hpanel : ∀ q, panelGain (s.closeRecord z) (s.sponsor.latches.get z) q (.occluded p) =
      if p = q then (if (s.closeRecord z).ofPanel p ≠ [] ∧ ¬ (s.closeRecord z).Exposes p then 1 else 0) else 0 :=
    fun q => by
      unfold panelGain
      by_cases hq : p = q
      · subst hq
        by_cases he : (s.closeRecord z).Exposes p
        · rw [if_pos he, if_pos rfl, if_neg (by simp), if_neg fun h => h.2 he]
        · rw [if_neg he, if_pos rfl]
          exact if_congr (and_congr_right fun _ => iff_of_true rfl he) rfl rfl
      · rw [if_neg hq]
        split
        · exact if_neg (by simp)
        · exact if_neg fun h => hq (CounterId.occluded.inj h.2)
  rw [closeGain, Finset.sum_congr rfl fun q _ => hpanel q, Finset.sum_ite_eq, if_pos (Finset.mem_univ _)]
  simp

/-- Each panel that exposes entry `e` credits it once, and a mention once more. -/
theorem closeGain_exposed {z : Fin 4} {e : Fin 128} {showing : List (Fin 8)} (hnodup : showing.Nodup)
    (hmem : ∀ p, p ∈ showing ↔ (s.closeRecord z).Exposes p ∧ ((s.sponsor.latches.get z).get p).entry = some e) :
    closeGain z s (.exposed e) =
      showing.length + if e ∈ s.mentionList z (s.closeRecord z) then 1 else 0 := by
  have hpanel : ∀ p, panelGain (s.closeRecord z) (s.sponsor.latches.get z) p (.exposed e) =
      if p ∈ showing.toFinset then 1 else 0 := fun p => by
    have hcredits := List.mem_toFinset.trans (hmem p)
    unfold panelGain
    by_cases he : (s.closeRecord z).Exposes p
    · rw [if_pos he]
      refine if_congr (Iff.trans ?_ (hcredits.trans (and_iff_right he)).symm) rfl rfl
      simp
    · rw [if_neg he, if_neg (by simp), if_neg fun h => he (hcredits.1 h).1]
  have hmention : ∀ d, (if d ∈ s.mentionList z (s.closeRecord z) ∧ (CounterId.exposed e) = .exposed d then 1 else 0) =
      if e = d then (if e ∈ s.mentionList z (s.closeRecord z) then 1 else 0) else 0 := fun d => by
    by_cases hd : e = d
    · subst hd
      simp
    · simp [hd]
  rw [closeGain, Finset.sum_congr rfl fun q _ => hpanel q, Finset.sum_congr rfl fun d _ => hmention d,
    Finset.sum_ite_eq, if_pos (Finset.mem_univ _), Finset.sum_ite_mem, Finset.univ_inter, Finset.sum_const,
    List.toFinset_card_of_nodup hnodup, Nat.smul_one_eq_cast, Nat.cast_id]

/-! ## The record and the mentions -/

theorem mem_closeRecord (z : Fin 4) (c : CloseMark) : c ∈ (s.closeRecord z).marks ↔
    ∃ marks, s.comp.frameRecord.get z = some marks ∧ ∃ m ∈ marks, ∃ w, (s.comp.active.get z).get m.window = some w ∧
      c = { window := m.window, kind := w.kind, panel := w.panel, clear := m.clear
            served := decide (∀ k, k < w.height → w.top + k ∈ m.lines) } := by
  have hserved : ∀ (m : FrameMark) (w : Window), m.whollyServed w =
      decide (∀ k, k < w.height → w.top + k ∈ m.lines) := fun m w => by
    rw [Bool.eq_iff_iff, decide_eq_true_iff]
    simp [FrameMark.whollyServed]
  unfold State.closeRecord
  cases s.comp.frameRecord.get z with
  | none => simp
  | some marks => simp [hserved, eq_comm]

theorem mem_mentionList (z : Fin 4) (r : CloseRecord) (e : Fin 128) : e ∈ s.mentionList z r ↔
    ∃ c, s.message.record = some c ∧ c.zone = z ∧ c.frame = (s.zone z).frameNumber ∧ r.alert = false ∧
      (∃ m ∈ r.marks, m.kind = .crawl ∧ m.clear = true ∧ m.served = true) ∧
      ∃ i ∈ c.items, i.sponsor = some e ∧ 0 < i.travel ∧ i.travel < c.crawlWidth + i.width := by
  unfold State.mentionList
  cases s.message.record with
  | none => simp
  | some c =>
    have hheld : (c.isOf z (s.zone z).frameNumber = true ∧ (!r.alert) = true ∧
        (r.marks.any fun m => m.kind == .crawl && m.clear && m.served) = true) ↔
        c.zone = z ∧ c.frame = (s.zone z).frameNumber ∧ r.alert = false ∧
          ∃ m ∈ r.marks, m.kind = .crawl ∧ m.clear = true ∧ m.served = true := by
      simp [CrawlRecord.isOf, and_assoc]
    have hmentions : e ∈ c.mentions ↔
        ∃ i ∈ c.items, i.sponsor = some e ∧ 0 < i.travel ∧ i.travel < c.crawlWidth + i.width := by
      simp only [CrawlRecord.mentions, List.mem_filterMap]
      refine exists_congr fun i => and_congr_right fun _ => ?_
      split
      next hstrip => exact (and_iff_left hstrip).symm
      next hstrip => exact iff_of_false nofun fun h => hstrip h.2
    dsimp only
    split
    next h =>
      obtain ⟨hz, hframe, halert, hmarks⟩ := hheld.1 h
      rw [hmentions]
      exact ⟨fun he => ⟨c, rfl, hz, hframe, halert, hmarks, he⟩, fun ⟨d, hd, _, _, _, _, he⟩ => by
        obtain rfl := Option.some.inj hd
        exact he⟩
    next h =>
      refine iff_of_false (List.not_mem_nil) fun ⟨d, hd, hz, hframe, halert, hmarks, _⟩ => h (hheld.2 ?_)
      obtain rfl := Option.some.inj hd
      exact ⟨hz, hframe, halert, hmarks⟩

/-! ## The close by a pulse -/

variable {s} in
theorem frameClosed_gained {z : Fin 4} (h : (s.zone z).state = .scanning) : Gained (fun id =>
    ((if id = zoneCounter z 0 then 1 else 0) + if (s.zone z).covered = false ∧ id = zoneCounter z 1 then 1 else 0) +
      closeGain z s id) s (frameClosed z s) := by
  have hacts := countClose_acts z (s.zone z).covered false s
  have hcounted := countClose_gained s z (s.zone z).covered false
  have hrecord : (countClose z (s.zone z).covered false s).closeRecord z = s.closeRecord z := by
    rw [State.closeRecord, hacts.comp (by decide)]
    rfl
  have hmentions : ∀ r, (countClose z (s.zone z).covered false s).mentionList z r = s.mentionList z r := fun r => by
    rw [State.mentionList, hacts.message (by decide), State.zone, hacts.zones (by decide)]
    rfl
  rw [frameClosed, if_pos h, closeByPulse]
  refine (hcounted.trans (closeReactions_gained _ z)).congr fun id => ?_
  dsimp only [closeGain]
  rw [hrecord, hmentions, hcounted.latches]

theorem zoneCounter_inj {y z k l : Fin 4} : zoneCounter y k = zoneCounter z l ↔ y = z ∧ k = l := by
  simp only [zoneCounter, CounterId.zone.injEq, Fin.ext_iff]
  omega

section
variable {s} {z : Fin 4} (hs : (s.zone z).state = .scanning)
include hs

theorem started_counters (id : CounterId) : (startReactions z (frameOpened z (frameClosed z s))).counters.get id =
    (Counter.bump s.cmd.saturate)^[((if id = zoneCounter z 0 then 1 else 0) +
      if (s.zone z).covered = false ∧ id = zoneCounter z 1 then 1 else 0) + closeGain z s id] (s.counters.get id) := by
  rw [(frameStart_acts z _).counters (by decide)]
  exact (frameClosed_gained hs).counters id

theorem started_zone_counters : let t := startReactions z (frameOpened z (frameClosed z s))
    t.counters.get (zoneCounter z 0) = (s.counters.get (zoneCounter z 0)).bump s.cmd.saturate ∧
    (Covered (s.zone z) → t.counters.get (zoneCounter z 1) = s.counters.get (zoneCounter z 1)) ∧
    (¬ Covered (s.zone z) →
      t.counters.get (zoneCounter z 1) = (s.counters.get (zoneCounter z 1)).bump s.cmd.saturate) ∧
    (∀ y k, y ≠ z ∨ 2 ≤ k.val → t.counters.get (zoneCounter y k) = s.counters.get (zoneCounter y k)) := by
  have hzone : ∀ y k, closeGain z s (zoneCounter y k) = 0 := fun y k => closeGain_zone s z _
  refine ⟨?_, fun hc => ?_, fun hno => ?_, fun y k hyk => ?_⟩
  · rw [started_counters hs, hzone]
    simp [zoneCounter_inj]
  · rw [started_counters hs, hzone]
    simp [zoneCounter_inj, (covered_iff _).2 hc]
  · rw [started_counters hs, hzone]
    simp [zoneCounter_inj, Bool.not_eq_true _ ▸ mt (covered_iff _).1 hno]
  · rw [started_counters hs, hzone, if_neg, if_neg]
    · rfl
    all_goals
      rw [zoneCounter_inj]
      omega

theorem started_path : (startReactions z (frameOpened z (frameClosed z s))).counters.path = s.counters.path :=
  Tab.ext_get fun i => by
    refine (started_counters hs (.path i)).trans ?_
    rw [closeGain_path, if_neg nofun, if_neg (fun h => nomatch h.2)]
    rfl

theorem started_occluded (p : Fin 8) : (startReactions z (frameOpened z (frameClosed z s))).counters.get (.occluded p) =
    if (s.closeRecord z).ofPanel p ≠ [] ∧ ¬ (s.closeRecord z).Exposes p
    then (s.counters.get (.occluded p)).bump s.cmd.saturate else s.counters.get (.occluded p) := by
  rw [started_counters hs, closeGain_occluded, if_neg nofun, if_neg (fun h => nomatch h.2)]
  split <;> rfl

theorem started_exposed {e : Fin 128} {showing : List (Fin 8)} (hnodup : showing.Nodup)
    (hmem : ∀ p, p ∈ showing ↔ (s.closeRecord z).Exposes p ∧ ((s.sponsor.latches.get z).get p).entry = some e) :
    (startReactions z (frameOpened z (frameClosed z s))).counters.get (.exposed e) =
      (Counter.bump s.cmd.saturate)^[showing.length + if e ∈ s.mentionList z (s.closeRecord z) then 1 else 0]
        (s.counters.get (.exposed e)) := by
  rw [started_counters hs, closeGain_exposed s hnodup hmem, if_neg nofun, if_neg (fun h => nomatch h.2), Nat.zero_add]

/-- Behind the reports of the close stand those of the player and of the message unit. -/
theorem started_sent : ∃ started : List Report,
    (startReactions z (frameOpened z (frameClosed z s))).cmd = ((frameClosed z s).offer started).cmd ∧
    (startReactions z (frameOpened z (frameClosed z s))).bus = ((frameClosed z s).offer started).bus ∧
    ∀ r ∈ started, r.unit = .player ∨ r.unit = .message := by
  have hopened : Acts [.zones, .comp, .player, .sponsor, .message, .glyph] [.player, .message] (frameClosed z s)
      (startReactions z (frameOpened z (frameClosed z s))) := by
    refine Acts.trans ?_ ((startReactions_acts z _).mono (by decide) (by decide))
    have hstate : ((frameClosed z s).zone z).state ≠ .lost := by
      rw [State.zone, frameClosed_zone]
      exact fun h => absurd (hs.symm.trans h) (by decide)
    rw [frameOpened, if_neg hstate]
    exact ((Acts.refl _ _ _).setZone _ _ (by decide)).offer _ (List.forall_mem_nil _)
  obtain ⟨rs, hrs, hcmd, hbus⟩ := hopened.sends (by decide) (by decide)
  exact ⟨rs, hcmd, hbus, fun r hr => by simpa using hrs r hr⟩

end

/-- Settles O32: the gains of the counters summed over the steps of the close. -/
theorem frameCloseAccounting : Obligations.FrameCloseAccounting := by
  intro z edge s hstarts hs
  have hpinned : ((s.withPins (pulsePins z edge s)).zone z).state = .scanning := hs
  have hexec := exec_starts hstarts
  have hcovered := covered_iff (s.zone z)
  have htaken := frameClosed_taken hpinned
  have hsponsor := started_sponsor z (frameClosed z (s.withPins (pulsePins z edge s)))
  have hkept := (frameStart_acts z (frameClosed z (s.withPins (pulsePins z edge s)))).counters (by decide)
  have hsent := started_sent hpinned
  obtain ⟨hframes, hcomplete, hshort, hothers⟩ := started_zone_counters hpinned
  have hpath := started_path hpinned
  have hoccluded := started_occluded hpinned
  have hexposed := fun (e : Fin 128) (showing : List (Fin 8)) => started_exposed (e := e) (showing := showing) hpinned
  refine ⟨(s.zone z).covered, frameClosed z (s.withPins (pulsePins z edge s)), _, hexec, ?_⟩
  generalize startReactions z (frameOpened z (frameClosed z (s.withPins (pulsePins z edge s)))) = t at *
  generalize frameClosed z (s.withPins (pulsePins z edge s)) = closed at *
  refine ⟨hcovered, htaken, ?_, hkept, hsent, rfl, rfl, mem_closeRecord s z, mem_mentionList s z _, hframes, hcomplete,
    hshort, hothers, hpath, fun p hp => (hoccluded p).trans (if_neg fun h => hp.elim h.1 h.2),
    fun p hshown hp => (hoccluded p).trans (if_pos ⟨hshown, hp⟩), fun e showing hnodup hmem => hexposed e showing hnodup hmem⟩
  rw [hsponsor]

end
end Sys2Proof.Machine
end

section
/-! SUPPORT. The stages of a composed read (R65, R72 to R76): its place, the windows that cover it in rank order, its source and
the translation. -/

namespace Sys2Proof.Machine

section
variable {s : State} {z : Fin 4} {p : ReadPlace}

theorem padding_iff (zone : Zone) : zone.padding p = true ↔ zone.width ≤ p.granule := decide_eq_true_iff

/-! ## The covering windows -/

theorem coversAt_iff {i : Fin 16} {w : Window} : CoversAt s z p i w ↔
    (s.comp.active.get z).get i = some w ∧ w.covers (s.comp.alertLatch.get z) p = true := by
  have halert : (w.kind != .alert || s.comp.alertLatch.get z) = true ↔
      (w.kind = .alert → s.comp.alertLatch.get z = true) := by
    rw [Bool.or_eq_true, bne_iff_ne, ← imp_iff_not_or]
  refine and_congr_right fun _ => ?_
  simp only [Window.covers, Bool.and_eq_true, halert, contains_iff, Window.inert, Bool.not_eq_true', Bool.or_eq_false_iff,
    beq_eq_false_iff_ne, and_assoc]

theorem mem_activeOfKind {k : WindowKind} {i : Fin 16} {w : Window} :
    (i, w) ∈ s.activeOfKind z k ↔ (s.comp.active.get z).get i = some w ∧ w.kind = k := by
  simp only [State.activeOfKind, List.mem_filterMap, List.mem_finRange, true_and]
  constructor
  · rintro ⟨j, hj⟩
    split at hj
    next v hv =>
      split at hj
      next hk =>
        obtain ⟨rfl, rfl⟩ := Prod.mk.inj (Option.some.inj hj)
        exact ⟨hv, hk⟩
      next => exact nomatch hj
    next => exact nomatch hj
  · rintro ⟨hw, hk⟩
    exact ⟨i, by rw [hw]; exact if_pos hk⟩

theorem mem_covering {kinds : List WindowKind} {i : Fin 16} {w : Window} :
    (i, w) ∈ s.covering z p kinds ↔ CoversAt s z p i w ∧ w.kind ∈ kinds := by
  simp only [State.covering, List.mem_flatMap, List.mem_filter, mem_activeOfKind, coversAt_iff]
  constructor
  · rintro ⟨k, hk, ⟨hw, rfl⟩, hcovers⟩
    exact ⟨⟨hw, hcovers⟩, hk⟩
  · rintro ⟨⟨hw, hcovers⟩, hk⟩
    exact ⟨w.kind, hk, ⟨hw, rfl⟩, hcovers⟩

/-- R65: a higher kind first, and of one kind the lower number. -/
def Above (v w : Placed) : Prop := w.2.kind.rank < v.2.kind.rank ∨ (v.2.kind = w.2.kind ∧ v.1 < w.1)

theorem activeOfKind_pairwise (k : WindowKind) : (s.activeOfKind z k).Pairwise fun v w => v.1 < w.1 := by
  refine List.pairwise_filterMap.2 ((List.pairwise_lt_finRange 16).imp fun {i j} hij v hv w hw => ?_)
  have hfirst : ∀ {i : Fin 16} {v : Placed}, (match (s.comp.active.get z).get i with
      | some w => if w.kind = k then some (i, w) else none
      | none => none) = some v → v.1 = i := fun {i v} h => by
    split at h
    · split at h
      · exact congrArg Prod.fst (Option.some.inj h).symm
      · exact nomatch h
    · exact nomatch h
  rw [hfirst hv, hfirst hw]
  exact hij

theorem covering_pairwise {kinds : List WindowKind} (h : kinds.Pairwise fun k l => l.rank < k.rank) :
    (s.covering z p kinds).Pairwise Above := by
  have hkind : ∀ {k : WindowKind} {w : Placed}, w ∈ (s.activeOfKind z k).filter (fun w =>
      w.2.covers (s.comp.alertLatch.get z) p) → w.2.kind = k := fun hw =>
    (mem_activeOfKind.1 (List.mem_of_mem_filter hw)).2
  refine List.pairwise_flatMap.2 ⟨fun k _ => ?_, h.imp fun hrank v hv w hw => .inl ?_⟩
  · refine (((activeOfKind_pairwise k).filter _).imp_of_mem fun hv hw hlt => .inr ⟨?_, hlt⟩)
    rw [hkind hv, hkind hw]
  · rw [hkind hv, hkind hw]
    exact hrank

theorem glyphList_lists (s : State) (z : Fin 4) (p : ReadPlace) : ListsGlyphs s z p (s.glyphList z p) := by
  refine ⟨fun i w => ?_, covering_pairwise (by decide)⟩
  rw [State.glyphList, mem_covering]
  refine and_congr_right fun _ => ?_
  cases w.kind <;> decide

/-! ## The source -/

theorem rank_lt_irrefl {k l : WindowKind} (h : l = k) : ¬ l.rank < k.rank := fun hlt => by
  rw [h] at hlt
  exact Nat.lt_irrefl _ hlt

section
variable {k : WindowKind} (hk : k ∈ [WindowKind.sponsor, .replay])
include hk

theorem find_highest {i : Fin 16} {w : Window}
    (h : (s.sourceList z p).find? (fun w => w.2.kind == k) = some (i, w)) : HighestAt s z p k i w := by
  obtain ⟨hkind, above, below, hlist, habove⟩ := List.find?_eq_some_iff_append.1 h
  have hmem : (i, w) ∈ s.sourceList z p := List.mem_of_find?_eq_some h
  have hpairwise : (s.sourceList z p).Pairwise Above := covering_pairwise (by decide)
  refine ⟨(mem_covering.1 hmem).1, beq_iff_eq.1 hkind, fun j v hv hvk => ?_⟩
  have hin : (j, v) ∈ s.sourceList z p := mem_covering.2 ⟨hv, hvk ▸ hk⟩
  rw [hlist] at hin hpairwise
  obtain hin | hin := List.mem_append.1 hin
  · have hnot := habove _ hin
    rw [hvk, beq_self_eq_true] at hnot
    exact absurd hnot (by decide)
  · obtain hin | hin := List.mem_cons.1 hin
    · exact le_of_eq (congrArg Prod.fst hin).symm
    · obtain hrank | ⟨-, hlt⟩ := (List.pairwise_cons.1 (List.pairwise_append.1 hpairwise).2.1).1 _ hin
      · exact absurd hrank (rank_lt_irrefl (hvk.trans (beq_iff_eq.1 hkind).symm))
      · exact le_of_lt hlt

theorem find_none : (s.sourceList z p).find? (fun w => w.2.kind == k) = none ↔ NoneAt s z p k := by
  rw [List.find?_eq_none]
  exact ⟨fun h i w hw hkind => h (i, w) (mem_covering.2 ⟨hw, hkind ▸ hk⟩) (beq_iff_eq.2 hkind),
    fun h w hw hkind => h _ _ (mem_covering.1 hw).1 (beq_iff_eq.1 hkind)⟩

theorem find_of_highest {i : Fin 16} {w : Window} (h : HighestAt s z p k i w) :
    (s.sourceList z p).find? (fun w => w.2.kind == k) = some (i, w) := by
  obtain ⟨hcovers, hkind, hleast⟩ := h
  cases hfind : (s.sourceList z p).find? (fun w => w.2.kind == k) with
  | none => exact absurd hkind ((find_none hk).1 hfind _ _ hcovers)
  | some found =>
    obtain ⟨hc, hkd, hl⟩ := find_highest hk (i := found.1) (w := found.2) hfind
    have hi : found.1 = i := le_antisymm (hl i w hcovers hkind) (hleast _ _ hc hkd)
    obtain ⟨hw, -⟩ := hcovers
    obtain ⟨hv, -⟩ := hc
    rw [hi] at hv
    exact congrArg some (Prod.ext hi (Option.some.inj (hv.symm.trans hw)))

end

theorem source_chosen (s : State) (z : Fin 4) (p : ReadPlace) : SourceChosen s z p (s.source z p) := by
  have hs : WindowKind.sponsor ∈ [WindowKind.sponsor, .replay] := by decide
  have hr : WindowKind.replay ∈ [WindowKind.sponsor, .replay] := by decide
  refine ⟨fun i w panel hw hpanel => ?_, fun hnone => ⟨fun i w k hw hk => ?_, fun h => ?_⟩⟩
  · have hbound : w.panel = panel := Fin.ext <|
      (congrArg (· % 8) hpanel).trans (Nat.mod_eq_of_lt panel.isLt)
    rw [State.source, find_of_highest hs hw, ← hbound]
  · rw [State.source, (find_none hs).2 hnone, find_of_highest hr hw, hk]
    rfl
  · rw [State.source, (find_none hs).2 hnone]
    obtain hreplay | hlatch := h
    · rw [(find_none hr).2 hreplay]
      cases s.player.latched.get z <;> rfl
    · rw [hlatch]

/-- R76: the image's address, unless the read leaves the image or the address space. -/
theorem translates (w : Window) (image : Image) (p : ReadPlace) (n : Nat) : Translates w image p n (translate w image p n) := by
  have hspace : ∀ a, Config.addressSpace < a + 8 * n ↔ 0xFFFFFFFFF < a + 8 * n - 1 := fun a => by
    have : Config.addressSpace = 0x1000000000 := rfl
    omega
  unfold translate
  dsimp only [Translates]
  simp only [hspace]
  exact ⟨fun h => if_pos h, fun h => if_neg h⟩

end
end Sys2Proof.Machine
end

section
/-! SUPPORT. The alert state and the commands APPLY, ALERT_ON, ALERT_OFF and PROBE (R66, R69, R70, R83, R84). -/

namespace Sys2Proof.Machine

/-! ## The alert in force -/

theorem alertInForce_iff (t : State) : t.alertInForce = true ↔ t.pins.alertIn = true ∨ t.comp.alertOn = true :=
  Bool.or_eq_true_iff

theorem reportAlertChange_eq {before after : State} (tag : BitVec 16) (h : after.timing = before.timing) :
    reportAlertChange tag before after = if after.alertInForce = before.alertInForce then after
      else after.offer [before.report .compositor tag .alertChange 0
        [if after.alertInForce then 1 else 0, if after.pins.alertIn then 1 else 0,
          if after.comp.alertOn then 1 else 0]] := by
  rw [reportAlertChange, postAlertChange_eq, report_congr h]

/-! ## What PROBE answers -/

theorem probe_bytes (r : ProbeResult) :
    r.bytes = packed (probeFields r.zone r.place r.outcome r.window r.address r.glyphs r.alertLatch) := by
  have hend : packed [] = [] := rfl
  obtain ⟨zone, place, outcome, window, address, glyphs, latch⟩ := r
  cases place with
  | none => cases address <;>
    simp only [ProbeResult.bytes, probeFields, packed_orOnes, packed_cons, flag_eq, List.append_assoc, hend,
      List.append_nil, Option.map, optionalBytes]
  | some p => cases address <;>
    simp only [ProbeResult.bytes, probeFields, packed_orOnes, packed_cons, flag_eq, List.append_assoc, hend,
      List.append_nil, Option.map, optionalBytes]

theorem probe_length (r : ProbeResult) : r.bytes.length = 17 := by
  rw [probe_bytes, length_packed]
  rfl

section
variable {s : State} {a : Nat}

theorem probe_outside (h : AreaHolds a s ∨ ∀ z, ¬ ZoneHolds z a s) : s.probe a = .outside := by
  unfold State.probe
  by_cases harea : s.inControlArea a = true
  · exact if_pos harea
  · rw [if_neg harea, zoneAt_eq_none.2 (h.resolve_left (mt inControlArea_iff.2 harea))]

variable {z : Fin 4} (harea : ¬ AreaHolds a s) (hz : ZoneHolds z a s) (hlowest : ∀ y, y < z → ¬ ZoneHolds y a s)
include harea hz hlowest

theorem probe_padding (h : (s.zone z).width ≤ (placeOf (s.zone z) a).granule) : s.probe a =
    { zone := some z, place := some (placeOf (s.zone z) a), outcome := 1, window := none, address := some a
      glyphs := [], alertLatch := s.comp.alertLatch.get z } := by
  rw [State.probe, if_neg (mt inControlArea_iff.1 harea), zoneAt_eq_some.2 ⟨hz, hlowest⟩]
  exact if_pos ((padding_iff _).2 h)

/-- The answer for a place of the zone by the source of its read. -/
def ProbeResult.inside (s : State) (z : Fin 4) (a : Nat) : ProbeResult :=
  let p := placeOf (s.zone z) a
  let answer (outcome : Nat) (window : Option (Fin 16)) (address : Option Nat) : ProbeResult :=
    { zone := some z, place := some p, outcome := outcome, window := window, address := address
      glyphs := (s.glyphList z p).map Prod.fst, alertLatch := s.comp.alertLatch.get z }
  match s.source z p with
  | none => answer 2 none (some a)
  | some (w, image) =>
    match translate w.2 image p 1 with
    | some b => answer 3 (some w.1) (some b)
    | none => answer 4 (some w.1) none

theorem probe_inside (h : (placeOf (s.zone z) a).granule < (s.zone z).width) : s.probe a = .inside s z a := by
  rw [State.probe, if_neg (mt inControlArea_iff.1 harea), zoneAt_eq_some.2 ⟨hz, hlowest⟩]
  exact if_neg (mt (padding_iff _).1 (Nat.not_le.2 h))

end

theorem inside_original {s : State} {z : Fin 4} {a : Nat} (h : s.source z (placeOf (s.zone z) a) = none) :
    (ProbeResult.inside s z a).bytes = packed (probeFields (some z) (some (placeOf (s.zone z) a)) 2 none (some a)
      ((s.glyphList z (placeOf (s.zone z) a)).map Prod.fst) (s.comp.alertLatch.get z)) := by
  rw [probe_bytes, ProbeResult.inside, h]

theorem inside_translated {s : State} {z : Fin 4} {a b : Nat} {w : Placed} {image : Image}
    (h : s.source z (placeOf (s.zone z) a) = some (w, image))
    (hb : translate w.2 image (placeOf (s.zone z) a) 1 = some b) :
    (ProbeResult.inside s z a).bytes = packed (probeFields (some z) (some (placeOf (s.zone z) a)) 3 (some w.1) (some b)
      ((s.glyphList z (placeOf (s.zone z) a)).map Prod.fst) (s.comp.alertLatch.get z)) := by
  simp only [probe_bytes, ProbeResult.inside, h, hb]

theorem inside_fill {s : State} {z : Fin 4} {a : Nat} {w : Placed} {image : Image}
    (h : s.source z (placeOf (s.zone z) a) = some (w, image))
    (hb : translate w.2 image (placeOf (s.zone z) a) 1 = none) :
    (ProbeResult.inside s z a).bytes = packed (probeFields (some z) (some (placeOf (s.zone z) a)) 4 (some w.1) none
      ((s.glyphList z (placeOf (s.zone z) a)).map Prod.fst) (s.comp.alertLatch.get z)) := by
  simp only [probe_bytes, ProbeResult.inside, h, hb]

theorem takeProbe_fits {h : Header} {address : BitVec 40} {s : State} (hfits : address.toNat < 0x1000000000) :
    takeProbe h address s =
      s.offer [s.report .compositor h.tag .probe 0 (s.probe (address.toNat / 8 * 8)).bytes] := by
  rw [takeProbe, if_pos (addressFits_iff.2 hfits), acknowledge_data]
  exact post_eq_offer ..

theorem takeProbe_beyond {h : Header} {address : BitVec 40} {s : State} (hbeyond : 0x1000000000 ≤ address.toNat) :
    takeProbe h address s = s.refuse 0x13 .compositor h .range := by
  rw [takeProbe, if_neg (mt addressFits_iff.1 (Nat.not_lt.2 hbeyond)), acknowledge_refuse]

/-- Settles O34: the alert commands by the report of a change, PROBE by the stages of a composed read. -/
theorem alertApplyProbe : Obligations.AlertApplyProbe := by
  intro h level address s hrun
  have hon : ∀ on, setAlertFlag h.tag on s = _ := fun on =>
    reportAlertChange_eq (before := s) (after := s.withComp { s.comp with alertOn := on }) h.tag rfl
  refine ⟨alertInForce_iff, exec_takes rfl rfl hrun (acknowledge_ok _ _ h s _), exec_takes rfl rfl hrun ?_,
    exec_takes rfl rfl hrun ?_, ?_, fun hbeyond => exec_takes rfl rfl hrun (takeProbe_beyond hbeyond),
    fun hfits => ⟨probe_length _, fun hout => ?_, fun z harea hz hlowest => ⟨fun hpad => ?_, fun hin => ?_⟩,
      exec_takes rfl rfl hrun (takeProbe_fits hfits)⟩⟩
  · exact (acknowledge_ok _ _ h s _).trans (congrArg (State.done · 0x11 .compositor h false []) (hon true))
  · exact (acknowledge_ok _ _ h s _).trans (congrArg (State.done · 0x12 .compositor h false []) (hon false))
  · refine congrArg Host.Outcome.next ((if_neg (by rw [hrun]; decide)).trans ?_)
    exact reportAlertChange_eq 0 rfl
  · rw [probe_outside hout, probe_bytes]
    rfl
  · rw [probe_padding harea hz hlowest hpad, probe_bytes]
  · rw [probe_inside harea hz hlowest hin]
    exact ⟨_, _, glyphList_lists s z _, source_chosen s z _, inside_original, fun i w image hsource =>
      ⟨_, translates w image _ 1, fun b => inside_translated hsource, inside_fill hsource⟩⟩

end Sys2Proof.Machine
end

section
/-! SUPPORT. The pixels a read delivers (R74, R77, R78, R87 to R99): the walk down the glyph list and the outcome of the read. -/

namespace Sys2Proof.Machine

/-! ## The walk -/

section
variable (s : State) (z : Fin 4) (p : ReadPlace) (beat k : Nat)

/-- What the windows of a list decide of a pixel when each of them is consulted. -/
def firstDecided : List Placed → Option Pixel
  | [] => none
  | (_, w) :: rest =>
    match s.glyph.pixel z w (w.column p beat k) (p.line - w.top) with
    | some colour => some (s.glyph.colours.get colour)
    | none => if w.isOpaque then some (s.glyph.colours.get w.background) else firstDecided rest

/-- Behind a KEYED CLOCK window CLOCK windows alone are consulted. -/
theorem walk_clocks (l : List Placed) :
    s.walk z p beat k true l = firstDecided s z p beat k (l.filter fun w => w.2.kind == .clock) := by
  induction l with
  | nil => rfl
  | cons w rest ih =>
    obtain ⟨i, w⟩ := w
    by_cases hk : w.kind = .clock
    · have hfilter : ((i, w) :: rest).filter (fun w => w.2.kind == .clock) =
          (i, w) :: rest.filter fun w => w.2.kind == .clock := List.filter_cons_of_pos (by rw [hk]; rfl)
      rw [hfilter, State.walk, if_neg fun h => h.2 hk, firstDecided, Bool.true_or, ih] <;> rfl
    · have hfilter : ((i, w) :: rest).filter (fun w => w.2.kind == .clock) =
          rest.filter fun w => w.2.kind == .clock := List.filter_cons_of_neg (mt beq_iff_eq.1 hk)
      rw [hfilter, State.walk, if_pos ⟨rfl, hk⟩, ih]

theorem consulted_cons {w : Placed} {rest : List Placed} (h : w.2.kind = .alert) :
    consulted (w :: rest) = w :: consulted rest := by
  have hnot : (w.2.kind == .clock) = false := by rw [h]; rfl
  unfold consulted
  rw [List.any_cons, hnot, Bool.false_or]
  split
  · exact List.filter_cons_of_pos (by rw [h]; rfl)
  · rfl

theorem consulted_clock {w : Placed} {rest : List Placed} (h : w.2.kind = .clock)
    (hrest : ∀ v ∈ rest, v.2.kind ≠ .alert) : consulted (w :: rest) = w :: rest.filter fun v => v.2.kind == .clock := by
  unfold consulted
  rw [List.any_cons, beq_iff_eq.2 h, Bool.true_or, if_pos rfl, List.filter_cons_of_pos (by rw [h]; rfl)]
  refine congrArg (w :: ·) (List.filter_congr fun v hv => ?_)
  rw [beq_eq_false_iff_ne.2 (hrest v hv), Bool.false_or]

theorem consulted_others {l : List Placed} (h : ∀ v ∈ l, v.2.kind ≠ .clock) : consulted l = l := by
  refine if_neg fun hany => ?_
  obtain ⟨v, hv, hk⟩ := List.any_eq_true.1 hany
  exact h v hv (beq_iff_eq.1 hk)

/-- The law of the clock (R74): in rank order the walk consults the windows `consulted` names. -/
theorem walk_consulted {l : List Placed} (hl : l.Pairwise Above) :
    s.walk z p beat k false l = firstDecided s z p beat k (consulted l) := by
  induction l with
  | nil => rfl
  | cons w rest ih =>
    obtain ⟨i, w⟩ := w
    obtain ⟨hw, hrest⟩ := List.pairwise_cons.1 hl
    rw [State.walk, if_neg fun h => absurd h.1 (by decide), Bool.false_or]
    by_cases halert : w.kind = .alert
    · rw [consulted_cons halert, firstDecided]
      have hopaque : w.isOpaque = true := by rw [Window.isOpaque, halert]; rfl
      simp only [hopaque, if_true] <;> rfl
    · by_cases hclock : w.kind = .clock
      · have hlower : ∀ v ∈ rest, v.2.kind ≠ .alert := fun v hv hk => by
          obtain hrank | ⟨hkind, -⟩ := hw v hv
          · exact absurd (hk ▸ hclock ▸ hrank : WindowKind.alert.rank < WindowKind.clock.rank) (by decide)
          · exact halert (hkind.trans hk)
        rw [consulted_clock hclock hlower, firstDecided, beq_iff_eq.2 hclock, walk_clocks] <;> rfl
      · have hlower : ∀ v ∈ rest, v.2.kind ≠ .clock := fun v hv hk => by
          obtain hrank | ⟨hkind, -⟩ := hw v hv
          · have hrank : WindowKind.clock.rank < w.kind.rank := hk ▸ hrank
            revert hrank halert
            cases w.kind <;> decide
          · exact hclock (hkind.trans hk)
        rw [consulted_others (l := (i, w) :: rest) (List.forall_mem_cons.2 ⟨hclock, hlower⟩), firstDecided,
          beq_eq_false_iff_ne.2 hclock, ih hrest, consulted_others hlower] <;> rfl

theorem isOpaque_iff (w : Window) : w.isOpaque = true ↔ w.kind = .alert ∨ w.render = .opaqueCells := by
  rw [Window.isOpaque, Bool.or_eq_true, beq_iff_eq, beq_iff_eq]

variable {s z p beat k}

theorem firstDecided_through {w : Placed} (h : LetsThrough s z p beat k w) (rest : List Placed) :
    firstDecided s z p beat k (w :: rest) = firstDecided s z p beat k rest := by
  obtain ⟨hkind, hrender, hpixel⟩ := h
  rw [firstDecided, hpixel, if_neg]
  rw [isOpaque_iff, hrender]
  exact fun h => h.elim hkind (by decide)

theorem firstDecided_append {above : List Placed} (h : ∀ v ∈ above, LetsThrough s z p beat k v) (below : List Placed) :
    firstDecided s z p beat k (above ++ below) = firstDecided s z p beat k below := by
  induction above with
  | nil => rfl
  | cons v above ih =>
    obtain ⟨hv, habove⟩ := List.forall_mem_cons.1 h
    rw [List.cons_append, firstDecided_through hv, ih habove]

end

/-! ## The pixels of a glyph window -/

theorem bit_iff (g : GlyphRenderer) (c : Code) {row column : Nat} (hr : row < 24) (hc : column < 16) :
    g.bit c row column = true ↔ BitSet g c row column := by
  have hrow : (glyphRow c row).val = 24 * c.val + row := by
    show c.val * 24 + row % 24 = _
    rw [Nat.mod_eq_of_lt hr, Nat.mul_comm]
  have hbit : g.bit c row column = (g.store.get (glyphRow c row)).getLsbD (15 - column) := by
    rw [GlyphRenderer.bit, BitVec.getMsbD_eq_getLsbD, decide_eq_true hc, Bool.true_and]
  rw [hbit]
  refine ⟨fun h => ⟨_, hrow, h⟩, fun ⟨e, he, h⟩ => ?_⟩
  obtain rfl : e = glyphRow c row := Fin.ext (he.trans hrow.symm)
  exact h

/-- A column of a cell, magnified or not, is one of its bits. -/
theorem cell_lt (n x scale : Nat) (hn : 0 < n) : x % (n * scale) / scale < n := by
  obtain rfl | hs := Nat.eq_zero_or_pos scale
  · rw [Nat.div_zero]
    exact hn
  · exact Nat.div_lt_of_lt_mul (Nat.mul_comm n scale ▸ Nat.mod_lt _ (Nat.mul_pos hn hs))

theorem scoreDigit_val (v n j : Nat) (suppress : Bool) : (scoreDigit v n suppress j).val = digitShown v n j suppress := by
  unfold scoreDigit digitShown
  dsimp only
  by_cases h : suppress = true ∧ min v (10 ^ n - 1) / 10 ^ (n - 1 - j) = 0 ∧ j + 1 < n
  · rw [if_pos h, if_pos ⟨h.1, h.2.2, h.2.1⟩]
    rfl
  · rw [if_neg h, if_neg fun h' => h ⟨h'.1, h'.2.2, h'.2.1⟩]
    rw [digitCode_val, Nat.mod_mod]

/-- What a SCORE cell holds (R95): the first item that occupies it has it. -/
theorem score_cell {l : ContentLatch} {w : Window} {column row : Nat} (hw : w.kind = .score)
    {items : Fin 12 → LayoutItem} (hitems : ∀ k, l.item w.binding k = items k) :
    let occupies := fun k => (items k).enabled = true ∧ (items k).row = row ∧
      (items k).column ≤ column ∧ column < (items k).column + (items k).digits
    (∀ k, occupies k → (∀ j, j < k → ¬ occupies j) → l.cell w column row =
      some (scoreDigit (l.sourceValue (items k).source) (items k).digits (items k).suppress (column - (items k).column),
        (items k).colour.getD w.foreground)) ∧
    ((∀ k, ¬ occupies k) → l.cell w column row = none) := by
  intro occupies
  have hoccupies : ∀ k, (l.item w.binding k).occupies column row = true ↔ occupies k := fun k => by
    simp only [LayoutItem.occupies, hitems, Bool.and_eq_true, beq_iff_eq, decide_eq_true_eq, and_assoc, occupies]
  simp only [ContentLatch.cell, hw]
  refine ⟨fun k hk hbefore => ?_, fun hnone => ?_⟩
  · have hfind : (List.finRange 12).find? (fun k => (l.item w.binding k).occupies column row) = some k :=
      find_finRange.2 ⟨(hoccupies k).2 hk, fun j hj => Bool.not_eq_true _ ▸ mt (hoccupies j).1 (hbefore j hj)⟩
    rw [hfind, Option.map_some, hitems]
  · rw [List.find?_eq_none.2 fun k _ => mt (hoccupies k).1 (hnone k)]
    rfl

theorem cell_holds (l : ContentLatch) (w : Window) (column row : Nat) :
    CellsHold l w column row (l.cell w column row) := by
  refine ⟨fun hw text htext => ?_, fun hw => ?_, fun hw items hitems hbinding => ?_⟩
  · subst htext
    simp only [ContentLatch.cell, hw]
    exact ⟨fun h => if_pos h, fun h => if_neg h⟩
  · simp only [ContentLatch.cell, hw]
    refine ⟨fun e hc he => ?_, fun h => dif_neg fun hin => ?_⟩
    · have hrow : row < 4 := by omega
      rw [dif_pos ⟨hrow, hc⟩]
      exact congrArg (fun i => some (l.alertText.get i, w.foreground)) (Fin.ext (he ▸ by dsimp only; omega))
    · omega
  · have hitem : ∀ k, l.item w.binding k = items k := fun k =>
      (hitems k _ (by dsimp only; omega)).symm
    obtain ⟨hfirst, hnone⟩ := score_cell (column := column) (row := row) hw hitem
    refine ⟨fun k hk hbefore => ⟨_, scoreDigit_val _ _ _ _, ?_⟩, hnone⟩
    rw [hfirst k hk hbefore]
    cases (items k).source <;> cases (items k).colour <;> rfl

section
variable (g : GlyphRenderer) (w : Window) (x y : Nat)

theorem crawlSet_iff (m : CrawlContent) : g.crawlSet w x y m = true ↔ CrawlSets g w x y m := by
  have hrow : y % (24 * w.scale) / w.scale < 24 := cell_lt 24 y w.scale (by decide)
  unfold GlyphRenderer.crawlSet
  dsimp only [CrawlSets]
  constructor
  · intro h
    split at h
    next hin =>
      obtain ⟨hstrip, hu, hy⟩ := hin
      split at h
      next hi => exact ⟨_, Nat.sub_add_cancel hstrip, hu, hy, ⟨_, hi⟩, rfl, (bit_iff g _ hrow
        (cell_lt 16 _ w.scale (by decide))).1 h⟩
      next => exact absurd h (by decide)
    next => exact absurd h (by decide)
  · rintro ⟨u, hstrip, hu, hy, i, hi, hset⟩
    obtain rfl : u = x + m.travel - 16 * w.width := by omega
    rw [if_pos ⟨by omega, hu, hy⟩, dif_pos (hi ▸ i.isLt)]
    have hat : (⟨_, hi ▸ i.isLt⟩ : Fin 160) = i := Fin.ext hi.symm
    rw [hat]
    exact (bit_iff g _ hrow (cell_lt 16 _ w.scale (by decide))).2 hset

theorem crawlPixel_drawn (l : ContentLatch) :
    let sets := fun (place : Option CrawlContent) (m : CrawlContent) => place = some m ∧ CrawlSets g w x y m
    (∀ m, sets l.lead m → g.crawlPixel l w x y = some (m.colour.getD w.foreground)) ∧
    ((∀ m, ¬ sets l.lead m) → ∀ m, sets l.follow m → g.crawlPixel l w x y = some (m.colour.getD w.foreground)) ∧
    ((∀ m, ¬ sets l.lead m) → (∀ m, ¬ sets l.follow m) → g.crawlPixel l w x y = none) := by
  have hsome : ∀ {place : Option CrawlContent} {m}, place = some m ∧ CrawlSets g w x y m →
      place.filter (g.crawlSet w x y) = some m := fun h =>
    Option.filter_eq_some_iff.2 ⟨h.1, (crawlSet_iff g w x y _).2 h.2⟩
  have hnone : ∀ {place : Option CrawlContent}, (∀ m, ¬ (place = some m ∧ CrawlSets g w x y m)) →
      place.filter (g.crawlSet w x y) = none := fun h =>
    Option.filter_eq_none_iff.2 fun m hm hset => h m ⟨hm, (crawlSet_iff g w x y m).1 hset⟩
  unfold GlyphRenderer.crawlPixel
  exact ⟨fun m hm => by rw [hsome hm], fun hlead m hm => by rw [hnone hlead, hsome hm],
    fun hlead hfollow => by rw [hnone hlead, hnone hfollow]⟩

theorem pixel_drawn (z : Fin 4) : PixelDrawn g z w x y (g.pixel z w x y) := by
  unfold GlyphRenderer.pixel
  refine ⟨fun hempty => by rw [hempty], fun l hl => ⟨fun hkind => ?_, fun hkind => ?_⟩⟩
  · refine ⟨_, cell_holds l w _ _, fun hcell => ?_, fun c colour hcell => ?_⟩
    · simp only [hl, if_neg hkind, hcell]
    · have hset := bit_iff g c (cell_lt 24 y w.scale (by decide)) (cell_lt 16 x w.scale (by decide))
      simp only [hl, if_neg hkind, hcell]
      exact ⟨fun h => if_pos (hset.2 h), fun h => if_neg (mt hset.1 h)⟩
  · simp only [hl, if_pos hkind]
    obtain ⟨hlead, hfollow, hnone⟩ := crawlPixel_drawn g w x y l
    refine ⟨fun m hm => (hlead m hm).trans ?_, fun hno m hm => (hfollow hno m hm).trans ?_, hnone⟩
    all_goals cases m.colour <;> rfl

end

end Sys2Proof.Machine
end

section
/-! SUPPORT. The outcome of a read and the pixels it delivers (R78). -/

namespace Sys2Proof.Machine

/-! ## The outcome of what was decided -/

section
variable {plan : MergePlan} (a : Nat)

theorem memoryOutcome_decided (h : ∀ d ∈ plan, d ≠ none) :
    memoryOutcome a plan = .synthesize (plan.map fun d => d.getD 0) :=
  if_pos (List.all_eq_true.2 fun d hd => Option.isSome_iff_ne_none.2 (h d hd))

theorem memoryOutcome_undecided (hne : plan ≠ []) (h : ∀ d ∈ plan, d = none) : memoryOutcome a plan = .remap a none := by
  obtain ⟨d, hd⟩ := List.exists_mem_of_ne_nil plan hne
  have hall : ¬ plan.all Option.isSome = true := fun hall =>
    Option.isSome_iff_ne_none.1 (List.all_eq_true.1 hall d hd) (h d hd)
  have hany : ¬ plan.any Option.isSome = true := fun hany => by
    obtain ⟨e, he, hsome⟩ := List.any_eq_true.1 hany
    exact Option.isSome_iff_ne_none.1 hsome (h e he)
  rw [memoryOutcome, if_neg hall, if_neg hany]

theorem memoryOutcome_mixed (hsome : ¬ ∀ d ∈ plan, d = none) (hnone : ¬ ∀ d ∈ plan, d ≠ none) :
    memoryOutcome a plan = .remap a (some plan) := by
  have hall : ¬ plan.all Option.isSome = true := fun hall =>
    hnone fun d hd => Option.isSome_iff_ne_none.1 (List.all_eq_true.1 hall d hd)
  have hany : plan.any Option.isSome = true := by
    push Not at hsome
    obtain ⟨d, hd, hdecided⟩ := hsome
    exact List.any_eq_true.2 ⟨d, hd, Option.isSome_iff_ne_none.2 hdecided⟩
  rw [memoryOutcome, if_neg hall, if_pos hany]

end

/-- Each pixel of a memory read is the one decided, else the one at its address. -/
theorem memoryOutcome_delivered (memory : Nat → Pixel) (a b n : Nat) (f : Nat → Option Pixel) :
    delivered memory a n (memoryOutcome b ((List.range (2 * n)).map f)) =
      (List.range (2 * n)).map fun k => (f k).getD (memory (b + 4 * k)) := by
  by_cases hdecided : ∀ d ∈ (List.range (2 * n)).map f, d ≠ none
  · rw [memoryOutcome_decided b hdecided, delivered, List.map_map]
    refine List.map_congr_left fun k hk => ?_
    obtain ⟨c, hc⟩ := Option.ne_none_iff_exists'.1 (hdecided _ (List.mem_map_of_mem hk))
    rw [Function.comp_apply, hc, Option.getD_some, Option.getD_some]
  · by_cases hundecided : ∀ d ∈ (List.range (2 * n)).map f, d = none
    · have hne : (List.range (2 * n)).map f ≠ [] := fun hnil =>
        hdecided fun d hd => absurd (hnil ▸ hd) List.not_mem_nil
      rw [memoryOutcome_undecided b hne hundecided, delivered]
      refine List.map_congr_left fun k hk => ?_
      rw [hundecided _ (List.mem_map_of_mem hk), Option.getD_none]
    · rw [memoryOutcome_mixed b hundecided hdecided, delivered]
      refine List.map_congr_left fun k hk => ?_
      rw [List.getElem?_map, List.getElem?_range (List.mem_range.1 hk), Option.map_some, Option.getD_some]

theorem range_pairs {α : Type} (f : Nat → Nat → α) (n : Nat) : ((List.range n).flatMap fun j => [f j 0, f j 1]) =
    (List.range (2 * n)).map fun k => f (k / 2) (k % 2) := by
  induction n with
  | zero => rfl
  | succ n ih =>
    have hsplit : 2 * (n + 1) = 2 * n + 1 + 1 := by omega
    have hodd : (2 * n + 1) / 2 = n := by omega
    have hone : (2 * n + 1) % 2 = 1 := by omega
    rw [List.range_succ, List.flatMap_append, ih, hsplit, List.range_succ, List.range_succ, List.map_append,
      List.map_append, List.append_assoc, List.flatMap_singleton, List.map_singleton, List.map_singleton, hodd, hone,
      Nat.mul_div_cancel_left _ (by decide), Nat.mul_mod_right]
    rfl

section
variable {s : State} {z : Fin 4} {a n : Nat}

/-- What is decided of pixel `k` of a read. -/
def pixelDecided (s : State) (z : Fin 4) (p : ReadPlace) (k : Nat) : Option Pixel :=
  s.walk z p (p.beat + k / 2) (k % 2) false (s.glyphList z p)

theorem decided_eq (p : ReadPlace) : s.decided z p n = (List.range (2 * n)).map (pixelDecided s z p) :=
  range_pairs (fun j k => s.walk z p (p.beat + j) k false (s.glyphList z p)) n

theorem compose_padding (h : (s.zone z).width ≤ ((s.zone z).place a).granule) : s.compose z a n = .passThrough :=
  if_pos ((padding_iff _).2 h)

/-- A read of the original address of which nothing is decided passes through. -/
def originalOutcome : ReadOutcome → ReadOutcome
  | .remap _ none => .passThrough
  | outcome => outcome

theorem originalOutcome_delivered (memory : Nat → Pixel) (a n : Nat) (plan : MergePlan) :
    delivered memory a n (originalOutcome (memoryOutcome a plan)) = delivered memory a n (memoryOutcome a plan) := by
  unfold memoryOutcome
  split
  · rfl
  · split <;> rfl

variable (hin : ((s.zone z).place a).granule < (s.zone z).width)
include hin

theorem compose_original (h : s.source z ((s.zone z).place a) = none) : s.compose z a n =
    originalOutcome (memoryOutcome a ((List.range (2 * n)).map (pixelDecided s z ((s.zone z).place a)))) := by
  have hpad := mt (padding_iff (s.zone z)).1 (Nat.not_le.2 hin)
  rw [State.compose, if_neg hpad, decided_eq]
  simp only [h] <;> rfl

theorem compose_fill {w : Placed} {image : Image} (h : s.source z ((s.zone z).place a) = some (w, image))
    (hb : translate w.2 image ((s.zone z).place a) n = none) : s.compose z a n =
    .synthesize (((List.range (2 * n)).map (pixelDecided s z ((s.zone z).place a))).map
      fun d => d.getD (s.glyph.colours.get w.2.fill)) := by
  have hpad := mt (padding_iff (s.zone z)).1 (Nat.not_le.2 hin)
  rw [State.compose, if_neg hpad, decided_eq]
  simp only [h, hb]

theorem compose_translated {w : Placed} {image : Image} {b : Nat} (h : s.source z ((s.zone z).place a) = some (w, image))
    (hb : translate w.2 image ((s.zone z).place a) n = some b) : s.compose z a n =
    memoryOutcome b ((List.range (2 * n)).map (pixelDecided s z ((s.zone z).place a))) := by
  have hpad := mt (padding_iff (s.zone z)).1 (Nat.not_le.2 hin)
  rw [State.compose, if_neg hpad, decided_eq]
  simp only [h, hb]

theorem compose_delivered (memory : Nat → Pixel) : delivered memory a n (s.compose z a n) = (List.range (2 * n)).map fun k =>
    (pixelDecided s z ((s.zone z).place a) k).getD
      (match s.source z ((s.zone z).place a) with
      | none => memory (a + 4 * k)
      | some (w, image) =>
        match translate w.2 image ((s.zone z).place a) n with
        | none => s.glyph.colours.get w.2.fill
        | some b => memory (b + 4 * k)) := by
  cases hsource : s.source z ((s.zone z).place a) with
  | none => rw [compose_original hin hsource, originalOutcome_delivered, memoryOutcome_delivered]
  | some found =>
    obtain ⟨w, image⟩ := found
    cases hb : translate w.2 image ((s.zone z).place a) n with
    | none =>
      rw [compose_fill hin hsource hb, delivered, List.map_map]
      simp only [hb]
      rfl
    | some b =>
      rw [compose_translated hin hsource hb, memoryOutcome_delivered]
      simp only [hb]

/-- R78: the outcome by what is decided and by the source. -/
theorem compose_table (hn : 1 ≤ n) :
    let p := (s.zone z).place a
    let plan := (List.range (2 * n)).map (pixelDecided s z p)
    let undecided := ∀ d ∈ plan, d = none
    let decided := ∀ d ∈ plan, d ≠ none
    (s.source z p = none → (undecided → s.compose z a n = .passThrough) ∧
      (¬ undecided → ¬ decided → s.compose z a n = .remap a (some plan))) ∧
    (decided → ∃ pixels, s.compose z a n = .synthesize pixels) ∧
    (∀ w image, s.source z p = some (w, image) →
      (translate w.2 image p n = none → ∃ pixels, s.compose z a n = .synthesize pixels) ∧
      (∀ b, translate w.2 image p n = some b → (undecided → s.compose z a n = .remap b none) ∧
        (¬ undecided → ¬ decided → s.compose z a n = .remap b (some plan)))) := by
  intro p plan undecided decided
  have hne : plan ≠ [] := List.ne_nil_of_length_pos (by rw [List.length_map, List.length_range]; omega)
  refine ⟨fun h => ⟨fun hu => ?_, fun hu hd => ?_⟩, fun hd => ?_, fun w image h =>
    ⟨fun hb => ⟨_, compose_fill hin h hb⟩, fun b hb => ⟨fun hu => ?_, fun hu hd => ?_⟩⟩⟩
  · rw [compose_original hin h, memoryOutcome_undecided a hne hu]
    rfl
  · rw [compose_original hin h, memoryOutcome_mixed a hu hd]
    rfl
  · cases hsource : s.source z p with
    | none => exact ⟨_, (compose_original hin hsource).trans (congrArg originalOutcome (memoryOutcome_decided a hd))⟩
    | some found =>
      cases hb : translate found.1.2 found.2 p n with
      | none => exact ⟨_, compose_fill hin hsource hb⟩
      | some b => exact ⟨_, (compose_translated hin hsource hb).trans (memoryOutcome_decided b hd)⟩
  · exact (compose_translated hin h hb).trans (memoryOutcome_undecided b hne hu)
  · exact (compose_translated hin h hb).trans (memoryOutcome_mixed b hu hd)

end

/-- Settles O27: the walk is the first window consulted that decides, and the outcome saves the reads of what is decided. -/
theorem composedPixels : Obligations.ComposedPixels := by
  refine ⟨fun k => by cases k <;> decide, fun memory z a n s => ?_⟩
  intro p l
  have hlists : ListsGlyphs s z p l := glyphList_lists s z p
  obtain ⟨-, hranked⟩ := id hlists
  refine ⟨rfl, hlists, source_chosen s z p, fun i w image _ => translates w image p n,
    fun i w _ beat k => ⟨rfl, pixel_drawn s.glyph w _ _ z⟩, fun beat k h => ?_, fun beat k above w below hl habove => ?_,
    fun h => ?_, fun h => ?_, fun hn => ⟨compose_padding, fun h => compose_table h hn⟩⟩
  · rw [walk_consulted s z p beat k hranked, ← List.append_nil (consulted l), firstDecided_append h]
    rfl
  · have hwalk : s.walk z p beat k false l = firstDecided s z p beat k (w :: below) := by
      rw [walk_consulted s z p beat k hranked, hl, firstDecided_append habove]
    refine ⟨fun colour hcolour => ?_, fun hclear hopaque => ?_⟩
    · rw [hwalk, firstDecided, hcolour]
    · rw [hwalk, firstDecided, hclear]
      exact if_pos ((isOpaque_iff _).2 hopaque)
  · rw [compose_padding h]
    rfl
  · rw [compose_delivered h memory]
    refine List.map_congr_left fun k _ => ?_
    show (s.walk z p (p.beat + k / 2) (k % 2) false l).getD _ = _
    cases s.walk z p (p.beat + k / 2) (k % 2) false l <;> rfl

end Sys2Proof.Machine
end

section
/-! SUPPORT. The clocks and the marks at a millisecond pulse (R104, R111, R116, R118, R120). -/

namespace Sys2Proof.Machine

/-! ## Steps over places -/

/-- Steps that each change one place of a row of places, all of them taken. -/
theorem foldl_places {ι α : Type} [DecidableEq ι] {Q : State → Prop} {place : State → ι → α} {f : ι → α → α}
    {step : State → ι → State} (hQ : ∀ i s, Q s → Q (step s i))
    (hself : ∀ i s, Q s → place (step s i) i = f i (place s i))
    (hother : ∀ i j s, Q s → j ≠ i → place (step s i) j = place s j) {l : List ι} (hl : l.Nodup) {s : State} (hs : Q s)
    (j : ι) : place (l.foldl step s) j = if j ∈ l then f j (place s j) else place s j := by
  induction l generalizing s with
  | nil => rfl
  | cons i l ih =>
    obtain ⟨hi, hl⟩ := List.nodup_cons.1 hl
    rw [List.foldl_cons, ih hl (hQ i s hs)]
    by_cases hj : j = i
    · subst hj
      rw [if_neg hi, if_pos List.mem_cons_self, hself j s hs]
    · rw [hother i j s hs hj]
      exact if_congr (List.mem_cons.trans (or_iff_right hj)).symm rfl rfl

theorem foldl_finRange {n : Nat} {α : Type} {Q : State → Prop} {place : State → Fin n → α} {f : Fin n → α → α}
    {step : State → Fin n → State} (hQ : ∀ i s, Q s → Q (step s i))
    (hself : ∀ i s, Q s → place (step s i) i = f i (place s i))
    (hother : ∀ i j s, Q s → j ≠ i → place (step s i) j = place s j) {s : State} (hs : Q s) (j : Fin n) :
    place ((List.finRange n).foldl step s) j = f j (place s j) := by
  rw [foldl_places hQ hself hother (List.nodup_finRange n) hs, if_pos (List.mem_finRange j)]

/-! ## The clocks -/

/-- The game clock's step (R111). -/
def TimingUnit.gamePulsed (u : TimingUnit) : TimingUnit :=
  if u.state = .running then
    if movedValue u.mode u.value = clockLimit u.mode then
      { u with value := movedValue u.mode u.value, state := .expired, hornG := u.hornG.trigger }
    else { u with value := movedValue u.mode u.value }
  else u

/-- The possession clock's step (R118), `was` telling whether the game clock ran before its own. -/
def TimingUnit.possPulsed (was : Bool) (u : TimingUnit) : TimingUnit :=
  if was = true ∧ u.possEnabled = true ∧ 0 < u.possValue then
    if u.possValue = 1 then
      let out := { u with possValue := u.possValue - 1, hornP := u.hornP.trigger }
      if u.stopGame = true ∧ u.state = .running then { out with state := .stopped, captured := u.value } else out
    else { u with possValue := u.possValue - 1 }
  else u

/-- Steps 2 to 4 of R104. -/
def TimingUnit.clocked (u : TimingUnit) : TimingUnit :=
  { u with hornG := u.hornG.tick, hornP := u.hornP.tick }.gamePulsed.possPulsed (u.state == ClockState.running)

section
variable (s : State)

/-- EXPIRED of the game clock's step. -/
def gameReports : List Report :=
  if s.timing.state = .running ∧ movedValue s.timing.mode s.timing.value = clockLimit s.timing.mode then
    [s.report .timing 0 .expired 0 (leBytes 1 s.timing.mode.number ++ leBytes 4 (movedValue s.timing.mode s.timing.value))]
  else []

/-- POSS_EXPIRED and STOPPED of the possession clock's step. -/
def possReports (was : Bool) : List Report :=
  if was = true ∧ s.timing.possEnabled = true ∧ s.timing.possValue = 1 then
    s.report .timing 0 .possExpired 0 (leBytes 4 s.timing.value ++ leBytes 1 s.timing.state.number) ::
      if s.timing.stopGame = true ∧ s.timing.state = .running then
        [s.report .timing 0 .stopped 0 (leBytes 4 s.timing.value ++ [2])]
      else []
  else []

theorem pulseGame_eq : pulseGame s = (s.withTiming s.timing.gamePulsed).offer (gameReports s) := by
  unfold pulseGame gameReports TimingUnit.gamePulsed
  by_cases hrun : s.timing.state = .running
  · by_cases hlimit : movedValue s.timing.mode s.timing.value = clockLimit s.timing.mode
    · simp only [if_pos hrun, if_pos hlimit, if_pos (And.intro hrun hlimit)]
      rw [expireClock, postClockExpired, post_eq_offer]
      rfl
    · simp only [if_pos hrun, if_neg hlimit, if_neg fun h : _ ∧ _ => hlimit h.2]
      rfl
  · simp only [if_neg hrun, if_neg fun h : _ ∧ _ => hrun h.1]
    rfl

theorem stopGame_eq (rs : List Report) : stopGameByPossession (s.offer rs) =
    if s.timing.stopGame = true ∧ s.timing.state = .running then
      (s.withTiming { s.timing with state := .stopped, captured := s.timing.value }).offer
        (rs ++ [s.report .timing 0 .stopped 0 (leBytes 4 s.timing.value ++ [2])])
    else s.offer rs := by
  unfold stopGameByPossession
  rw [postStopped, post_eq_offer, offer_timing, ← offer_withTiming, offer_append]
  refine if_congr Iff.rfl ?_ rfl
  simp only [State.report, offer_timing]
  rfl

theorem pulsePossession_eq (was : Bool) : pulsePossession was s =
    (s.withTiming (s.timing.possPulsed was)).offer (possReports s was) := by
  unfold pulsePossession possReports TimingUnit.possPulsed
  dsimp only
  by_cases hcounts : was = true ∧ s.timing.possEnabled = true ∧ 0 < s.timing.possValue
  · obtain ⟨hwas, henabled, hpos⟩ := id hcounts
    rw [if_pos hcounts, if_pos hcounts]
    by_cases hone : s.timing.possValue = 1
    · have hreport : was = true ∧ s.timing.possEnabled = true ∧ s.timing.possValue = 1 := ⟨hwas, henabled, hone⟩
      rw [if_pos hone, if_pos hone, if_pos hreport, postPossExpired, post_eq_offer, stopGame_eq]
      by_cases hstop : s.timing.stopGame = true ∧ s.timing.state = .running
      · rw [if_pos hstop, if_pos hstop]
        exact if_pos hstop
      · rw [if_neg hstop, if_neg hstop]
        exact if_neg hstop
    · rw [if_neg hone, if_neg hone, if_neg fun h => hone h.2.2]
      rfl
  · rw [if_neg hcounts, if_neg hcounts, if_neg fun h => hcounts ⟨h.1, h.2.1, by omega⟩]
    rfl

/-- The reports of the two clocks at a pulse. -/
def clockReports : List Report :=
  let begun := s.withTiming { s.timing with hornG := s.timing.hornG.tick, hornP := s.timing.hornP.tick }
  gameReports begun ++ possReports (begun.withTiming begun.timing.gamePulsed) (s.timing.state == .running)

theorem clocks_eq : pulsePossession (s.timing.state == .running) (pulseGame (pulseHorns s)) =
    (s.withTiming s.timing.clocked).offer (clockReports s) := by
  have hposs : ∀ (t : State) rs was, pulsePossession was (t.offer rs) =
      (t.withTiming (t.timing.possPulsed was)).offer (rs ++ possReports t was) := fun t rs was => by
    have hreports : possReports (t.offer rs) was = possReports t was := by
      have hreport : ∀ kind payload, (t.offer rs).report .timing 0 kind 0 payload = t.report .timing 0 kind 0 payload :=
        fun kind payload => congrArg (fun f => f UnitId.timing 0 kind 0 payload) (report_congr (offer_timing t rs))
      rw [possReports, offer_timing, hreport, hreport]
      rfl
    rw [pulsePossession_eq, hreports, offer_timing, ← offer_withTiming, offer_append]
  rw [pulseGame_eq, hposs]
  rfl

end

/-! ## What the clocks make of the timing unit -/

section
variable (u : TimingUnit)

/-- The game clock's value at the next pulse. -/
def TimingUnit.nextValue : Nat :=
  if u.state = .running then (if u.mode = .down then u.value - 1 else min 5999000 (u.value + 1)) else u.value

/-- The game clock expires at the next pulse. -/
abbrev TimingUnit.Expires : Prop := u.state = .running ∧ u.nextValue = (if u.mode = .down then 0 else 5999000)

/-- The possession clock counts at the next pulse. -/
abbrev TimingUnit.PossCounts : Prop := u.state = .running ∧ u.possEnabled = true ∧ 0 < u.possValue

/-- The possession clock runs out at the next pulse and stops the game clock. -/
abbrev TimingUnit.Halts : Prop := (u.PossCounts ∧ u.possValue = 1) ∧ u.stopGame = true ∧ ¬ u.Expires

/-- What the clocks and the horns are behind steps 2 to 4 of R104. -/
def TimingUnit.stepped : TimingUnit :=
  { u with
    value := u.nextValue
    state := if u.Expires then .expired else if u.Halts then .stopped else u.state
    captured := if u.Halts then u.nextValue else u.captured
    possValue := if u.PossCounts then u.possValue - 1 else u.possValue
    hornG := { u.hornG with remaining := if u.Expires then u.hornG.duration else u.hornG.remaining - 1 }
    hornP :=
      { u.hornP with
        remaining := if u.PossCounts ∧ u.possValue = 1 then u.hornP.duration else u.hornP.remaining - 1 } }

variable {u} (hv : u.value ≤ 5999000)
include hv

theorem movedValue_eq : movedValue u.mode u.value =
    if u.mode = .down then u.value - 1 else min 5999000 (u.value + 1) := by
  cases u.mode with
  | down => rfl
  | up =>
    rw [if_neg (by decide)]
    show (if u.value < 5999000 then u.value + 1 else u.value) = _
    split <;> omega

/-- The game clock's step, its horn having counted. -/
theorem gamePulsed_eq : { u with hornG := u.hornG.tick, hornP := u.hornP.tick }.gamePulsed =
    { u with
      value := u.nextValue
      state := if u.Expires then .expired else u.state
      hornG := { u.hornG with remaining := if u.Expires then u.hornG.duration else u.hornG.remaining - 1 }
      hornP := u.hornP.tick } := by
  unfold TimingUnit.gamePulsed
  dsimp only
  rw [movedValue_eq hv, clockLimit_eq]
  by_cases hrun : u.state = .running
  · have hvalue : u.nextValue = if u.mode = .down then u.value - 1 else min 5999000 (u.value + 1) := if_pos hrun
    rw [if_pos hrun, ← hvalue]
    by_cases he : u.nextValue = if u.mode = .down then 0 else 5999000
    · have hexpires : u.Expires := ⟨hrun, he⟩
      rw [if_pos he, if_pos hexpires, if_pos hexpires]
      rfl
    · have hno : ¬ u.Expires := fun h => he h.2
      rw [if_neg he, if_neg hno, if_neg hno]
      rfl
  · have hvalue : u.nextValue = u.value := if_neg hrun
    have hno : ¬ u.Expires := fun h => hrun h.1
    rw [if_neg hrun, if_neg hno, if_neg hno, hvalue]
    rfl

theorem clocked_eq : u.clocked = u.stepped := by
  have hwas : (u.state == ClockState.running) = true ↔ u.state = .running := beq_iff_eq
  unfold TimingUnit.clocked TimingUnit.stepped TimingUnit.possPulsed
  rw [gamePulsed_eq hv]
  dsimp only
  by_cases hcounts : u.PossCounts
  · obtain ⟨hrun, henabled, hpos⟩ := id hcounts
    rw [if_pos (And.intro (hwas.2 hrun) (And.intro henabled hpos)), if_pos hcounts]
    by_cases hone : u.possValue = 1
    · rw [if_pos hone, if_pos (And.intro hcounts hone)]
      by_cases he : u.Expires
      · have hno : ¬ u.Halts := fun h => h.2.2 he
        rw [if_pos he, if_neg (fun h => absurd h.2 (by decide)), if_neg hno, if_neg hno, if_pos he, if_pos he]
        rfl
      · rw [if_neg he]
        by_cases hstop : u.stopGame = true
        · have hhalts : u.Halts := ⟨⟨hcounts, hone⟩, hstop, he⟩
          rw [if_pos (And.intro hstop hrun), if_pos hhalts, if_pos hhalts, if_neg he, if_neg he]
          rfl
        · have hno : ¬ u.Halts := fun h => hstop h.2.1
          rw [if_neg (fun h => hstop h.1), if_neg hno, if_neg hno, if_neg he, if_neg he]
          rfl
    · have hno : ¬ u.Halts := fun h => hone h.1.2
      have hstill : ¬ (u.PossCounts ∧ u.possValue = 1) := fun h => hone h.2
      rw [if_neg hone, if_neg hno, if_neg hno, if_neg hstill]
      rfl
  · have hno : ¬ u.Halts := fun h => hcounts h.1.1
    have hstill : ¬ (u.PossCounts ∧ u.possValue = 1) := fun h => hcounts h.1
    rw [if_neg (fun h => hcounts ⟨hwas.1 h.1, h.2⟩), if_neg hcounts, if_neg hno, if_neg hno, if_neg hstill]
    rfl

end

theorem clockReports_eq {s : State} (hv : s.timing.value ≤ 5999000) : clockReports s =
    (if s.timing.Expires then [s.report .timing 0 .expired 0
      ((if s.timing.mode = .down then [0] else [1]) ++ leBytes 4 s.timing.nextValue)] else []) ++
    ((if s.timing.PossCounts ∧ s.timing.possValue = 1 then [s.report .timing 0 .possExpired 0
      (leBytes 4 s.timing.nextValue ++ [if s.timing.Expires then 2 else 1])] else []) ++
    (if s.timing.Halts then [s.report .timing 0 .stopped 0 (leBytes 4 s.timing.nextValue ++ [2])] else [])) := by
  have hgame := gamePulsed_eq hv
  have hmode : leBytes 1 s.timing.mode.number = if s.timing.mode = .down then [0] else [1] := by
    cases s.timing.mode <;> rfl
  have hlimit : (s.timing.state = .running ∧ movedValue s.timing.mode s.timing.value = clockLimit s.timing.mode) ↔
      s.timing.Expires := by
    refine and_congr_right fun hrun => ?_
    rw [TimingUnit.nextValue, if_pos hrun, movedValue_eq hv, clockLimit_eq]
  refine congrArg₂ _ ?_ (Eq.trans (congrArg (fun v => possReports (s.withTiming v) (s.timing.state == .running)) hgame) ?_)
  · rw [← hmode]
    refine (if_congr hlimit rfl rfl).trans (ite_congr rfl (fun he => ?_) fun _ => rfl)
    rw [TimingUnit.nextValue, if_pos he.1, ← movedValue_eq hv]
    rfl
  · unfold possReports
    dsimp only [State.withTiming_timing]
    by_cases hout : s.timing.PossCounts ∧ s.timing.possValue = 1
    · obtain ⟨⟨hrun, henabled, hpos⟩, hone⟩ := id hout
      have hwas : (s.timing.state == ClockState.running) = true := beq_iff_eq.2 hrun
      rw [if_pos hout]
      refine (if_pos (And.intro hwas (And.intro henabled hone))).trans ?_
      by_cases he : s.timing.Expires
      · have hno : ¬ s.timing.Halts := fun h => h.2.2 he
        have hexpired : ¬ (s.timing.stopGame = true ∧ ClockState.expired = .running) := fun h => absurd h.2 (by decide)
        rw [if_neg hno, if_pos he, if_pos he, if_pos he]
        exact congrArg (List.cons _) (if_neg hexpired)
      · rw [if_neg he, if_neg he]
        have hstops : (s.timing.stopGame = true ∧ s.timing.state = .running) ↔ s.timing.Halts :=
          ⟨fun h => ⟨hout, h.1, he⟩, fun h => ⟨h.2.1, hrun⟩⟩
        have hnumber : leBytes 1 s.timing.state.number = [1] := by rw [hrun]; rfl
        rw [hnumber]
        rw [if_neg he]
        exact congrArg (List.cons _) (if_congr hstops rfl rfl)
    · have hno : ¬ s.timing.Halts := fun h => hout h.1
      rw [if_neg hout, if_neg hno]
      exact if_neg fun ⟨hwas, henabled, hone⟩ => hout ⟨⟨beq_iff_eq.1 hwas, henabled, by omega⟩, hone⟩

/-! ## The marks -/

theorem crosses_mark (mode : ClockMode) (before after mark : Nat) : crosses mode before after mark = true ↔
    if mode = .down then mark < before ∧ after ≤ mark else before < mark ∧ mark ≤ after := by
  cases mode <;> simp [crosses]

section
variable (before : Nat) (i : Fin 4) (s : State)

theorem fireMark_still (h : ¬ MarkFires s.timing.mode before s.timing.value (s.timing.marks.get i)) :
    fireMark before i s = s :=
  if_neg fun ⟨henabled, hfired, hcross⟩ => h ⟨henabled, by simpa using hfired, (crosses_mark ..).1 hcross⟩

/-- The state behind MARK. -/
def markPosted (u : TimingUnit) : State :=
  (s.withTiming u).offer [s.report .timing 0 .mark i.val (leBytes 4 (s.timing.marks.get i).value ++
    leBytes 1 (s.timing.marks.get i).action.number ++ leBytes 4 s.timing.value)]

/-- The timing unit with mark `i` fired. -/
def TimingUnit.marked (u : TimingUnit) : TimingUnit :=
  { u with marks := u.marks.set i { u.marks.get i with fired := true } }

/-- A mark that fires: MARK, then its action (R120). -/
def markAction : State :=
  match (s.timing.marks.get i).action with
  | .report => markPosted i s (s.timing.marked i)
  | .reportHorn => triggerHorn .game (markPosted i s (s.timing.marked i))
  | .moment => requestMoment (s.timing.marks.get i) (markPosted i s (s.timing.marked i))

theorem fireMark_fires (h : MarkFires s.timing.mode before s.timing.value (s.timing.marks.get i)) : fireMark before i s =
    markAction i s := by
  obtain ⟨henabled, hfired, hcross⟩ := h
  have hfires : (s.timing.marks.get i).enabled = true ∧ (!(s.timing.marks.get i).fired) = true ∧
      crosses s.timing.mode before s.timing.value (s.timing.marks.get i).value = true :=
    ⟨henabled, by rw [hfired]; rfl, (crosses_mark ..).2 hcross⟩
  unfold fireMark
  dsimp only
  rw [if_pos hfires, post_eq_offer]
  rfl

theorem triggerHorn_marked : triggerHorn .game (markPosted i s (s.timing.marked i)) = markPosted i s
    { s.timing.marked i with hornG := { s.timing.hornG with remaining := s.timing.hornG.duration } } := by
  rw [triggerHorn, markPosted, offer_timing, ← offer_withTiming]
  rfl

variable {i s}

theorem posted_report (h : (s.timing.marks.get i).action = .report) : markAction i s = markPosted i s (s.timing.marked i) := by
  rw [markAction, h]

theorem posted_horn (h : (s.timing.marks.get i).action = .reportHorn) :
    markAction i s = triggerHorn .game (markPosted i s (s.timing.marked i)) := by
  rw [markAction, h]

theorem posted_moment {p : Fin 8} {e : Fin 128} (h : (s.timing.marks.get i).action = .moment)
    (hp : (s.timing.marks.get i).panel = p.val) (he : (s.timing.marks.get i).entry = e.val) : markAction i s =
    (markPosted i s (s.timing.marked i)).setPanel p (forcedPanel e (s.timing.marks.get i).frames (s.panel p)) := by
  have hpanel : (markPosted i s (s.timing.marked i)).panel p = s.panel p :=
    congrArg (fun x : Sponsor => x.panels.get p) (offer_sponsor _ _)
  rw [markAction, h]
  dsimp only
  rw [requestMoment, hp, he, index_val, index_val]
  dsimp only
  rw [startMoment_eq, hpanel]

variable (i s)

theorem fireMark_spec : MarkTaken before i s (fireMark before i s) := by
  refine ⟨fireMark_still before i s, fun hfires => ?_⟩
  have hfired := fireMark_fires before i s hfires
  refine ⟨fun ha => hfired.trans ?_, fun ha => hfired.trans ?_, fun p e ha hp he => hfired.trans ?_⟩
  · exact posted_report ha
  · exact (posted_horn ha).trans (triggerHorn_marked i s)
  · exact posted_moment ha hp he

/-- The game clock's move carried it across mark `m`, which fires (R120). -/
def Mark.fires (mode : ClockMode) (before after : Nat) (m : Mark) : Bool :=
  m.enabled && !m.fired && crosses mode before after m.value

theorem markFires_iff (mode : ClockMode) (before after : Nat) (m : Mark) :
    m.fires mode before after = true ↔ MarkFires mode before after m := by
  rw [Mark.fires, Bool.and_eq_true, Bool.and_eq_true, crosses_mark, Bool.not_eq_true', and_assoc]
  rfl

/-- What a fired mark does to the timing unit. -/
def TimingUnit.fired (before : Nat) (u : TimingUnit) : TimingUnit :=
  if (u.marks.get i).fires u.mode before u.value then
    { u.marked i with hornG := if (u.marks.get i).action = .reportHorn then u.hornG.trigger else u.hornG }
  else u

theorem fireMark_timing : (fireMark before i s).timing = s.timing.fired i before := by
  unfold TimingUnit.fired
  by_cases hfires : MarkFires s.timing.mode before s.timing.value (s.timing.marks.get i)
  · have hposted : ∀ u, (markPosted i s u).timing = u := fun u => offer_timing _ _
    rw [if_pos ((markFires_iff ..).2 hfires), fireMark_fires before i s hfires]
    cases ha : (s.timing.marks.get i).action with
    | report =>
      rw [posted_report ha, hposted, if_neg (by decide)]
      rfl
    | reportHorn =>
      rw [posted_horn ha, triggerHorn_marked, hposted, if_pos rfl]
      rfl
    | moment =>
      have hmoment : (requestMoment (s.timing.marks.get i) (markPosted i s (s.timing.marked i))).timing =
          (markPosted i s (s.timing.marked i)).timing := by
        unfold requestMoment
        split
        · rw [startMoment_eq]
          rfl
        · rfl
      rw [markAction, ha, if_neg (by decide)]
      exact hmoment.trans (hposted _)
  · rw [if_neg (mt (markFires_iff ..).1 hfires), fireMark_still before i s hfires]

end

section
variable (before : Nat) (u : TimingUnit)

variable {before u} {i : Fin 4}

theorem fired_on (h : (u.marks.get i).fires u.mode before u.value = true) : u.fired i before =
    { u.marked i with hornG := if (u.marks.get i).action = .reportHorn then u.hornG.trigger else u.hornG } := if_pos h

theorem fired_off (h : ¬ (u.marks.get i).fires u.mode before u.value = true) : u.fired i before = u := if_neg h

variable (before u) (i)

theorem fired_marks (j : Fin 4) : (u.fired i before).marks.get j =
    if j = i ∧ (u.marks.get i).fires u.mode before u.value then { u.marks.get i with fired := true }
    else u.marks.get j := by
  by_cases hf : (u.marks.get i).fires u.mode before u.value = true
  · rw [fired_on hf]
    by_cases hj : j = i
    · subst hj
      exact (Tab.get_set_self _ _ _).trans (if_pos ⟨rfl, hf⟩).symm
    · exact (Tab.get_set_ne _ _ (Ne.symm hj)).trans (if_neg fun h => hj h.1).symm
  · rw [fired_off hf, if_neg fun h => hf h.2]

theorem fired_rest : ∃ marks hornG, u.fired i before = { u with marks := marks, hornG := hornG } ∧
    hornG.trigger = u.hornG.trigger := by
  by_cases hf : (u.marks.get i).fires u.mode before u.value = true
  · rw [fired_on hf]
    refine ⟨_, _, rfl, ?_⟩
    split <;> rfl
  · rw [fired_off hf]
    exact ⟨_, _, rfl, rfl⟩

/-- A fired mark sounds the game clock's horn by its action alone. -/
theorem fired_horn : (u.fired i before).hornG =
    if (u.marks.get i).fires u.mode before u.value ∧ (u.marks.get i).action = .reportHorn then u.hornG.trigger
    else u.hornG := by
  by_cases hf : (u.marks.get i).fires u.mode before u.value = true
  · rw [fired_on hf]
    exact if_congr (and_iff_right hf).symm rfl rfl
  · rw [fired_off hf, if_neg fun h => hf h.1]

/-- All the marks of a row taken: each that fires is marked, the horn sounds when one of them says so, and nothing else
changes. -/
theorem foldl_fired {l : List (Fin 4)} (hl : l.Nodup) : ∃ marks hornG,
    l.foldl (fun v i => v.fired i before) u = { u with marks := marks, hornG := hornG } ∧
    (∀ j, marks.get j = if j ∈ l ∧ (u.marks.get j).fires u.mode before u.value then
      { u.marks.get j with fired := true } else u.marks.get j) ∧
    ((∃ j ∈ l, (u.marks.get j).fires u.mode before u.value = true ∧ (u.marks.get j).action = .reportHorn) →
      hornG = u.hornG.trigger) ∧
    ((∀ j ∈ l, (u.marks.get j).fires u.mode before u.value = true → (u.marks.get j).action ≠ .reportHorn) →
      hornG = u.hornG) := by
  induction l generalizing u with
  | nil =>
    exact ⟨_, _, rfl, fun j => (if_neg fun h => absurd h.1 List.not_mem_nil).symm, fun ⟨j, hj, _⟩ => absurd hj List.not_mem_nil,
      fun _ => rfl⟩
  | cons i l ih =>
    obtain ⟨hi, hl⟩ := List.nodup_cons.1 hl
    obtain ⟨marks, hornG, hfold, hmarks, hsounds, hsilent⟩ := ih (u.fired i before) hl
    obtain ⟨marked, sounding, hrest, hduration⟩ := fired_rest before u i
    have hget := fired_marks before u i
    have hhorn := fired_horn before u i
    replace hduration : (u.fired i before).hornG.trigger = u.hornG.trigger := by rw [hrest]; exact hduration
    have hmode : (u.fired i before).mode = u.mode := by rw [hrest]
    have hvalue : (u.fired i before).value = u.value := by rw [hrest]
    have hkept : ∀ j ∈ l, (u.fired i before).marks.get j = u.marks.get j := fun j hj =>
      (hget j).trans (if_neg fun h : j = i ∧ _ => hi (h.1 ▸ hj))
    rw [hmode, hvalue] at hmarks hsounds hsilent
    refine ⟨marks, hornG, ?_, fun j => ?_, fun ⟨j, hj, hfires, hsays⟩ => ?_, fun hno => ?_⟩
    · rw [List.foldl_cons, hfold, hrest]
    · rw [hmarks]
      by_cases hj : j ∈ l
      · rw [hkept j hj]
        exact if_congr (and_congr_left' (iff_of_true hj (List.mem_cons_of_mem _ hj))) rfl rfl
      · rw [if_neg fun h => hj h.1, hget]
        by_cases hji : j = i
        · subst hji
          exact if_congr (and_congr_left' (iff_of_true rfl List.mem_cons_self)) rfl rfl
        · have hout : j ∉ i :: l := fun h => (List.mem_cons.1 h).elim hji hj
          rw [if_neg fun h => hji h.1, if_neg fun h => hout h.1]
    · by_cases hlater : ∃ j ∈ l, (u.marks.get j).fires u.mode before u.value = true ∧
          (u.marks.get j).action = .reportHorn
      · obtain ⟨k, hk, hf, ha⟩ := hlater
        rw [hsounds ⟨k, hk, by rwa [hkept k hk], by rwa [hkept k hk]⟩, hduration]
      · obtain rfl : j = i := (List.mem_cons.1 hj).resolve_right fun hin => hlater ⟨j, hin, hfires, hsays⟩
        rw [hsilent fun k hk hf ha => hlater ⟨k, hk, by rwa [hkept k hk] at hf, by rwa [hkept k hk] at ha⟩, hhorn,
          if_pos ⟨hfires, hsays⟩]
    · have hquiet : hornG = (u.fired i before).hornG := hsilent fun k hk hf => by
        rw [hkept k hk] at hf ⊢
        exact hno k (List.mem_cons_of_mem _ hk) hf
      have hself := hno i List.mem_cons_self
      have hstill : ¬ ((u.marks.get i).fires u.mode before u.value = true ∧ (u.marks.get i).action = .reportHorn) :=
        fun h => hself h.1 h.2
      rw [hquiet, hhorn, if_neg hstill]

end

/-- The marks of a pulse at the timing unit. -/
theorem fireMarks_timing (before : Nat) (s : State) : (fireMarks true before s).timing =
    (List.finRange 4).foldl (fun v i => v.fired i before) s.timing := by
  rw [fireMarks, if_pos rfl]
  generalize List.finRange 4 = l
  induction l generalizing s with
  | nil => rfl
  | cons i l ih => rw [List.foldl_cons, List.foldl_cons, ih, fireMark_timing]

/-! ## The state the message unit finds -/

/-- The state the message unit finds at a pulse. -/
def beforeMessages (s : State) : State :=
  fireMarks (s.timing.state == .running) s.timing.value
    (pulsePossession (s.timing.state == .running) (pulseGame (pulseHorns (pulseZones (pulseUptime s)))))

theorem pulse_eq (s : State) : pulse s = pulseMessages (beforeMessages s) := rfl

section
variable (s : State)

theorem zoned_timing : (pulseZones (pulseUptime s)).timing = { s.timing with uptime := s.timing.uptime + 1 } :=
  (pulseZones_acts _).timing (by decide)

/-- The state behind the clocks' steps. -/
def clocksPulsed (s : State) : State :=
  (pulseZones (pulseUptime s)).withTiming { s.timing with uptime := s.timing.uptime + 1 }.clocked |>.offer
    (clockReports (pulseZones (pulseUptime s)))

theorem beforeMessages_eq :
    beforeMessages s = fireMarks (s.timing.state == .running) s.timing.value (clocksPulsed s) := by
  have hclocks := clocks_eq (pulseZones (pulseUptime s))
  rw [zoned_timing] at hclocks
  rw [beforeMessages, clocksPulsed, ← hclocks]

theorem clocksPulsed_timing : (clocksPulsed s).timing = { s.timing with uptime := s.timing.uptime + 1 }.clocked :=
  offer_timing _ _

theorem clocked_uptime (u : TimingUnit) : u.clocked.uptime = u.uptime := by
  unfold TimingUnit.clocked TimingUnit.possPulsed TimingUnit.gamePulsed
  dsimp only
  split_ifs <;> rfl

theorem beforeMessages_uptime : (beforeMessages s).timing.uptime = s.timing.uptime + 1 := by
  have hclocks : (clocksPulsed s).timing.uptime = s.timing.uptime + 1 := by
    rw [clocksPulsed_timing, clocked_uptime]
  rw [beforeMessages_eq]
  generalize clocksPulsed s = clocked at hclocks ⊢
  cases s.timing.state == .running with
  | false => exact hclocks
  | true =>
    obtain ⟨marks, hornG, hfold, -⟩ := foldl_fired s.timing.value clocked.timing (List.nodup_finRange 4)
    rw [fireMarks_timing, hfold]
    exact hclocks

end

end Sys2Proof.Machine
end

section
/-! SUPPORT. The message unit at a millisecond pulse (R194, R196, R197) and the expiry rows. -/

namespace Sys2Proof.Machine

theorem reachedExpiry_iff (m : Message) (uptime : Count) : reachedExpiry uptime m.expiry = true ↔ Reached m uptime := by
  rw [reachedExpiry, Reached, BitVec.msb_eq_decide, Bool.not_eq_true', decide_eq_false_iff_not, Nat.not_le]

section
variable {s : State} {i : Fin 64} {m : Message}

theorem expireAt_empty (h : s.message.store.get i = none) : expireAt i s = s := by
  simp only [expireAt, h]

theorem expireAt_early (h : s.message.store.get i = some m) (hno : ¬ Reached m s.timing.uptime) : expireAt i s = s := by
  simp only [expireAt, h]
  exact if_neg (mt (reachedExpiry_iff ..).1 hno)

theorem expireAt_removes (h : s.message.store.get i = some m) (hr : Reached m s.timing.uptime)
    (hs : m.state = .assembling ∨ m.state = .queued) :
    expireAt i s = (messageRemoved i s).offer [expiredReport m s] := by
  simp only [expireAt, h, if_pos ((reachedExpiry_iff ..).2 hr)]
  have hposted : postMessageExpired m (s.withMessage (s.message.remove i)) =
      (messageRemoved i s).offer [expiredReport m s] := post_eq_offer ..
  obtain hs | hs := hs
  · simp only [hs, hposted]
  · simp only [hs, hposted]

theorem expireAt_marks (h : s.message.store.get i = some m) (hr : Reached m s.timing.uptime)
    (hs : m.state = .lead ∨ m.state = .follow) : expireAt i s = s.withMessage { s.message with
      store := s.message.store.set i
        (some { m with expiring := if m.withdrawing = true then m.expiring else true }) } := by
  have hmarked : (if m.expiring = true ∨ m.withdrawing = true then s
      else s.withMessage (s.message.update i fun m => { m with expiring := true })) = s.withMessage { s.message with
        store := s.message.store.set i
          (some { m with expiring := if m.withdrawing = true then m.expiring else true }) } := by
    split
    next hstays =>
      have hsame : (if m.withdrawing = true then m.expiring else true) = m.expiring := by
        obtain he | hw := hstays
        · rw [he, ite_self]
        · rw [if_pos hw]
      rw [hsame]
      exact (congrArg (fun t => s.withMessage { s.message with store := t })
        ((congrArg _ h.symm).trans (Tab.set_get s.message.store i))).symm
    next hgoes =>
      rw [update_eq _ h, if_neg fun hw => hgoes (.inr hw)]
  simp only [expireAt, h, if_pos ((reachedExpiry_iff ..).2 hr)]
  obtain hs | hs := hs
  · simp only [hs, hmarked]
  · simp only [hs, hmarked]

end

theorem expireAt_spec (i : Fin 64) (s : State) : ExpiryTaken i s (expireAt i s) := by
  refine ⟨fun m hm hr => ⟨expireAt_removes hm hr, expireAt_marks hm hr⟩, fun hno => ?_⟩
  cases hm : s.message.store.get i with
  | none => exact expireAt_empty hm
  | some m => exact expireAt_early hm (hno m hm)

/-- The hold timer's millisecond (R197). -/
theorem pulseHoldTimer_eq (s : State) : pulseHoldTimer s =
    match s.message.hold with
    | none => s
    | some t => if t ≤ 1 then
        (s.withMessage { s.message with
          hold := some ((s.message.config.holdTime - s.message.config.margin) * 1000) }).offer
          [s.report .message 0 .queueHold 0 (leBytes 2 s.message.config.holdTime ++ leBytes 2 s.message.occupancy)]
      else s.withMessage { s.message with hold := some (t - 1) } := by
  unfold pulseHoldTimer
  simp only [postQueueHold_eq]
  rfl

theorem pulseMessages_spec (s : State) : MessagesPulsed s (pulseMessages s) := by
  refine ⟨_, inOrder_foldl expireAt_spec _ s, ?_⟩
  have htiming : (testHold 0 ((List.finRange 64).foldl (fun t i => expireAt i t) s)).timing = s.timing :=
    (testHold_acts ((Acts.refl _ _ s).foldl _ _ fun t i => expireAt_acts i t) 0).timing (by decide)
  rw [pulseMessages, ← testHold_eq]
  generalize testHold 0 _ = tested at htiming ⊢
  rw [pulseHoldTimer_eq]
  dsimp only
  rw [← report_congr htiming]
  refine ⟨fun h => ?_, fun n h hn => ?_, fun n h hn => ?_⟩
  · simp only [h]
  · simp only [h]
    exact if_neg (by omega)
  · simp only [h]
    exact if_pos hn

/-! ## The store and the hold state behind a pulse -/

theorem crawling {x : MsgState} (h : ¬ (x = .assembling ∨ x = .queued)) : x = .lead ∨ x = .follow := by
  revert h
  cases x <;> decide

/-- What expiry makes of a place of the store (R194). -/
def expiredPlace (uptime : Count) : Option Message → Option Message
  | none => none
  | some m =>
    if reachedExpiry uptime m.expiry then
      if m.state = .assembling ∨ m.state = .queued then none
      else some { m with expiring := if m.withdrawing = true then m.expiring else true }
    else some m

section
variable {s : State} {i : Fin 64}

theorem expireAt_place : (expireAt i s).message.store.get i = expiredPlace s.timing.uptime (s.message.store.get i) := by
  cases hm : s.message.store.get i with
  | none => rw [expireAt_empty hm, hm]; rfl
  | some m =>
    rw [expiredPlace]
    by_cases hr : Reached m s.timing.uptime
    · rw [if_pos ((reachedExpiry_iff ..).2 hr)]
      split
      next hs =>
        rw [expireAt_removes hm hr hs, offer_message]
        exact Tab.get_set_self _ _ _
      next hs =>
        rw [expireAt_marks hm hr (crawling hs)]
        exact Tab.get_set_self _ _ _
    · rw [if_neg (mt (reachedExpiry_iff ..).1 hr), expireAt_early hm hr, hm]

/-- What expiry at one place leaves of the message unit. -/
theorem expireAt_message : ∃ x announce featured fan, (expireAt i s).message = { s.message with
    store := s.message.store.set i x, announce := announce, featured := featured, fan := fan } := by
  have hstill : s.message = { s.message with store := s.message.store.set i (s.message.store.get i) } :=
    congrArg (fun t => { s.message with store := t }) (Tab.set_get s.message.store i).symm
  cases hm : s.message.store.get i with
  | none =>
    rw [expireAt_empty hm]
    exact ⟨_, _, _, _, hstill⟩
  | some m =>
    by_cases hr : Reached m s.timing.uptime
    · have hremoved := fun hs => expireAt_removes hm hr hs
      have hmarked := fun hs => expireAt_marks hm hr hs
      cases hs : m.state with
      | assembling => rw [hremoved (.inl hs), offer_message]; exact ⟨_, _, _, _, rfl⟩
      | queued => rw [hremoved (.inr hs), offer_message]; exact ⟨_, _, _, _, rfl⟩
      | lead => rw [hmarked (.inl hs)]; exact ⟨_, _, _, _, rfl⟩
      | follow => rw [hmarked (.inr hs)]; exact ⟨_, _, _, _, rfl⟩
    · rw [expireAt_early hm hr]
      exact ⟨_, _, _, _, hstill⟩

theorem expireAt_config : (expireAt i s).message.config = s.message.config ∧
    (expireAt i s).message.hold = s.message.hold := by
  obtain ⟨_, _, _, _, h⟩ := expireAt_message (s := s) (i := i)
  rw [h]
  exact ⟨rfl, rfl⟩

end

section
variable (s : State)

theorem expired_store (j : Fin 64) : ((List.finRange 64).foldl (fun t i => expireAt i t) s).message.store.get j =
    expiredPlace s.timing.uptime (s.message.store.get j) := by
  refine foldl_finRange (Q := fun t => t.timing.uptime = s.timing.uptime) (place := fun t => t.message.store.get)
    (f := fun _ => expiredPlace s.timing.uptime) (fun i t ht => ?_) (fun i t ht => ?_) (fun i j t _ hj => ?_) rfl j
  · rw [(expireAt_acts i t).timing (by decide), ht]
  · rw [expireAt_place, ht]
  · obtain ⟨_, _, _, _, h⟩ := expireAt_message (s := t) (i := i)
    rw [h]
    exact Tab.get_set_ne _ _ hj.symm

theorem foldl_expired_config (l : List (Fin 64)) : (l.foldl (fun t i => expireAt i t) s).message.config = s.message.config ∧
    (l.foldl (fun t i => expireAt i t) s).message.hold = s.message.hold := by
  induction l generalizing s with
  | nil => exact ⟨rfl, rfl⟩
  | cons i l ih =>
    obtain ⟨hconfig, hhold⟩ := expireAt_config (s := s) (i := i)
    obtain ⟨hc, hh⟩ := ih (expireAt i s)
    exact ⟨hc.trans hconfig, hh.trans hhold⟩

theorem pulseHoldTimer_message : ∃ hold, (pulseHoldTimer s).message = { s.message with hold := hold } := by
  rw [pulseHoldTimer_eq]
  split
  · exact ⟨_, rfl⟩
  · split
    · rw [offer_message]
      exact ⟨_, rfl⟩
    · exact ⟨_, rfl⟩

/-- A pulse changes the hold state and, in the store, what expires. -/
theorem pulseMessages_message : ∃ hold, (pulseMessages s).message =
    { ((List.finRange 64).foldl (fun t i => expireAt i t) s).message with hold := hold } := by
  rw [pulseMessages, testHold_eq]
  generalize (List.finRange 64).foldl (fun t i => expireAt i t) s = expired
  obtain ⟨tested, htested⟩ := holdTested_message expired 0
  obtain ⟨hold, hhold⟩ := pulseHoldTimer_message (holdTested 0 expired)
  exact ⟨hold, by rw [hhold, htested]⟩

theorem pulseMessages_store (j : Fin 64) : (pulseMessages s).message.store.get j =
    expiredPlace s.timing.uptime (s.message.store.get j) := by
  obtain ⟨hold, h⟩ := pulseMessages_message s
  rw [← expired_store, h]

theorem pulseMessages_occupancy : (pulseMessages s).message.occupancy =
    ((List.finRange 64).foldl (fun t i => expireAt i t) s).message.occupancy := by
  obtain ⟨hold, h⟩ := pulseMessages_message s
  rw [h]
  generalize (List.finRange 64).foldl (fun t i => expireAt i t) s = expired
  rfl

/-- R197: the hold timer where the store stands above its low mark. -/
theorem pulseMessages_holding {n : Nat} (hn : s.message.hold = some n)
    (hlow : s.message.config.low < (pulseMessages s).message.occupancy) : (pulseMessages s).message.hold =
      some (if n ≤ 1 then (s.message.config.holdTime - s.message.config.margin) * 1000 else n - 1) := by
  obtain ⟨hconfig, hhold⟩ := foldl_expired_config s (List.finRange 64)
  rw [pulseMessages_occupancy] at hlow
  rw [pulseMessages, testHold_eq]
  generalize (List.finRange 64).foldl (fun t i => expireAt i t) s = expired at hconfig hhold hlow ⊢
  have htested : holdTested 0 expired = expired := by
    have hholding : expired.message.hold = some n := hhold.trans hn
    have hreleases : ¬ (expired.message.hold = none ∧ expired.message.config.high ≤ expired.message.occupancy) :=
      fun h => nomatch hholding.symm.trans h.1
    have hends : ¬ (expired.message.hold ≠ none ∧ expired.message.occupancy ≤ expired.message.config.low) := fun h => by
      rw [hconfig] at h
      exact Nat.not_le.2 hlow h.2
    rw [holdTested, if_neg hreleases, if_neg hends]
  rw [htested, pulseHoldTimer_eq, hhold, hn]
  dsimp only
  rw [hconfig]
  split
  · rw [offer_message]
    rfl
  · rfl

theorem pulseMessages_released (hn : s.message.hold = none)
    (hhigh : (pulseMessages s).message.occupancy < s.message.config.high) : (pulseMessages s).message.hold = none := by
  obtain ⟨hconfig, hhold⟩ := foldl_expired_config s (List.finRange 64)
  rw [pulseMessages_occupancy] at hhigh
  rw [pulseMessages, testHold_eq]
  generalize (List.finRange 64).foldl (fun t i => expireAt i t) s = expired at hconfig hhold hhigh ⊢
  have hreleased := holdTested_hold 0 expired
  rw [hhold, hn, if_pos rfl, hconfig, if_neg (Nat.not_le.2 hhigh)] at hreleased
  rw [pulseHoldTimer_eq, hreleased]
  exact hreleased

end

/-! ## The expiry rows -/

theorem pulseZone_message (z : Fin 4) (s : State) : ∃ record,
    (pulseZone z s).message = { s.message with record := record } := by
  have hlost : ∃ record, (loseZone z s).message = { s.message with record := record } := by
    have hcounted : Acts [.counters] UnitId.all s (count (zoneCounter z 3) (countClose z false true s)) :=
      count_acts ((countClose_acts z false true s).mono (by decide) (by decide)) _ (UnitId.mem_all _) (by decide)
    have hkept : (postLost z (count (zoneCounter z 3) (countClose z false true s))).message = s.message :=
      (hcounted.post (UnitId.mem_all _) _ _ _ _ _).message (by decide)
    unfold loseZone
    dsimp only
    generalize postLost z (count (zoneCounter z 3) (countClose z false true s)) = posted at hkept ⊢
    obtain ⟨record, hrecord⟩ := closeReactions_message z (posted.setZone z (posted.zone z).lose)
    exact ⟨record, hrecord.trans (congrArg (fun u : MessageUnit => { u with record := record }) hkept)⟩
  unfold pulseZone
  dsimp only
  split
  · exact hlost
  · split <;> exact ⟨_, rfl⟩

theorem pulseZones_message (s : State) : ∃ record, (pulseZones s).message = { s.message with record := record } := by
  unfold pulseZones
  generalize List.finRange 4 = l
  induction l generalizing s with
  | nil => exact ⟨_, rfl⟩
  | cons z l ih =>
    obtain ⟨_, hz⟩ := pulseZone_message z s
    obtain ⟨record, hl⟩ := ih (pulseZone z s)
    exact ⟨record, by rw [List.foldl_cons, hl, hz]⟩

section
variable (s : State)

theorem beforeMessages_acts : Acts [.timing, .sponsor] [.timing] (pulseZones (pulseUptime s)) (beforeMessages s) :=
  ((pulseClocks_acts (s.timing.state == .running) _).mono (by decide) (by decide)).trans
    ((fireMarks_acts _ _ _).mono (by decide) (by decide))

theorem beforeMessages_message : ∃ record, (beforeMessages s).message = { s.message with record := record } := by
  obtain ⟨record, h⟩ := pulseZones_message (pulseUptime s)
  exact ⟨record, ((beforeMessages_acts s).message (by decide)).trans h⟩

end

theorem losesNext_iff (z : Zone) : z.losesNext = true ↔ LossDue z := by
  rw [Zone.losesNext, Bool.and_eq_true, beq_iff_eq, decide_eq_true_iff]
  rfl

theorem gameDue_iff {u : TimingUnit} (h : u.value ≤ 5999000) : u.gameDue = true ↔
    u.state = .running ∧ (if u.mode = .down then u.value ≤ 1 else 5999000 ≤ u.value + 1) := by
  rw [TimingUnit.gameDue, Bool.and_eq_true, beq_iff_eq, beq_iff_eq]
  refine and_congr_right fun _ => ?_
  cases u.mode with
  | down =>
    rw [if_pos rfl]
    show u.value - 1 = 0 ↔ _
    omega
  | up =>
    rw [if_neg (by decide)]
    show (if u.value < 5999000 then u.value + 1 else u.value) = 5999000 ↔ _
    split <;> omega

theorem possDue_iff (u : TimingUnit) :
    u.possDue = true ↔ u.state = .running ∧ u.possEnabled = true ∧ u.possValue = 1 := by
  rw [TimingUnit.possDue, Bool.and_eq_true, Bool.and_eq_true, beq_iff_eq, beq_iff_eq, and_assoc]

theorem messageDue_iff (s : State) (i : Fin 64) : s.messageDue i = true ↔
    ∃ m, s.message.store.get i = some m ∧ Reached m (s.timing.uptime + 1) := by
  unfold State.messageDue
  split
  next hnone => exact iff_of_false Bool.false_ne_true fun ⟨m, hm, _⟩ => nomatch hnone.symm.trans hm
  next m hm =>
    rw [reachedExpiry_iff]
    refine ⟨fun h => ⟨m, hm, h⟩, fun ⟨n, hn, h⟩ => ?_⟩
    obtain rfl := Option.some.inj (hm.symm.trans hn)
    exact h

theorem holdDue_iff (u : MessageUnit) : u.holdDue = true ↔ ∃ t, u.hold = some t ∧ t ≤ 1 := by
  unfold MessageUnit.holdDue
  split
  next hnone => exact iff_of_false Bool.false_ne_true fun ⟨t, ht, _⟩ => nomatch hnone.symm.trans ht
  next t ht =>
    rw [decide_eq_true_iff]
    refine ⟨fun h => ⟨t, ht, h⟩, fun ⟨n, hn, h⟩ => ?_⟩
    obtain rfl := Option.some.inj (ht.symm.trans hn)
    exact h

/-- An expiry row is the due pulse, and nothing while the event is not due. -/
theorem expiryPulse_row {s : State} (hrun : s.Running) {due : Bool} {P : Prop} (hdue : due = true ↔ P) :
    (P → Host.Outcome.next (whileRunning (expiryPulse due) s) = exec .msPulse s) ∧
    (¬ P → (Host.Outcome.next (whileRunning (expiryPulse due) s) : Host.Outcome State Fault Refusal) = .next s) := by
  have hpulse : exec .msPulse s = .next (advanceToPulse s) := congrArg Host.Outcome.next (whileRunning_running _ hrun)
  rw [hpulse, whileRunning_running _ hrun]
  exact ⟨fun h => congrArg Host.Outcome.next (if_pos (hdue.2 h)), fun h => congrArg Host.Outcome.next (if_neg (mt hdue.1 h))⟩

/-- Settles O36: the rows by what makes each due, the store and the hold state by the message unit's part of the pulse. -/
theorem expiryRows : Obligations.ExpiryRows := by
  intro z which i s hrun
  have hexec : exec .msPulse s = .next (advanceToPulse s) := congrArg Host.Outcome.next (whileRunning_running _ hrun)
  obtain ⟨hlost, hkept⟩ := expiryPulse_row hrun (losesNext_iff (s.zone z))
  obtain ⟨hposs, hnoposs⟩ := expiryPulse_row hrun (possDue_iff s.timing)
  obtain ⟨hmessage, hnomessage⟩ := expiryPulse_row hrun (messageDue_iff s i)
  obtain ⟨hhold, hnohold⟩ := expiryPulse_row hrun (holdDue_iff s.message)
  obtain ⟨hhorn, hnohorn⟩ := expiryPulse_row (P := (match which with
    | .game => s.timing.hornG
    | .possession => s.timing.hornP).remaining = 1) hrun (due := s.timing.hornDue which) (by cases which <;> exact beq_iff_eq)
  refine ⟨hlost, hkept, fun hv => (expiryPulse_row hrun (gameDue_iff hv)).1,
    fun hv => (expiryPulse_row hrun (gameDue_iff hv)).2, hposs, hnoposs, hhorn, hnohorn, hmessage,
    fun h => hnomessage fun ⟨m, hm, hr⟩ => h m hm hr, hhold,
    fun h => hnohold fun ⟨t, ht, hle⟩ => Nat.not_lt.2 hle (h t ht), _, hexec, ?_⟩
  rw [advanceToPulse, pulse_eq]
  obtain ⟨record, hrecord⟩ := beforeMessages_message
    (s.withTiming { s.timing with accumulator := s.timing.accumulatorAfterPulse })
  have huptime := beforeMessages_uptime (s.withTiming { s.timing with accumulator := s.timing.accumulatorAfterPulse })
  generalize beforeMessages (s.withTiming { s.timing with accumulator := s.timing.accumulatorAfterPulse }) = marked
    at hrecord huptime ⊢
  replace huptime : marked.timing.uptime = s.timing.uptime + 1 := huptime
  replace hrecord : marked.message = { s.message with record := record } := hrecord
  have hplace : ∀ j m, s.message.store.get j = some m → (pulseMessages marked).message.store.get j =
      expiredPlace (s.timing.uptime + 1) (some m) := fun j m hm => by
    rw [pulseMessages_store, hrecord, huptime, ← hm]
  refine ⟨⟨marked, ?_, huptime, pulseMessages_spec marked⟩, fun j m hm => ⟨fun hno => ?_, fun hr hs => ?_, fun hr hs => ?_⟩,
    fun n hn hlow => ?_, fun hn hhigh => ?_⟩
  · rw [hrecord]
  · rw [hplace j m hm, expiredPlace, if_neg (mt (reachedExpiry_iff ..).1 hno)]
  · rw [hplace j m hm, expiredPlace, if_pos ((reachedExpiry_iff ..).2 hr), if_pos hs]
  · have hoff : ¬ (m.state = .assembling ∨ m.state = .queued) := by
      obtain hs | hs := hs <;> rw [hs] <;> decide
    rw [hplace j m hm, expiredPlace, if_pos ((reachedExpiry_iff ..).2 hr), if_neg hoff]
  · refine (pulseMessages_holding marked (n := n) (by rw [hrecord]; exact hn) (by rw [hrecord]; exact hlow)).trans ?_
    rw [hrecord]
  · exact pulseMessages_released marked (by rw [hrecord]; exact hn) (by rw [hrecord]; exact hhigh)

end Sys2Proof.Machine
end

section
/-! SUPPORT. The millisecond pulse as a whole (R103, R104): the zones' losses, then the clocks, the marks and the message unit. -/

namespace Sys2Proof.Machine

/-! ## The loss of a zone -/

theorem postLost_eq (z : Fin 4) (s : State) : postLost z s = s.offer [s.report .zoneTiming 0 .lost z.val
    (bytesOf 4 (s.zone z).frameNumber ++ leBytes 2 (s.zone z).coverage.length)] := post_eq_offer ..

section
variable (z : Fin 4) (s : State)

/-- The counts of a loss (R54, R55). -/
def lossCounted : State := count (zoneCounter z 3) (countClose z false true s)

theorem lossCounted_acts : Acts [.counters] [.zoneTiming] s (lossCounted z s) :=
  count_acts (countClose_acts z false true s) _ (List.mem_singleton_self _) (by decide)

theorem loseZone_eq : loseZone z s = closeReactions z (((lossCounted z s).offer
    [s.report .zoneTiming 0 .lost z.val
      (bytesOf 4 (s.zone z).frameNumber ++ leBytes 2 (s.zone z).coverage.length)]).setZone z (s.zone z).lose) := by
  have hacts := lossCounted_acts z s
  have hzone : (lossCounted z s).zone z = s.zone z := congrArg (Tab.get · z) (hacts.zones (by decide))
  have hposted : (postLost z (lossCounted z s)).zone z = s.zone z :=
    (congrArg (Tab.get · z) ((postLost_eq z _).symm ▸ offer_zones _ _)).trans hzone
  have hreport : ∀ payload, (lossCounted z s).report .zoneTiming 0 .lost z.val payload =
      s.report .zoneTiming 0 .lost z.val payload :=
    fun payload => congrArg (fun f => f UnitId.zoneTiming 0 .lost z.val payload) (report_congr (hacts.timing (by decide)))
  have hlost : loseZone z s = closeReactions z ((postLost z (lossCounted z s)).setZone z
      ((postLost z (lossCounted z s)).zone z).lose) := rfl
  rw [hlost, hposted, postLost_eq, hzone, hreport]

theorem loseZone_spec : FrameLost z s (loseZone z s) := by
  rw [loseZone_eq, lossCounted, countClose_eq]
  exact closeReactions_spec z _

variable {z s} in
theorem pulseZone_lost (h : (s.zone z).losesNext = true) : pulseZone z s = loseZone z s := if_pos h

variable {z s} in
theorem pulseZone_counting (h : ¬ (s.zone z).losesNext = true) (hs : (s.zone z).state = .scanning) :
    pulseZone z s = s.setZone z { s.zone z with lossTimer := some (s.zone z).nextLoss } :=
  (if_neg h).trans (if_pos hs)

variable {z s} in
theorem pulseZone_still (hs : (s.zone z).state ≠ .scanning) : pulseZone z s = s :=
  (if_neg (mt (losesNext_iff _).1 fun h => hs h.1)).trans (if_neg hs)

theorem pulseZone_spec : ZonePulsed z s (pulseZone z s) := by
  refine ⟨fun hdue => ?_, fun hs hno => pulseZone_counting (mt (losesNext_iff _).1 hno) hs, pulseZone_still⟩
  rw [pulseZone_lost ((losesNext_iff _).2 hdue)]
  exact loseZone_spec z s

/-- A zone behind the pulse (R55). -/
def Zone.pulsed (zone : Zone) : Zone :=
  if zone.losesNext then zone.lose
  else if zone.state = .scanning then { zone with lossTimer := some zone.nextLoss } else zone

theorem offer_gained (rs : List Report) : Gained (fun _ => 0) s (s.offer rs) := by
  obtain ⟨p, hp⟩ := offer_shape rs s
  rw [hp]
  exact .still rfl rfl rfl

theorem loseZone_gained : ∃ gain, Gained gain s (loseZone z s) ∧
    ∀ y k, gain (zoneCounter y k) = if y = z ∧ k ≠ 2 then 1 else 0 := by
  have hcounted : Gained _ s (lossCounted z s) := (countClose_gained s z false true).trans (count_gained (zoneCounter z 3) _)
  rw [loseZone_eq]
  generalize [s.report .zoneTiming 0 .lost z.val _] = rs
  have hset : ∀ (t : State) x, Gained (fun _ => 0) t (t.setZone z x) := fun t x => .still rfl rfl rfl
  refine ⟨_, ((hcounted.trans (offer_gained _ rs)).trans (hset _ (s.zone z).lose)).trans (closeReactions_gained _ z),
    fun y k => ?_⟩
  generalize ((lossCounted z s).offer rs).setZone z (s.zone z).lose = closing
  have hnone : closeGain z closing (zoneCounter y k) = 0 := closeGain_zone _ z _
  simp only [hnone, zoneCounter_inj]
  by_cases hy : y = z
  · clear hnone
    simp only [hy, true_and]
    revert k
    decide
  · simp [hy]

/-- What a pulse does to a zone, its counters and the compositor: by its loss, its timer, or not at all. -/
theorem pulseZone_places : (pulseZone z s).zones = s.zones.set z (s.zone z).pulsed ∧
    (∀ y k, (pulseZone z s).counters.get (zoneCounter y k) =
      if (y = z ∧ k ≠ 2) ∧ (s.zone z).losesNext then (s.counters.get (zoneCounter y k)).bump s.cmd.saturate
      else s.counters.get (zoneCounter y k)) ∧
    (pulseZone z s).cmd.saturate = s.cmd.saturate ∧
    ∃ record, (pulseZone z s).comp = { s.comp with frameRecord := record } := by
  unfold Zone.pulsed
  by_cases hdue : (s.zone z).losesNext = true
  · obtain ⟨gain, hgained, hgain⟩ := loseZone_gained z s
    rw [pulseZone_lost hdue, if_pos hdue]
    refine ⟨?_, fun y k => ?_, hgained.saturate, s.comp.frameRecord.set z none, ?_⟩
    · rw [loseZone_eq, closeReactions_zones, State.setZone, State.withZones_zones, offer_zones,
        (lossCounted_acts z s).zones (by decide)]
    · rw [hgained.counters, hgain]
      by_cases h : y = z ∧ k ≠ 2
      · rw [if_pos h, if_pos ⟨h, hdue⟩]
        rfl
      · rw [if_neg h, if_neg fun h' => h h'.1]
        rfl
    · rw [loseZone_eq, closeReactions_comp, State.setZone, State.withZones_comp, offer_comp,
        (lossCounted_acts z s).comp (by decide)]
  · have hcounters : ∀ y k, (if (y = z ∧ k ≠ 2) ∧ (s.zone z).losesNext = true then
        (s.counters.get (zoneCounter y k)).bump s.cmd.saturate else s.counters.get (zoneCounter y k)) =
        s.counters.get (zoneCounter y k) := fun y k => if_neg fun h => hdue h.2
    rw [if_neg hdue]
    by_cases hs : (s.zone z).state = .scanning
    · rw [pulseZone_counting hdue hs, if_pos hs]
      exact ⟨rfl, fun y k => (hcounters y k).symm, rfl, _, rfl⟩
    · rw [pulseZone_still hs, if_neg hs]
      exact ⟨(Tab.set_get _ _).symm, fun y k => (hcounters y k).symm, rfl, _, rfl⟩

end

/-! ## The zones at a pulse -/

/-- A zone with its counters. -/
def zonePlace (s : State) (z : Fin 4) : Zone × (Fin 4 → Counter) := (s.zone z, fun k => s.counters.get (zoneCounter z k))

/-- What a pulse makes of them. -/
def placePulsed (saturate : Bool) (x : Zone × (Fin 4 → Counter)) : Zone × (Fin 4 → Counter) :=
  (x.1.pulsed, fun k => if k ≠ 2 ∧ x.1.losesNext then (x.2 k).bump saturate else x.2 k)

theorem zonePlace_self (z : Fin 4) (s : State) :
    zonePlace (pulseZone z s) z = placePulsed s.cmd.saturate (zonePlace s z) := by
  obtain ⟨hzones, hcounters, -⟩ := pulseZone_places z s
  refine Prod.ext ?_ (funext fun k => ?_)
  · exact (congrArg (Tab.get · z) hzones).trans (Tab.get_set_self _ _ _)
  · refine (hcounters z k).trans (if_congr ?_ rfl rfl)
    exact and_congr_left' (and_iff_right rfl)

theorem zonePlace_other {z y : Fin 4} (s : State) (h : y ≠ z) : zonePlace (pulseZone z s) y = zonePlace s y := by
  obtain ⟨hzones, hcounters, -⟩ := pulseZone_places z s
  refine Prod.ext ?_ (funext fun k => ?_)
  · exact (congrArg (Tab.get · y) hzones).trans (Tab.get_set_ne _ _ h.symm)
  · exact (hcounters y k).trans (if_neg fun h' => h h'.1.1)

section
variable (s : State)

theorem pulseZones_place (z : Fin 4) : zonePlace (pulseZones s) z = placePulsed s.cmd.saturate (zonePlace s z) := by
  refine foldl_finRange (Q := fun t => t.cmd.saturate = s.cmd.saturate) (place := zonePlace)
    (f := fun _ => placePulsed s.cmd.saturate) (fun z t ht => ?_) (fun z t ht => ?_) (fun i j t _ hj => zonePlace_other t hj)
    rfl z
  · exact (pulseZone_places z t).2.2.1.trans ht
  · rw [zonePlace_self, ht]

theorem pulseZones_comp : ∃ record, (pulseZones s).comp = { s.comp with frameRecord := record } := by
  unfold pulseZones
  generalize List.finRange 4 = l
  induction l generalizing s with
  | nil => exact ⟨_, rfl⟩
  | cons z l ih =>
    obtain ⟨-, -, -, _, hz⟩ := pulseZone_places z s
    obtain ⟨record, hl⟩ := ih (pulseZone z s)
    exact ⟨record, by rw [List.foldl_cons, hl, hz]⟩

theorem pulsed_eq (zone : Zone) : zone.pulsed =
    if LossDue zone then { zone with state := .lost, coverage := [], lossTimer := none }
    else if zone.state = .scanning then { zone with lossTimer := some (zone.lossTimer.getD 0 + 1) } else zone :=
  if_congr (losesNext_iff zone) rfl rfl

end

/-! ## The timing unit at a pulse -/

/-- Mark `m` fires at the next pulse (R120). -/
def FiresNext (u : TimingUnit) (m : Mark) : Prop := u.state = .running ∧ MarkFires u.mode u.value u.nextValue m

/-- The timing unit the message unit finds: the clocks stepped, then the marks. -/
theorem beforeMessages_timing {s : State} (hv : s.timing.value ≤ 5999000) : ∃ marks hornG,
    (beforeMessages s).timing =
      { { s.timing with uptime := s.timing.uptime + 1 }.stepped with marks := marks, hornG := hornG } ∧
    (∀ j, (FiresNext s.timing (s.timing.marks.get j) → marks.get j = { s.timing.marks.get j with fired := true }) ∧
      (¬ FiresNext s.timing (s.timing.marks.get j) → marks.get j = s.timing.marks.get j)) ∧
    ((∃ j, FiresNext s.timing (s.timing.marks.get j) ∧ (s.timing.marks.get j).action = .reportHorn) →
      hornG = s.timing.hornG.trigger) ∧
    ((∀ j, FiresNext s.timing (s.timing.marks.get j) → (s.timing.marks.get j).action ≠ .reportHorn) →
      hornG = s.timing.stepped.hornG) := by
  have hclocks : (clocksPulsed s).timing = { s.timing with uptime := s.timing.uptime + 1 }.stepped := by
    rw [clocksPulsed_timing]
    exact clocked_eq (by exact hv)
  rw [beforeMessages_eq]
  generalize clocksPulsed s = timed at hclocks ⊢
  by_cases hrun : s.timing.state = .running
  · obtain ⟨marks, hornG, hfold, hmarks, hsounds, hsilent⟩ :=
      foldl_fired s.timing.value timed.timing (List.nodup_finRange 4)
    have hfires : ∀ j, (timed.timing.marks.get j).fires timed.timing.mode s.timing.value timed.timing.value = true ↔
        FiresNext s.timing (s.timing.marks.get j) := fun j => by
      rw [markFires_iff, hclocks]
      exact (and_iff_right hrun).symm
    have hget : timed.timing.marks = s.timing.marks := by rw [hclocks]; rfl
    have htrigger : timed.timing.hornG.trigger = s.timing.hornG.trigger := by rw [hclocks]; rfl
    rw [beq_iff_eq.2 hrun, fireMarks_timing, hfold]
    refine ⟨marks, hornG, by rw [hclocks], fun j => ⟨fun h => ?_, fun h => ?_⟩, fun ⟨j, h, ha⟩ => ?_, fun h => ?_⟩
    · rw [hmarks, if_pos ⟨List.mem_finRange j, (hfires j).2 h⟩, hget]
    · rw [hmarks, if_neg fun h' => h ((hfires j).1 h'.2), hget]
    · rw [hsounds ⟨j, List.mem_finRange j, (hfires j).2 h, by rwa [hget]⟩, htrigger]
    · rw [hsilent fun j _ hf => by rw [hget]; exact h j ((hfires j).1 hf), hclocks]
      rfl
  · have hstill : fireMarks (s.timing.state == .running) s.timing.value timed = timed := by
      rw [fireMarks, if_neg (mt beq_iff_eq.1 hrun)]
    rw [hstill, hclocks]
    exact ⟨_, _, rfl, fun j => ⟨fun h => absurd h.1 hrun, fun _ => rfl⟩, fun ⟨j, h, _⟩ => absurd h.1 hrun, fun _ => rfl⟩

theorem fireMarks_inOrder (before : Nat) (s : State) :
    InOrder (MarkTaken before) (List.finRange 4) s (fireMarks true before s) := by
  rw [fireMarks, if_pos rfl]
  exact inOrder_foldl (fireMark_spec before) _ s

theorem clocksPulsed_eq {s : State} (hv : s.timing.value ≤ 5999000) : clocksPulsed s =
    ((pulseZones (pulseUptime s)).withTiming { s.timing with uptime := s.timing.uptime + 1 }.stepped).offer
      ((if s.timing.Expires then [(pulseUptime s).report .timing 0 .expired 0
        ((if s.timing.mode = .down then [0] else [1]) ++ leBytes 4 s.timing.nextValue)] else []) ++
      (if s.timing.PossCounts ∧ s.timing.possValue = 1 then [(pulseUptime s).report .timing 0 .possExpired 0
        (leBytes 4 s.timing.nextValue ++ [if s.timing.Expires then 2 else 1])] else []) ++
      (if s.timing.Halts then
        [(pulseUptime s).report .timing 0 .stopped 0 (leBytes 4 s.timing.nextValue ++ [2])] else [])) := by
  have hzoned : (pulseZones (pulseUptime s)).timing = (pulseUptime s).timing := zoned_timing s
  have hreports := clockReports_eq (s := pulseZones (pulseUptime s)) (by rw [hzoned]; exact hv)
  have hreport : (pulseZones (pulseUptime s)).report = (pulseUptime s).report := report_congr hzoned
  rw [hzoned, hreport, ← List.append_assoc] at hreports
  have hstepped : { s.timing with uptime := s.timing.uptime + 1 }.clocked =
      { s.timing with uptime := s.timing.uptime + 1 }.stepped := clocked_eq (by exact hv)
  rw [clocksPulsed, hstepped, hreports]
  rfl

/-! ## The pulse and the cycle -/

theorem exec_msPulse {s : State} (hrun : s.Running) : exec .msPulse s = .next (advanceToPulse s) :=
  congrArg Host.Outcome.next (whileRunning_running _ hrun)

theorem step_idle {s : State} (hrun : s.Running) (hp : s.pending = []) : step s = .next (refclkCycle s) := by
  rw [step, hp]
  exact congrArg Host.Outcome.next (whileRunning_running _ hrun)

/-- The cycle that brings the accumulator to F is the one the pulse waits for. -/
theorem refclkCycle_pulses {s : State} (h : s.timing.refRate ≤ s.timing.accumulator + 1000) :
    refclkCycle s = advanceToPulse s := by
  have hone : s.timing.accumulatorAfterPulse = s.timing.accumulator + 1000 - s.timing.refRate := by
    have hcycles : max 1 ((s.timing.refRate - s.timing.accumulator + 999) / 1000) = 1 := by omega
    show s.timing.accumulator + 1000 * max 1 ((s.timing.refRate - s.timing.accumulator + 999) / 1000) - _ = _
    rw [hcycles]
  rw [advanceToPulse, hone]
  exact if_pos h

theorem refclkCycle_waits {s : State} (h : s.timing.accumulator + 1000 < s.timing.refRate) :
    refclkCycle s = s.withTiming { s.timing with accumulator := s.timing.accumulator + 1000 } :=
  if_neg (Nat.not_le.2 h)

section
variable (s : State)

theorem advanceToPulse_zones : (∀ z, (advanceToPulse s).zone z =
      if LossDue (s.zone z) then { s.zone z with state := .lost, coverage := [], lossTimer := none }
      else if (s.zone z).state = .scanning then
        { s.zone z with lossTimer := some ((s.zone z).lossTimer.getD 0 + 1) }
      else s.zone z) ∧
    (∀ z k, (advanceToPulse s).counters.get (zoneCounter z k) =
      if LossDue (s.zone z) ∧ k ≠ 2 then (s.counters.get (zoneCounter z k)).bump s.cmd.saturate
      else s.counters.get (zoneCounter z k)) ∧
    (advanceToPulse s).comp.staged = s.comp.staged ∧ (advanceToPulse s).comp.taken = s.comp.taken ∧
    (advanceToPulse s).comp.active = s.comp.active ∧ (advanceToPulse s).comp.alertOn = s.comp.alertOn := by
  have hrest := pulse_afterZones (s.withTiming { s.timing with accumulator := s.timing.accumulatorAfterPulse })
  have hplace := pulseZones_place (pulseUptime (s.withTiming { s.timing with
    accumulator := s.timing.accumulatorAfterPulse }))
  obtain ⟨record, hcomp⟩ := pulseZones_comp (pulseUptime (s.withTiming { s.timing with
    accumulator := s.timing.accumulatorAfterPulse }))
  rw [← advanceToPulse] at hrest
  generalize pulseZones (pulseUptime (s.withTiming { s.timing with
    accumulator := s.timing.accumulatorAfterPulse })) = zoned at hrest hplace hcomp
  refine ⟨fun z => ?_, fun z k => ?_, ?_⟩
  · rw [← pulsed_eq, State.zone, hrest.zones (by decide)]
    exact congrArg Prod.fst (hplace z)
  · rw [hrest.counters (by decide)]
    refine (congrFun (congrArg Prod.snd (hplace z)) k).trans (if_congr ?_ rfl rfl)
    exact and_comm.trans (and_congr_left' (losesNext_iff _))
  · rw [hrest.comp (by decide), hcomp]
    exact ⟨rfl, rfl, rfl, rfl⟩

/-- The time up to the next pulse gone by (R103). -/
def pulseAwaited : State := s.withTiming { s.timing with accumulator := s.timing.accumulatorAfterPulse }

variable {s}

/-- The marks and the message unit behind the clocks. -/
theorem advanceToPulse_steps : ∃ marked,
    (s.timing.state = .running →
      InOrder (MarkTaken s.timing.value) (List.finRange 4) (clocksPulsed (pulseAwaited s)) marked) ∧
    (s.timing.state ≠ .running → marked = clocksPulsed (pulseAwaited s)) ∧
    MessagesPulsed marked (advanceToPulse s) := by
  refine ⟨beforeMessages (pulseAwaited s), fun hrun => ?_, fun hno => ?_, pulseMessages_spec _⟩
  · have hbefore := beforeMessages_eq (pulseAwaited s)
    have hwas : ((pulseAwaited s).timing.state == ClockState.running) = true := beq_iff_eq.2 hrun
    rw [hwas] at hbefore
    rw [hbefore]
    exact fireMarks_inOrder _ _
  · have hbefore := beforeMessages_eq (pulseAwaited s)
    have hwas : ((pulseAwaited s).timing.state == ClockState.running) = false := beq_eq_false_iff_ne.2 hno
    rw [hwas] at hbefore
    exact hbefore

theorem advanceToPulse_timing (hv : s.timing.value ≤ 5999000) : ∃ marks hornG,
    (advanceToPulse s).timing =
      { { s.timing with uptime := s.timing.uptime + 1, accumulator := s.timing.accumulatorAfterPulse }.stepped with
        marks := marks, hornG := hornG } ∧
    (∀ j, (FiresNext s.timing (s.timing.marks.get j) → marks.get j = { s.timing.marks.get j with fired := true }) ∧
      (¬ FiresNext s.timing (s.timing.marks.get j) → marks.get j = s.timing.marks.get j)) ∧
    ((∃ j, FiresNext s.timing (s.timing.marks.get j) ∧ (s.timing.marks.get j).action = .reportHorn) →
      hornG = s.timing.hornG.trigger) ∧
    ((∀ j, FiresNext s.timing (s.timing.marks.get j) → (s.timing.marks.get j).action ≠ .reportHorn) →
      hornG = s.timing.stepped.hornG) := by
  obtain ⟨marks, hornG, htiming, hmarks, hsounds, hsilent⟩ := beforeMessages_timing (s := pulseAwaited s) hv
  have hkept := (pulseMessages_acts (beforeMessages (pulseAwaited s))).timing (by decide)
  exact ⟨marks, hornG, hkept.trans htiming, hmarks, hsounds, hsilent⟩

end

/-- Settles O35: the zones by their losses, the timing unit by its clocks and marks, then the message unit. -/
theorem millisecondPulse : Obligations.MillisecondPulse := by
  intro s hrun
  refine ⟨fun hv => ?_, fun hp h => ?_, fun hp h => ?_⟩
  case refine_2 => rw [step_idle hrun hp, refclkCycle_waits h]
  case refine_3 => rw [step_idle hrun hp, refclkCycle_pulses h, exec_msPulse hrun]
  have hexec := exec_msPulse hrun
  have hacts := advanceToPulse_acts s
  obtain ⟨hzones, hcounters, hcomp⟩ := advanceToPulse_zones s
  obtain ⟨marked, hruns, hstill, hmessages⟩ := advanceToPulse_steps (s := s)
  obtain ⟨marks, hornG, htiming, hmarks, hsounds, hsilent⟩ := advanceToPulse_timing hv
  generalize advanceToPulse s = t at *
  refine ⟨t, hexec, ?_⟩
  rw [htiming]
  refine ⟨⟨_, clocksPulsed (pulseAwaited s), marked, inOrder_foldl (fun z u => pulseZone_spec z u) _ _, ?_, hruns,
    hstill, hmessages⟩, rfl, rfl, rfl, rfl, rfl, rfl, ?_, ?_, rfl, hmarks, rfl, hzones, hcounters,
    hacts.pending (by decide), hacts.pins (by decide), hacts.glyph (by decide), hacts.capture (by decide),
    hacts.player (by decide), hacts.free (by decide), hcomp⟩
  · exact clocksPulsed_eq (s := pulseAwaited s) hv
  · intro h
    by_cases hsays : ∃ j, FiresNext s.timing (s.timing.marks.get j) ∧ (s.timing.marks.get j).action = .reportHorn
    · exact hsounds hsays
    · refine (hsilent fun j hj ha => hsays ⟨j, hj, ha⟩).trans ?_
      exact congrArg (Horn.mk s.timing.hornG.duration) (if_pos (h.resolve_right hsays))
  · intro hno hquiet
    exact (hsilent hquiet).trans (congrArg (Horn.mk s.timing.hornG.duration) (if_neg hno))

end Sys2Proof.Machine
end

section
/-! SUPPORT. What the moves of a step make of the message unit: one operation of chapter 10 each, so that a property of the
message unit that these operations keep holds on. -/

namespace Sys2Proof.Machine

/-- The operations of chapter 10 keep `P`. -/
structure MessageUnit.Kept (P : MessageUnit → Prop) : Prop where
  initial : P MessageUnit.initial
  recorded : ∀ {u : MessageUnit} (r : Option CrawlRecord), P u → P { u with record := r }
  started : ∀ (z : Fin 4) {s : State}, P s.message → P (crawlFrameStart z s).message
  pulsed : ∀ {s : State}, P s.message → P (pulseMessages s).message
  configured : ∀ (tag : BitVec 16) {s : State} {c : QueueConfig}, c.InRange → c.low < c.high → c.margin < c.holdTime →
    P s.message → P (testHold tag (s.withMessage { s.message with config := c })).message
  opened : ∀ (tag : BitVec 16) {s : State} {i : Fin 64} {m : Message}, s.message.store.get i = none → m.Lawful →
    m.state = .assembling → (∀ j n, s.message.store.get j = some n → n.id ≠ m.id) → P s.message →
    P (testHold tag (s.withMessage { s.message with store := s.message.store.set i (some m) })).message
  written : ∀ {u : MessageUnit} {i : Fin 64} {m : Message} (text : Tab Code 160 → Tab Code 160),
    u.store.get i = some m → m.state = .assembling → P u → P (u.update i fun m => { m with text := text m.text })
  posted : ∀ {u : MessageUnit} {i : Fin 64} {m : Message}, u.store.get i = some m → m.state = .assembling → P u →
    P (u.join i m)
  removed : ∀ (tag : BitVec 16) {s : State} {i : Fin 64} {m : Message}, s.message.store.get i = some m →
    m.state = .assembling ∨ m.state = .queued → P s.message → P (removeWith tag i (postWithdrawn tag 0 m) s).message
  marked : ∀ {u : MessageUnit} {i : Fin 64} {m : Message}, u.store.get i = some m → m.state = .lead ∨ m.state = .follow →
    P u → P (u.update i fun m => { m with withdrawing := true })
  reset : ∀ (tag : BitVec 16) {s : State}, P s.message → P (softResetMessages tag s).message

section
variable {P : MessageUnit → Prop} (hP : MessageUnit.Kept P)
include hP

/-! ## Frames and pulses -/

theorem MessageUnit.Kept.startReactions (z : Fin 4) {s : State} (h : P s.message) : P (startReactions z s).message := by
  have hbefore : (latchPanels z (playerFrameStart z (composerFrameStart z s))).message = s.message := by
    show (playerFrameStart z (composerFrameStart z s)).message = s.message
    rw [(playerFrameStart_acts z _).message (by decide)]
    rfl
  show P (crawlFrameStart z _).message
  exact hP.started z (by rw [hbefore]; exact h)

theorem MessageUnit.Kept.closeByPulse (z : Fin 4) {s : State} (h : P s.message) : P (closeByPulse z s).message := by
  obtain ⟨record, hrecord⟩ := closeReactions_message z (countClose z (s.zone z).covered false s)
  rw [Machine.closeByPulse, hrecord, (countClose_acts z _ _ s).message (by decide)]
  exact hP.recorded record h

theorem MessageUnit.Kept.framePulse (z : Fin 4) {s : State} (h : P s.message) : P (framePulse z s).message := by
  unfold Machine.framePulse
  dsimp only
  split
  · exact h
  · exact hP.startReactions z h
  · refine hP.startReactions z ?_
    rw [postRegained_eq, offer_message]
    exact h
  · split
    · exact hP.startReactions z (hP.closeByPulse z h)
    · have hrefused : (refusePulse z s).message = s.message := by
        unfold refusePulse
        dsimp only
        rw [(count_acts (B := [.counters]) (U := UnitId.all) (.refl _ _ _) _ (UnitId.mem_all _) (by decide)).message
          (by decide)]
        split
        · rfl
        · rw [postSyncError_eq, offer_message]
      rw [hrefused]
      exact h

theorem MessageUnit.Kept.zoneEdge (z : Fin 4) (edge : Edge) {s : State} (h : P s.message) :
    P (zoneEdge z edge s).message := by
  unfold Machine.zoneEdge
  split
  · exact hP.framePulse z h
  · exact h

theorem MessageUnit.Kept.pulse {s : State} (h : P s.message) : P (pulse s).message := by
  obtain ⟨record, hrecord⟩ := beforeMessages_message s
  rw [pulse_eq]
  exact hP.pulsed (by rw [hrecord]; exact hP.recorded record h)

theorem MessageUnit.Kept.advanceToPulse {s : State} (h : P s.message) : P (advanceToPulse s).message := by
  rw [Machine.advanceToPulse]
  exact hP.pulse h

/-! ## Commands -/

theorem MessageUnit.Kept.takeQueueConfig (hd : Header) (paceZone final : Byte)
    (width speed gap scale high low holdTime margin : BitVec 16) {s : State} (h : P s.message) :
    P (takeQueueConfig hd paceZone width speed gap scale high low holdTime margin final s).message := by
  unfold Machine.takeQueueConfig
  rw [acknowledge_message]
  split
  · exact h
  · split
    · exact h
    · refine hP.configured _ ⟨?_, ?_, ?_, ?_, ?_, ?_⟩ ?_ ?_ h
      all_goals
        simp only [clamp]
        omega

theorem MessageUnit.Kept.takeMsgOpen (hd : Header) (id : BitVec 16) (cls : Byte) (length repeats lifetime : BitVec 16)
    (colour sponsor : Byte) {s : State} (h : P s.message) :
    P (takeMsgOpen hd id cls length repeats lifetime colour sponsor s).message := by
  unfold Machine.takeMsgOpen
  rw [acknowledge_message]
  split
  · exact h
  · split
    · exact h
    · split
      · exact h
      next hfind =>
        split
        · exact h
        next i hplace =>
          have hnew : s.message.find id = none := 
            Option.isNone_iff_eq_none.1 (Option.isSome_eq_false_iff.1 (Bool.eq_false_of_not_eq_true hfind))
          refine hP.opened _ (emptyPlace_eq_some.1 hplace).1 ⟨?_, ?_, ?_, fun _ => ⟨rfl, rfl, rfl⟩⟩ rfl
            (find_eq_none.1 hnew) h
          all_goals
            simp only [newMessage, clamp]
            omega

theorem MessageUnit.Kept.takeMsgText (hd : Header) (id offset : BitVec 16) (count : Byte) (codes : List Byte) {s : State}
    (h : P s.message) : P (takeMsgText hd id offset count codes s).message := by
  unfold Machine.takeMsgText
  rw [acknowledge_message]
  split
  · exact h
  next text _ =>
    split
    · exact h
    next i m hfind =>
      split
      · exact h
      next hs =>
        split
        · exact h
        · exact hP.written (fun t => writeCodes t offset.toNat text) (find_eq_some.1 hfind).1 (not_not.1 hs) h

theorem MessageUnit.Kept.takeMsgPost (hd : Header) (id : BitVec 16) {s : State} (h : P s.message) :
    P (takeMsgPost hd id s).message := by
  unfold Machine.takeMsgPost
  rw [acknowledge_message]
  split
  · exact h
  next i m hfind =>
    split
    · exact h
    next hs => exact hP.posted (find_eq_some.1 hfind).1 (not_not.1 hs) h

theorem MessageUnit.Kept.takeMsgWithdraw (hd : Header) (id : BitVec 16) {s : State} (h : P s.message) :
    P (takeMsgWithdraw hd id s).message := by
  unfold Machine.takeMsgWithdraw
  rw [acknowledge_message]
  split
  · exact h
  next i m hfind =>
    have hm := (find_eq_some.1 hfind).1
    have hmarked : m.state = .lead ∨ m.state = .follow →
        P (Reply.state s (if m.withdrawing then .refuse .state else .done (s.withMessage
          (s.message.update i fun m => { m with withdrawing := true })) false (leBytes 1 1) false)).message := fun hs => by
      split
      · exact h
      · exact hP.marked hm hs h
    split
    next hs => exact hP.removed _ hm (.inl hs) h
    next hs => exact hP.removed _ hm (.inr hs) h
    next hs => exact hmarked (.inl hs)
    next hs => exact hmarked (.inr hs)

theorem MessageUnit.Kept.softReset (tag : BitVec 16) {s : State} (h : P s.message) : P (softReset tag s).message := by
  have hbefore : (softResetSponsor (softResetPlayer (softResetCapture tag (softResetRenderer (softResetCompositor tag
      (softResetZones s)))))).message = s.message := by
    rw [softResetSponsor, State.withSponsor_message, softResetPlayer, State.withPlayer_message,
      (stopPlayer_acts _).message (by decide), softResetCapture, (stopRecorder_acts tag .softReset _).message (by decide),
      softResetRenderer, State.withGlyph_message, softResetCompositor,
      (reportAlertChange_acts (B := [.comp]) (U := UnitId.all) ((Acts.refl _ _ _).withComp _ (by decide)) tag _
        (UnitId.mem_all _)).message (by decide)]
    rfl
  rw [Machine.softReset, setPointer, State.withCmd_message]
  exact hP.reset tag (by rw [hbefore]; exact h)

theorem MessageUnit.Kept.takeCommand (c : Instr) {s : State} (h : P s.message) (hc : Block.message ∈ commandBlocks c) :
    P (takeCommand c s).message := by
  cases c with
  | softReset hd =>
    rw [Machine.takeCommand, takeSoftReset, acknowledge_message]
    exact hP.softReset _ h
  | queueConfig => exact hP.takeQueueConfig _ _ _ _ _ _ _ _ _ _ _ h
  | msgOpen => exact hP.takeMsgOpen _ _ _ _ _ _ _ _ h
  | msgText => exact hP.takeMsgText _ _ _ _ _ h
  | msgPost => exact hP.takeMsgPost _ _ h
  | msgWithdraw => exact hP.takeMsgWithdraw _ _ h
  | _ => simp [commandBlocks] at hc

/-! ## Moves -/

theorem MessageUnit.Kept.run {m : Move} {s : State} (hm : m.Arises s) (h : P s.message) : P (m.run s).message := by
  by_cases hb : Block.message ∈ m.blocks
  · cases m with
    | assert => exact hP.initial
    | command c => exact hP.takeCommand c h hb
    | zoneEdge z edge => exact hP.zoneEdge z edge h
    | pulse => exact hP.advanceToPulse h
    | cycle =>
      show P (refclkCycle s).message
      unfold refclkCycle
      dsimp only
      split
      · exact hP.pulse h
      · exact h
    | _ => simp [Move.blocks, burstBlocks] at hb
  · have hsame : (m.run s).message = s.message := Move.run_same hm hb
    rw [hsame]
    exact h

theorem MessageUnit.Kept.step {s t : State} (hst : step s = .next t) (h : P s.message) : P t.message :=
  step_keeps (P := fun s => P s.message) (fun _ _ hm h => hP.run hm h) hst h

end
end Sys2Proof.Machine
end

section
/-! SUPPORT. The hold state of the message unit (R196, R197): its test brings it to the side of the marks on which the store
stands, and what changes neither the configuration nor the number of messages leaves it there. -/

namespace Sys2Proof.Machine

/-! ## The hold state and its test -/

/-- The marks and times stand in order and a hold timer has time left, on whichever side of the marks the store stands. -/
structure MessageUnit.HoldReady (u : MessageUnit) : Prop where
  marks : u.config.low < u.config.high
  times : u.config.margin < u.config.holdTime
  timer : ∀ t, u.hold = some t → 1 ≤ t

section
variable {u v : MessageUnit} {s : State} {place : Option (Fin 64)} {i : Fin 64} {m : Message}

theorem MessageUnit.HoldLawful.ready (h : u.HoldLawful) : u.HoldReady := ⟨h.marks, h.times, fun t ht => (h.holding t ht).2⟩

theorem MessageUnit.HoldReady.congr (h : u.HoldReady) (hconfig : v.config = u.config) (hhold : v.hold = u.hold) :
    v.HoldReady := by
  obtain ⟨hmarks, htimes, htimer⟩ := h
  exact ⟨by rw [hconfig]; exact hmarks, by rw [hconfig]; exact htimes, fun t ht => htimer t (hhold.symm.trans ht)⟩

/-- The store is occupied at the places at which it was. -/
theorem occupancy_congr (h : ∀ i, v.store.get i = none ↔ u.store.get i = none) : v.occupancy = u.occupancy := by
  rw [occupancy_eq, occupancy_eq]
  refine congrArg List.length (List.filter_congr fun i _ => ?_)
  exact decide_eq_decide.2 (not_congr (h i))

theorem MessageUnit.HoldLawful.congr (h : u.HoldLawful) (hconfig : v.config = u.config) (hhold : v.hold = u.hold)
    (hstore : ∀ i, v.store.get i = none ↔ u.store.get i = none) : v.HoldLawful := by
  have hoccupancy := occupancy_congr hstore
  obtain ⟨hmarks, htimes, hreleased, hholding⟩ := h
  refine ⟨by rw [hconfig]; exact hmarks, by rw [hconfig]; exact htimes, fun hnone => ?_, fun t ht => ?_⟩
  · rw [hoccupancy, hconfig]
    exact hreleased (hhold.symm.trans hnone)
  · rw [hoccupancy, hconfig]
    exact hholding t (hhold.symm.trans ht)

/-- A message in the place of another leaves the store as full as it was. -/
theorem set_some_eq_none {t : Tab (Option Message) 64} (hm : t.get i = some m) (n : Message) (j : Fin 64) :
    (t.set i (some n)).get j = none ↔ t.get j = none := by
  obtain rfl | hne := eq_or_ne i j
  · rw [Tab.get_set_self, hm]
    exact ⟨nofun, nofun⟩
  · rw [Tab.get_set_ne _ _ hne]

theorem testHold_message (tag : BitVec 16) (s : State) :
    (testHold tag s).message = { s.message with hold := (testHold tag s).message.hold } := by
  rw [testHold_eq]
  obtain ⟨hold, hmessage⟩ := holdTested_message s tag
  rw [hmessage]

/-- R196: the test of the hold state. -/
theorem testHold_lawful (tag : BitVec 16) (h : s.message.HoldReady) : (testHold tag s).message.HoldLawful := by
  have hhold := holdTested_hold tag s
  rw [← testHold_eq] at hhold
  rw [testHold_message]
  obtain ⟨hmarks, htimes, htimer⟩ := h
  have hoccupancy : ∀ hold, MessageUnit.occupancy { s.message with hold := hold } = s.message.occupancy := fun _ => rfl
  refine ⟨hmarks, htimes, fun hnone => ?_, fun t ht => ?_⟩ <;> rw [hoccupancy]
  · replace hnone := hhold.symm.trans hnone
    split at hnone
    · split at hnone
      · cases hnone
      next hhigh => exact Nat.not_le.1 hhigh
    next hsome =>
      split at hnone
      next hlow => exact Nat.lt_of_le_of_lt hlow hmarks
      · exact absurd hnone hsome
  · replace ht := hhold.symm.trans ht
    split at ht
    · split at ht
      next hhigh =>
        cases ht
        exact ⟨Nat.lt_of_lt_of_le hmarks hhigh, by omega⟩
      · cases ht
    · split at ht
      · cases ht
      next hlow => exact ⟨Nat.not_le.1 hlow, htimer t ht⟩

theorem removeWith_holds (tag : BitVec 16) (i : Fin 64) {post : State → State} (hpost : ∀ t, (post t).message = t.message)
    (h : s.message.HoldLawful) : (removeWith tag i post s).message.HoldLawful :=
  testHold_lawful tag (h.ready.congr (by rw [hpost]; rfl) (by rw [hpost]; rfl))

/-- R197: the hold timer has time left after its millisecond. -/
theorem pulseHoldTimer_holds (h : s.message.HoldLawful) : (pulseHoldTimer s).message.HoldLawful := by
  rw [pulseHoldTimer_eq]
  split
  · exact h
  next t ht =>
    obtain ⟨hmarks, htimes, -, hholding⟩ := h
    have hset : ∀ n, 1 ≤ n → MessageUnit.HoldLawful { s.message with hold := some n } := fun n hn =>
      ⟨hmarks, htimes, nofun, fun k hk => by cases hk; exact ⟨(hholding t ht).1, hn⟩⟩
    split
    · rw [offer_message]
      exact hset _ (by omega)
    · exact hset _ (by omega)

theorem pulseMessages_holds (h : s.message.HoldLawful) : (pulseMessages s).message.HoldLawful := by
  obtain ⟨hconfig, hhold⟩ := foldl_expired_config s (List.finRange 64)
  exact pulseHoldTimer_holds (testHold_lawful 0 (h.ready.congr hconfig hhold))

/-! ## The crawl -/

theorem setQueue_hold (u : MessageUnit) (c : MsgClass) (q : List (Fin 64)) : (u.setQueue c q).hold = u.hold := by
  cases c <;> rfl

theorem update_holds (f : Message → Message) (h : u.HoldLawful) : (u.update i f).HoldLawful := by
  cases hm : u.store.get i with
  | none => rwa [update_none f hm]
  | some m =>
    rw [update_eq f hm]
    exact h.congr rfl rfl (set_some_eq_none hm _)

/-- A message joins a queue and stays in its place. -/
theorem join_holds (hm : u.store.get i = some m) (n : Message) (h : u.HoldLawful) : (u.join i n).HoldLawful := by
  refine h.congr (setQueue_config ..) (setQueue_hold ..) fun j => ?_
  rw [MessageUnit.join, setQueue_store]
  exact set_some_eq_none hm _ j

theorem promote_holds (h : s.message.HoldLawful) : (promote s).message.HoldLawful := by
  unfold promote
  split
  · exact (update_holds _ h).congr rfl rfl fun _ => .rfl
  · exact h

theorem withdrawAt_holds {vacate : State → State} (hv : (vacate s).message.HoldLawful) (h : s.message.HoldLawful) :
    (withdrawAt place vacate s).message.HoldLawful := by
  obtain ⟨i, m, hm⟩ | hnone := onCrawl_or place s
  · rw [withdrawAt_on hm]
    split
    · exact removeWith_holds 0 i (postWithdrawn_message · _ _ _) hv
    · exact h
  · rwa [withdrawAt_off hnone]

theorem clearLead_holds (h : s.message.HoldLawful) : (clearLead s).message.HoldLawful := h.congr rfl rfl fun _ => .rfl

theorem clearFollow_holds (h : s.message.HoldLawful) : (clearFollow s).message.HoldLawful := h.congr rfl rfl fun _ => .rfl

theorem crawlWithdrawals_holds (h : s.message.HoldLawful) : (crawlWithdrawals s).message.HoldLawful := by
  have hlead : (withdrawAt s.message.lead clearLead s).message.HoldLawful := withdrawAt_holds (clearLead_holds h) h
  exact promote_holds (withdrawAt_holds (clearFollow_holds hlead) hlead)

theorem suspendExpiring_holds (h : s.message.HoldLawful) : (suspendExpiring place s).message.HoldLawful := by
  obtain ⟨i, m, hm⟩ | hnone := onCrawl_or place s
  · rw [suspendExpiring_on hm]
    split
    · exact removeWith_holds 0 i (postMessageExpired_message · m) h
    · exact h
  · rwa [suspendExpiring_off hnone]

theorem returnToHead_holds (h : s.message.HoldLawful) : (returnToHead place s).message.HoldLawful := by
  obtain ⟨i, m, hm⟩ | hnone := onCrawl_or place s
  · rw [returnToHead_on hm]
    exact h.congr (setQueue_config ..) (setQueue_hold ..) (set_some_eq_none hm.2 _)
  · rwa [returnToHead_off hnone]

theorem advanceAt_holds (h : s.message.HoldLawful) : (advanceAt place s).message.HoldLawful := by
  unfold advanceAt
  split
  · exact h
  · exact update_holds _ h

theorem finishLead_holds (h : s.message.HoldLawful) : (finishLead s).message.HoldLawful := by
  obtain ⟨i, m, hm⟩ | hnone := onCrawl_or s.message.lead s
  · rw [finishLead_on hm]
    split
    · refine promote_holds ?_
      unfold finished
      split
      · exact removeWith_holds 0 i (postMessageExpired_message · m) (clearLead_holds h)
      · split
        · exact removeWith_holds 0 i (postRetired_message · m) (clearLead_holds h)
        · exact join_holds (u := (clearLead s).message) hm.2 _ (clearLead_holds h)
    · exact h
  · rwa [finishLead_off hnone]

theorem crawlAdmit_holds (h : s.message.HoldLawful) : (crawlAdmit s).message.HoldLawful := by
  unfold crawlAdmit
  split
  · split
    · exact h
    next c _ =>
      split
      · exact h
      next i rest _ =>
        have hqueue : (s.message.setQueue c rest).HoldLawful :=
          h.congr (setQueue_config ..) (setQueue_hold ..) fun j => by rw [setQueue_store]
        dsimp only [State.withMessage_message]
        split
        · exact (update_holds _ hqueue).congr rfl rfl fun _ => .rfl
        · exact (update_holds _ hqueue).congr rfl rfl fun _ => .rfl
  · exact h

theorem crawlMoved_holds (z : Fin 4) (h : s.message.HoldLawful) : (crawlMoved z s).message.HoldLawful := by
  unfold crawlMoved
  split
  · exact returnToHead_holds (returnToHead_holds (suspendExpiring_holds (suspendExpiring_holds
      (clearLead_holds (clearFollow_holds h)))))
  · exact crawlAdmit_holds (finishLead_holds (finishLead_holds (advanceAt_holds (advanceAt_holds h))))

theorem crawlFrameStart_holds (z : Fin 4) (h : s.message.HoldLawful) : (crawlFrameStart z s).message.HoldLawful := by
  by_cases hpace : s.message.config.paceZone = z
  · rw [crawlFrameStart_pace z hpace]
    exact (crawlMoved_holds z (crawlWithdrawals_holds h)).congr rfl rfl fun _ => .rfl
  · rwa [crawlFrameStart, if_neg hpace]

end

/-! ## Every operation -/

theorem MessageUnit.initial_holdLawful : MessageUnit.initial.HoldLawful :=
  ⟨by decide, by decide, fun _ => by decide, nofun⟩

theorem holdLawful_kept : MessageUnit.Kept MessageUnit.HoldLawful where
  initial := MessageUnit.initial_holdLawful
  recorded _ h := h.congr rfl rfl fun _ => .rfl
  started z _ h := crawlFrameStart_holds z h
  pulsed h := pulseMessages_holds h
  configured tag _ _ _ hmarks htimes h := testHold_lawful tag ⟨hmarks, htimes, h.ready.timer⟩
  opened tag _ _ _ _ _ _ _ h := testHold_lawful tag (h.ready.congr rfl rfl)
  written _ _ _ h := update_holds _ h
  posted hm _ h := join_holds hm _ h
  removed tag _ _ m _ _ h := removeWith_holds tag _ (postWithdrawn_message · tag 0 m) h
  marked _ _ h := update_holds _ h
  reset tag _ h := testHold_lawful tag (h.ready.congr rfl rfl)

/-- R196: QHOLD tells on which side of the marks the store stands. -/
theorem MessageUnit.HoldLawful.qhold {s : State} (h : s.message.HoldLawful) :
    (s.qhold = true → s.message.config.low < s.message.occupancy) ∧
    (s.qhold = false → s.message.occupancy < s.message.config.high) := by
  refine ⟨fun hq => ?_, fun hq => h.released ?_⟩
  · obtain ⟨t, ht⟩ := Option.ne_none_iff_exists'.1 ((qhold_iff s).1 hq)
    exact (h.holding t ht).1
  · exact not_not.1 (mt (qhold_iff s).2 (by rw [hq]; exact Bool.false_ne_true))

end Sys2Proof.Machine
end

section
/-! SUPPORT. The law of the message store with LEAD and FOLLOW named apart from the state, so that it can be said between two
steps of the crawl engine: place by place, and for a change at one place. -/

namespace Sys2Proof.Machine

/-! ## The law, place by place -/

/-- What the law asks of one place: its message in its ranges and no further on than `far`, LEAD or FOLLOW exactly where
`lead` and `follow` say, and in the queue of its class exactly while it is QUEUED. -/
structure MessageUnit.PlaceLaw (u : MessageUnit) (lead follow : Option (Fin 64)) (far : Nat) (i : Fin 64) : Prop where
  message : ∀ m, u.store.get i = some m → m.Lawful ∧ m.travel < far
  lead : ∀ m, u.store.get i = some m → (lead = some i ↔ m.state = .lead)
  follow : ∀ m, u.store.get i = some m → (follow = some i ↔ m.state = .follow)
  queued : ∀ c, i ∈ u.queue c ↔ ∃ m, u.store.get i = some m ∧ m.state = .queued ∧ m.cls = c

/-- No two messages have one id. -/
def MessageUnit.DistinctIds (u : MessageUnit) : Prop :=
  ∀ i j m n, u.store.get i = some m → u.store.get j = some n → m.id = n.id → i = j

/-- The message at `follow` is behind the one at `lead` by `gap` or more. -/
def MessageUnit.Behind (u : MessageUnit) (lead follow : Option (Fin 64)) (gap : Nat) : Prop :=
  ∀ i j m n, lead = some i → follow = some j → u.store.get i = some m → u.store.get j = some n →
    n.travel + gap ≤ m.travel

/-- The law of the message store for a crawl with LEAD at `lead` and FOLLOW at `follow`; either may name an empty place. -/
structure MessageUnit.StoreLaw (u : MessageUnit) (lead follow : Option (Fin 64)) (gap far : Nat) : Prop where
  config : u.config.InRange
  places : ∀ i, u.PlaceLaw lead follow far i
  ids : u.DistinctIds
  behind : u.Behind lead follow gap
  once : ∀ c, (u.queue c).Nodup

/-- `v` is `u` with the same configuration and, away from place `i`, the same messages, queues and places of the crawl. -/
structure MessageUnit.Beside (i : Fin 64) (u v : MessageUnit) (lead lead' follow follow' : Option (Fin 64)) : Prop where
  config : v.config = u.config
  store : ∀ j, j ≠ i → v.store.get j = u.store.get j
  queue : ∀ c j, j ≠ i → (j ∈ v.queue c ↔ j ∈ u.queue c)
  lead : ∀ j, j ≠ i → (lead' = some j ↔ lead = some j)
  follow : ∀ j, j ≠ i → (follow' = some j ↔ follow = some j)

section
variable {u v : MessageUnit} {lead follow lead' follow' : Option (Fin 64)} {gap gap₀ far : Nat} {i : Fin 64} {m n : Message}

theorem MessageUnit.PlaceLaw.beside {j : Fin 64} (h : u.PlaceLaw lead follow far j)
    (hb : u.Beside i v lead lead' follow follow') (hj : j ≠ i) : v.PlaceLaw lead' follow' far j := by
  obtain ⟨hmessage, hlead, hfollow, hqueued⟩ := h
  have hstore := hb.store j hj
  refine ⟨fun m hm => hmessage m (hstore.symm.trans hm), fun m hm => (hb.lead j hj).trans (hlead m (hstore.symm.trans hm)),
    fun m hm => (hb.follow j hj).trans (hfollow m (hstore.symm.trans hm)), fun c => ?_⟩
  rw [hb.queue c j hj, hstore]
  exact hqueued c

/-- The law after a change at one place. -/
theorem MessageUnit.StoreLaw.replaced (h : u.StoreLaw lead follow gap₀ far) (hb : u.Beside i v lead lead' follow follow')
    (hplace : v.PlaceLaw lead' follow' far i)
    (hid : ∀ m j n, v.store.get i = some m → j ≠ i → u.store.get j = some n → m.id ≠ n.id)
    (hbehind : v.Behind lead' follow' gap) (honce : ∀ c, (v.queue c).Nodup) : v.StoreLaw lead' follow' gap far := by
  refine ⟨by rw [hb.config]; exact h.config, fun j => ?_, fun j k m n hm hn heq => ?_, hbehind, honce⟩
  · obtain rfl | hj := eq_or_ne j i
    · exact hplace
    · exact (h.places j).beside hb hj
  · by_contra hne
    obtain rfl | hj := eq_or_ne j i
    · exact hid m k n hm (Ne.symm hne) ((hb.store k (Ne.symm hne)).symm.trans hn) heq
    · obtain rfl | hk := eq_or_ne k i
      · exact hid n j m hn hj ((hb.store j hj).symm.trans hm) heq.symm
      · exact hne (h.ids j k m n ((hb.store j hj).symm.trans hm) ((hb.store k hk).symm.trans hn) heq)

/-- A message in the place of one with the same id keeps the ids apart. -/
theorem MessageUnit.StoreLaw.sameId (h : u.StoreLaw lead follow gap far) (hm : u.store.get i = some m) (hid : n.id = m.id)
    (hv : v.store.get i = some n) :
    ∀ x j y, v.store.get i = some x → j ≠ i → u.store.get j = some y → x.id ≠ y.id := fun x j y hx hj hy heq => by
  cases hv.symm.trans hx
  exact hj (h.ids i j m y hm hy (hid.symm.trans heq)).symm

/-- The law of a place that holds a message, from that message. -/
theorem MessageUnit.PlaceLaw.of_some (hm : u.store.get i = some m) (hlawful : m.Lawful) (htravel : m.travel < far)
    (hlead : lead = some i ↔ m.state = .lead) (hfollow : follow = some i ↔ m.state = .follow)
    (hqueued : ∀ c, i ∈ u.queue c ↔ m.state = .queued ∧ m.cls = c) : u.PlaceLaw lead follow far i := by
  refine ⟨fun n hn => ?_, fun n hn => ?_, fun n hn => ?_, fun c => ?_⟩
  · cases hm.symm.trans hn
    exact ⟨hlawful, htravel⟩
  · cases hm.symm.trans hn
    exact hlead
  · cases hm.symm.trans hn
    exact hfollow
  · refine (hqueued c).trans ⟨fun h => ⟨m, hm, h⟩, fun ⟨n, hn, h⟩ => ?_⟩
    cases hm.symm.trans hn
    exact h

theorem MessageUnit.PlaceLaw.mem_queue (h : u.PlaceLaw lead follow far i) (hm : u.store.get i = some m) (c : MsgClass) :
    i ∈ u.queue c ↔ m.state = .queued ∧ m.cls = c :=
  (h.queued c).trans ⟨fun ⟨n, hn, hs⟩ => by cases hm.symm.trans hn; exact hs, fun hs => ⟨m, hm, hs⟩⟩

/-- The law depends on the configuration, the store and the queues, and on the crawl at occupied places. -/
theorem MessageUnit.StoreLaw.congr (h : u.StoreLaw lead follow gap far) (hconfig : v.config = u.config)
    (hstore : v.store = u.store) (hqueue : ∀ c, v.queue c = u.queue c)
    (hlead : ∀ j n, u.store.get j = some n → (lead' = some j ↔ lead = some j))
    (hfollow : ∀ j n, u.store.get j = some n → (follow' = some j ↔ follow = some j)) :
    v.StoreLaw lead' follow' gap far := by
  refine ⟨by rw [hconfig]; exact h.config, fun j => ⟨fun n hn => ?_, fun n hn => ?_, fun n hn => ?_, fun c => ?_⟩, ?_, ?_,
    fun c => by rw [hqueue]; exact h.once c⟩
  · exact (h.places j).message n (hstore ▸ hn)
  · exact (hlead j n (hstore ▸ hn)).trans ((h.places j).lead n (hstore ▸ hn))
  · exact (hfollow j n (hstore ▸ hn)).trans ((h.places j).follow n (hstore ▸ hn))
  · rw [hqueue, hstore]
    exact (h.places j).queued c
  · unfold MessageUnit.DistinctIds
    rw [hstore]
    exact h.ids
  · intro j k m n hj hk hm hn
    rw [hstore] at hm hn
    exact h.behind j k m n ((hlead j m hm).1 hj) ((hfollow k n hn).1 hk) hm hn

/-! ## The state of a message -/

theorem onCrawl_not_waiting (hs : m.state = .lead ∨ m.state = .follow) : ¬ (m.state = .assembling ∨ m.state = .queued) := by
  obtain hs | hs := hs
  · rw [hs]
    exact fun h => h.elim nofun nofun
  · rw [hs]
    exact fun h => h.elim nofun nofun

/-- A QUEUED or ASSEMBLING message is not on the crawl. -/
theorem MessageUnit.PlaceLaw.off (h : u.PlaceLaw lead follow far i) (hm : u.store.get i = some m)
    (hs : m.state = .assembling ∨ m.state = .queued) : lead ≠ some i ∧ follow ≠ some i := by
  exact ⟨fun hl => onCrawl_not_waiting (.inl ((h.lead m hm).1 hl)) hs,
    fun hf => onCrawl_not_waiting (.inr ((h.follow m hm).1 hf)) hs⟩

/-- No message is both LEAD and FOLLOW. -/
theorem MessageUnit.PlaceLaw.apart (h : u.PlaceLaw (some i) follow far i) (hm : u.store.get i = some m) :
    follow ≠ some i := fun hf =>
  nomatch ((h.lead m hm).1 rfl).symm.trans ((h.follow m hm).1 hf)

/-! ## Changes at one place -/

theorem remove_queue (u : MessageUnit) (i : Fin 64) (c : MsgClass) : (u.remove i).queue c = (u.queue c).filter (· ≠ i) := by
  cases c <;> rfl

theorem setQueue_queue (u : MessageUnit) (c d : MsgClass) (q : List (Fin 64)) :
    (u.setQueue c q).queue d = if d = c then q else u.queue d := by
  cases c <;> cases d <;> rfl

/-- A message leaves the store. -/
theorem MessageUnit.StoreLaw.removed (h : u.StoreLaw lead follow gap far) (i : Fin 64) :
    (u.remove i).StoreLaw lead follow gap far := by
  have hgone : (u.remove i).store.get i = none := Tab.get_set_self ..
  have hnone : ∀ m, (u.remove i).store.get i ≠ some m := fun m hm => nomatch hgone.symm.trans hm
  have hstore : ∀ j, j ≠ i → (u.remove i).store.get j = u.store.get j := fun j hj => Tab.get_set_ne _ _ hj.symm
  have hkept : ∀ j n, (u.remove i).store.get j = some n → u.store.get j = some n := fun j n hn => by
    rwa [← hstore j fun heq => hnone n (heq ▸ hn)]
  refine h.replaced ⟨rfl, hstore, fun c j hj => ?_, fun _ _ => .rfl, fun _ _ => .rfl⟩
    ⟨fun m hm => absurd hm (hnone m), fun m hm => absurd hm (hnone m), fun m hm => absurd hm (hnone m), fun c => ?_⟩
    (fun m j n hm => absurd hm (hnone m))
    (fun j k m n hj hk hm hn => h.behind j k m n hj hk (hkept j m hm) (hkept k n hn)) fun c => ?_
  · rw [remove_queue, List.mem_filter, decide_eq_true_eq]
    exact and_iff_left hj
  · rw [remove_queue, List.mem_filter, decide_eq_true_eq]
    exact ⟨fun hi => absurd rfl hi.2, fun ⟨m, hm, _⟩ => absurd hm (hnone m)⟩
  · rw [remove_queue]
    exact (h.once c).filter _

/-- A message changes in what the crawl and the queues do not see. -/
theorem MessageUnit.StoreLaw.changed (h : u.StoreLaw lead follow gap far) (hm : u.store.get i = some m)
    (hlawful : n.Lawful) (hid : n.id = m.id) (hcls : n.cls = m.cls) (hstate : n.state = m.state)
    (htravel : n.travel = m.travel) :
    MessageUnit.StoreLaw { u with store := u.store.set i (some n) } lead follow gap far := by
  obtain ⟨hmessage, hlead, hfollow, -⟩ := h.places i
  have hset : (u.store.set i (some n)).get i = some n := Tab.get_set_self ..
  have htravels : ∀ j x, (u.store.set i (some n)).get j = some x → ∃ y, u.store.get j = some y ∧ y.travel = x.travel := by
    intro j x hx
    obtain rfl | hj := eq_or_ne i j
    · cases hset.symm.trans hx
      exact ⟨m, hm, htravel.symm⟩
    · exact ⟨x, (Tab.get_set_ne _ _ hj).symm.trans hx, rfl⟩
  refine h.replaced (i := i) ⟨rfl, fun j hj => Tab.get_set_ne _ _ hj.symm, fun _ _ _ => .rfl, fun _ _ => .rfl, fun _ _ => .rfl⟩
    (.of_some hset hlawful (by rw [htravel]; exact (hmessage m hm).2) (by rw [hstate]; exact hlead m hm)
      (by rw [hstate]; exact hfollow m hm)
      fun c => by rw [hstate, hcls]; exact (h.places i).mem_queue hm c)
    (h.sameId hm hid hset) (fun j k x y hj hk hx hy => ?_) h.once
  obtain ⟨x', hx', hxt⟩ := htravels j x hx
  obtain ⟨y', hy', hyt⟩ := htravels k y hy
  rw [← hxt, ← hyt]
  exact h.behind j k x' y' hj hk hx' hy'

/-- A message joins the queue of its class, at one end or the other. -/
theorem MessageUnit.StoreLaw.enqueued (h : u.StoreLaw lead follow gap far) (hm : u.store.get i = some m)
    (hwaits : m.state ≠ .queued) (hconfig : v.config = u.config) (hstore : v.store = u.store.set i (some n))
    (hqueue : (v.queue m.cls).Perm (i :: u.queue m.cls)) (hother : ∀ c, c ≠ m.cls → v.queue c = u.queue c)
    (hlawful : n.Lawful) (hid : n.id = m.id) (hcls : n.cls = m.cls) (hstate : n.state = .queued)
    (hlead : ∀ j, lead' = some j ↔ lead = some j ∧ j ≠ i) (hfollow : ∀ j, follow' = some j ↔ follow = some j ∧ j ≠ i) :
    v.StoreLaw lead' follow' gap far := by
  have hset : v.store.get i = some n := by rw [hstore]; exact Tab.get_set_self ..
  have hbeside : ∀ j, j ≠ i → v.store.get j = u.store.get j := fun j hj => by
    rw [hstore]
    exact Tab.get_set_ne _ _ hj.symm
  have hnot : ∀ c, i ∉ u.queue c := fun c hi => hwaits (((h.places i).mem_queue hm c).1 hi).1
  have htravel : n.travel = 0 := (hlawful.waiting (.inr hstate)).1
  refine h.replaced (i := i) ⟨hconfig, hbeside, fun c j hj => ?_, fun j hj => ?_, fun j hj => ?_⟩
    (.of_some hset hlawful ?_ ?_ ?_ fun c => ?_) (h.sameId hm hid hset) (fun j k x y hj hk hx hy => ?_) fun c => ?_
  · obtain rfl | hc := eq_or_ne c m.cls
    · rw [hqueue.mem_iff, List.mem_cons]
      exact or_iff_right hj
    · rw [hother c hc]
  · exact (hlead j).trans (and_iff_left hj)
  · exact (hfollow j).trans (and_iff_left hj)
  · exact htravel ▸ Nat.lt_of_le_of_lt (Nat.zero_le _) ((h.places i).message m hm).2
  · rw [hstate]
    exact ⟨fun hl => absurd rfl ((hlead i).1 hl).2, nofun⟩
  · rw [hstate]
    exact ⟨fun hf => absurd rfl ((hfollow i).1 hf).2, nofun⟩
  · obtain rfl | hc := eq_or_ne c m.cls
    · rw [hqueue.mem_iff]
      exact ⟨fun _ => ⟨hstate, hcls⟩, fun _ => List.mem_cons_self⟩
    · rw [hother c hc]
      exact ⟨fun hi => absurd hi (hnot c), fun hs => absurd (hs.2.symm.trans hcls) hc⟩
  · obtain ⟨hl, hji⟩ := (hlead j).1 hj
    obtain ⟨hf, hki⟩ := (hfollow k).1 hk
    exact h.behind j k x y hl hf ((hbeside j hji).symm.trans hx) ((hbeside k hki).symm.trans hy)
  · obtain rfl | hc := eq_or_ne c m.cls
    · exact hqueue.nodup_iff.2 (List.nodup_cons.2 ⟨hnot _, h.once _⟩)
    · rw [hother c hc]
      exact h.once c

/-- The FOLLOW of an empty LEAD becomes LEAD. -/
theorem MessageUnit.StoreLaw.promoted (h : u.StoreLaw none (some i) gap far) (hm : u.store.get i = some m) :
    MessageUnit.StoreLaw { u with store := u.store.set i (some { m with state := .lead }) } (some i) none gap far := by
  obtain ⟨hmessage, -, hfollow, -⟩ := h.places i
  have hset : (u.store.set i (some { m with state := .lead })).get i = some { m with state := .lead } :=
    Tab.get_set_self ..
  obtain ⟨⟨hlength, hrepeats, hlifetime, -⟩, htravel⟩ := hmessage m hm
  have hfollows : m.state = .follow := (hfollow m hm).1 rfl
  refine h.replaced (i := i) ⟨rfl, fun j hj => Tab.get_set_ne _ _ hj.symm, fun _ _ _ => .rfl, fun j hj => ?_, fun j hj => ?_⟩
    (.of_some hset ⟨hlength, hrepeats, hlifetime, fun hs => hs.elim nofun nofun⟩ htravel (iff_of_true rfl rfl)
      ⟨nofun, nofun⟩ fun c => ?_) (h.sameId (n := { m with state := .lead }) hm rfl hset) (fun j k x y _ hk => nomatch hk) h.once
  · exact ⟨fun hj' => absurd (Option.some.inj hj').symm hj, nofun⟩
  · exact ⟨nofun, fun hj' => absurd (Option.some.inj hj').symm hj⟩
  · refine ((h.places i).mem_queue hm c).trans ?_
    rw [hfollows]
    exact ⟨fun hs => (nomatch hs.1), fun hs => (nomatch hs.1)⟩

/-- The head of a class queue enters the crawl, as LEAD or as FOLLOW. -/
theorem MessageUnit.StoreLaw.entered {state : MsgState} {c : MsgClass} {rest : List (Fin 64)}
    (h : u.StoreLaw lead follow 0 far) (hhead : u.queue c = i :: rest) (hm : u.store.get i = some m)
    (hstate : (state = .lead ∧ lead' = some i ∧ lead = none ∧ follow' = none ∧ follow = none) ∨
      (state = .follow ∧ lead' = lead ∧ follow' = some i ∧ follow = none)) :
    MessageUnit.StoreLaw { u.setQueue c rest with store := u.store.set i (some { m with state := state, travel := 0 }) }
      lead' follow' 0 far := by
  obtain ⟨hlawful, hfar⟩ := (h.places i).message m hm
  obtain ⟨hlength, hrepeats, hlifetime, hwaiting⟩ := hlawful
  have hset : (u.store.set i (some { m with state := state, travel := 0 })).get i =
      some { m with state := state, travel := 0 } := Tab.get_set_self ..
  obtain ⟨hqueued, hcls⟩ := ((h.places i).mem_queue hm c).1 (by rw [hhead]; exact List.mem_cons_self)
  obtain ⟨hofflead, hofffollow⟩ := (h.places i).off hm (.inr hqueued)
  have hnodup := h.once c
  rw [hhead, List.nodup_cons] at hnodup
  have hqueue : ∀ d, MessageUnit.queue { u.setQueue c rest with
      store := u.store.set i (some { m with state := state, travel := 0 }) } d = if d = c then rest else u.queue d := fun d =>
    (by cases d <;> rfl : _ = (u.setQueue c rest).queue d).trans (setQueue_queue u c d rest)
  have hon : state ≠ .queued ∧ state ≠ .assembling := by
    obtain ⟨rfl, -⟩ | ⟨rfl, -⟩ := hstate
    · exact ⟨nofun, nofun⟩
    · exact ⟨nofun, nofun⟩
  refine h.replaced (i := i) ⟨setQueue_config .., fun j hj => Tab.get_set_ne _ _ hj.symm, fun d j hj => ?_, fun j hj => ?_,
    fun j hj => ?_⟩ (.of_some hset ⟨hlength, hrepeats, hlifetime, fun hs => ?_⟩ (Nat.lt_of_le_of_lt (Nat.zero_le _) hfar)
      ?_ ?_ fun d => ?_) (h.sameId (n := { m with state := state, travel := 0 }) hm rfl hset) (fun j k x y hj hk hx hy => ?_) fun d => ?_
  · rw [hqueue]
    split
    next hd =>
      rw [hd, hhead, List.mem_cons]
      exact (or_iff_right hj).symm
    · rfl
  · obtain ⟨-, rfl, rfl, -⟩ | ⟨-, rfl, -⟩ := hstate
    · exact ⟨fun hj' => absurd (Option.some.inj hj').symm hj, nofun⟩
    · rfl
  · obtain ⟨-, -, -, rfl, rfl⟩ | ⟨-, -, rfl, rfl⟩ := hstate
    · rfl
    · exact ⟨fun hj' => absurd (Option.some.inj hj').symm hj, nofun⟩
  · exact hs.elim (absurd · hon.2) (absurd · hon.1)
  · obtain ⟨rfl, rfl, -⟩ | ⟨rfl, rfl, -⟩ := hstate
    · exact iff_of_true rfl rfl
    · exact ⟨fun hl => absurd hl hofflead, nofun⟩
  · obtain ⟨rfl, -, -, rfl, -⟩ | ⟨rfl, -, rfl, -⟩ := hstate
    · exact ⟨nofun, nofun⟩
    · exact iff_of_true rfl rfl
  · rw [hqueue]
    refine ⟨fun hi => ?_, fun hs => absurd hs.1 hon.1⟩
    split at hi
    · exact absurd hi hnodup.1
    next hd => exact absurd (((h.places i).mem_queue hm d).1 hi).2 (by rw [hcls]; exact Ne.symm hd)
  · obtain ⟨-, -, -, rfl, -⟩ | ⟨-, -, rfl, -⟩ := hstate
    · cases hk
    · obtain rfl := Option.some.inj hk
      cases hset.symm.trans hy
      exact Nat.zero_le _
  · rw [hqueue]
    split
    · exact hnodup.2
    · exact h.once d

/-- A new message in an empty place. -/
theorem MessageUnit.StoreLaw.opened (h : u.StoreLaw lead follow gap far) (hempty : u.store.get i = none) (hlawful : m.Lawful)
    (hs : m.state = .assembling) (hid : ∀ j n, u.store.get j = some n → n.id ≠ m.id) (hfar : 0 < far)
    (hlead : lead ≠ some i) (hfollow : follow ≠ some i) :
    MessageUnit.StoreLaw { u with store := u.store.set i (some m) } lead follow gap far := by
  have hset : (u.store.set i (some m)).get i = some m := Tab.get_set_self ..
  refine h.replaced (i := i) ⟨rfl, fun j hj => Tab.get_set_ne _ _ hj.symm, fun _ _ _ => .rfl, fun _ _ => .rfl,
    fun _ _ => .rfl⟩ (.of_some hset hlawful (by rw [(hlawful.waiting (.inl hs)).1]; exact hfar) ?_ ?_ fun c => ?_)
    (fun x j n hx _ hn heq => ?_) (fun j k x y hj hk hx hy => ?_) h.once
  · rw [hs]
    exact ⟨fun hl => absurd hl hlead, nofun⟩
  · rw [hs]
    exact ⟨fun hf => absurd hf hfollow, nofun⟩
  · rw [hs]
    refine ⟨fun hi => ?_, fun hq => nomatch hq.1⟩
    obtain ⟨n, hn, -⟩ := ((h.places i).queued c).1 hi
    exact nomatch hempty.symm.trans hn
  · cases hset.symm.trans hx
    exact hid j n hn heq.symm
  · have hji : i ≠ j := fun heq => hlead (heq ▸ hj)
    have hki : i ≠ k := fun heq => hfollow (heq ▸ hk)
    exact h.behind j k x y hj hk ((Tab.get_set_ne _ _ hji).symm.trans hx) ((Tab.get_set_ne _ _ hki).symm.trans hy)

end

end Sys2Proof.Machine
end

section
/-! SUPPORT. The law of the message store through the steps of the crawl engine (R190 to R193). -/

namespace Sys2Proof.Machine

/-! ## The law with the crawl of the unit itself -/

/-- The law of the store for the unit's own LEAD and FOLLOW, both of which name a message. -/
structure MessageUnit.CrawlLaw (u : MessageUnit) (gap far : Nat) : Prop where
  store : u.StoreLaw u.lead u.follow gap far
  lead : ∀ i, u.lead = some i → u.store.get i ≠ none
  follow : ∀ i, u.follow = some i → u.store.get i ≠ none

/-- There is a LEAD where there is a FOLLOW. -/
def MessageUnit.Led (u : MessageUnit) : Prop := u.lead = none → u.follow = none

/-- How far a message may travel: across the widest strip and its own greatest width. -/
def farthest : Nat := 16384 + 160 * 16 * 8

section
variable {u v : MessageUnit} {gap far : Nat} {i : Fin 64} {m n : Message}

theorem MessageUnit.StoreLawful.crawlLaw (h : u.StoreLawful) : u.CrawlLaw 0 farthest := by
  refine ⟨⟨h.config, fun i => ⟨fun m hm => ⟨h.messages i m hm, h.travel i m hm⟩, fun m hm => ?_, fun m hm => ?_,
    fun c => h.queued c i⟩, h.ids, fun i j m n hi hj hm hn => ?_, h.once⟩, fun i hi => ?_, fun i hi => ?_⟩
  · refine (h.lead i).trans ⟨fun ⟨n, hn, hs⟩ => ?_, fun hs => ⟨m, hm, hs⟩⟩
    cases hm.symm.trans hn
    exact hs
  · refine (h.follow i).trans ⟨fun ⟨n, hn, hs⟩ => ?_, fun hs => ⟨m, hm, hs⟩⟩
    cases hm.symm.trans hn
    exact hs
  · obtain ⟨k, hk, hle⟩ := h.behind j hj
    cases hi.symm.trans hk
    exact hle m n hm hn
  · obtain ⟨m, hm, -⟩ := (h.lead i).1 hi
    exact Option.ne_none_iff_exists'.2 ⟨m, hm⟩
  · obtain ⟨m, hm, -⟩ := (h.follow i).1 hi
    exact Option.ne_none_iff_exists'.2 ⟨m, hm⟩

theorem MessageUnit.StoreLawful.led (h : u.StoreLawful) : u.Led := fun hlead => by
  by_contra hfollow
  obtain ⟨j, hj⟩ := Option.ne_none_iff_exists'.1 hfollow
  obtain ⟨i, hi, -⟩ := h.behind j hj
  exact nomatch hlead.symm.trans hi

theorem MessageUnit.CrawlLaw.storeLawful (h : u.CrawlLaw 0 farthest) (hled : u.Led) : u.StoreLawful := by
  obtain ⟨⟨hconfig, hplaces, hids, hbehind, honce⟩, hlead, hfollow⟩ := h
  refine ⟨hconfig, fun i m hm => ((hplaces i).message m hm).1, hids, fun i => ⟨fun hi => ?_, fun ⟨m, hm, hs⟩ => ?_⟩,
    fun i => ⟨fun hi => ?_, fun ⟨m, hm, hs⟩ => ?_⟩, fun j hj => ?_, fun i m hm => ((hplaces i).message m hm).2,
    fun c i => (hplaces i).queued c, honce⟩
  · obtain ⟨m, hm⟩ := Option.ne_none_iff_exists'.1 (hlead i hi)
    exact ⟨m, hm, ((hplaces i).lead m hm).1 hi⟩
  · exact ((hplaces i).lead m hm).2 hs
  · obtain ⟨m, hm⟩ := Option.ne_none_iff_exists'.1 (hfollow i hi)
    exact ⟨m, hm, ((hplaces i).follow m hm).1 hi⟩
  · exact ((hplaces i).follow m hm).2 hs
  · obtain ⟨i, hi⟩ := Option.ne_none_iff_exists'.1 (mt hled (by rw [hj]; exact nofun))
    exact ⟨i, hi, fun m n hm hn => hbehind i j m n hi hj hm hn⟩

theorem MessageUnit.CrawlLaw.congr (h : u.CrawlLaw gap far) (hconfig : v.config = u.config) (hstore : v.store = u.store)
    (hqueue : ∀ c, v.queue c = u.queue c) (hlead : v.lead = u.lead) (hfollow : v.follow = u.follow) :
    v.CrawlLaw gap far := by
  refine ⟨h.store.congr hconfig hstore hqueue (fun _ _ _ => by rw [hlead]) fun _ _ _ => by rw [hfollow], fun i hi => ?_,
    fun i hi => ?_⟩
  · rw [hstore]
    exact h.lead i (hlead.symm.trans hi)
  · rw [hstore]
    exact h.follow i (hfollow.symm.trans hi)

/-- The law depends neither on the hold state nor on the crawl record. -/
theorem MessageUnit.StoreLawful.congr (h : u.StoreLawful) (hconfig : v.config = u.config) (hstore : v.store = u.store)
    (hqueue : ∀ c, v.queue c = u.queue c) (hlead : v.lead = u.lead) (hfollow : v.follow = u.follow) : v.StoreLawful :=
  (h.crawlLaw.congr hconfig hstore hqueue hlead hfollow).storeLawful fun hl =>
    hfollow.trans (h.led (hlead.symm.trans hl))

/-! ## Messages that leave -/

theorem remove_get_ne_none {j : Fin 64} (h : u.store.get j ≠ none) (hj : j ≠ i) : (u.remove i).store.get j ≠ none := by
  have hstore : (u.remove i).store.get j = u.store.get j := Tab.get_set_ne _ _ hj.symm
  rwa [hstore]

/-- An emptied place holds no message. -/
theorem removed_ne {j : Fin 64} (hn : (u.remove i).store.get j = some n) : i ≠ j := fun heq => by
  have hnone : (u.remove i).store.get i = none := Tab.get_set_self ..
  rw [← heq, hnone] at hn
  cases hn

/-- LEAD leaves the crawl and the store. -/
theorem MessageUnit.CrawlLaw.leadGone (h : u.CrawlLaw gap far) (hi : u.lead = some i) (hold : Option Nat) :
    MessageUnit.CrawlLaw { u.remove i with lead := none, hold := hold } gap far := by
  obtain ⟨hstore, hlead, hfollow⟩ := h
  obtain ⟨m, hm⟩ := Option.ne_none_iff_exists'.1 (hlead i hi)
  refine ⟨(hstore.removed i).congr rfl rfl (fun _ => rfl) (fun j n hn => ?_) fun _ _ _ => .rfl, nofun, fun j hj => ?_⟩
  · rw [hi]
    exact ⟨nofun, fun hj => absurd (Option.some.inj hj) (removed_ne hn)⟩
  · rw [hi] at hstore
    refine remove_get_ne_none (hfollow j hj) fun hji => (hstore.places i).apart hm ?_
    rw [← hji]
    exact hj

/-- FOLLOW leaves the crawl and the store. -/
theorem MessageUnit.CrawlLaw.followGone (h : u.CrawlLaw gap far) (hi : u.follow = some i) (hold : Option Nat) :
    MessageUnit.CrawlLaw { u.remove i with follow := none, hold := hold } gap far := by
  obtain ⟨hstore, hlead, hfollow⟩ := h
  obtain ⟨m, hm⟩ := Option.ne_none_iff_exists'.1 (hfollow i hi)
  refine ⟨(hstore.removed i).congr rfl rfl (fun _ => rfl) (fun _ _ _ => .rfl) fun j n hn => ?_, fun j hj => ?_, nofun⟩
  · rw [hi]
    exact ⟨nofun, fun hj => absurd (Option.some.inj hj) (removed_ne hn)⟩
  · refine remove_get_ne_none (hlead j hj) fun hji => ?_
    have hleads : u.lead = some i := hji ▸ hj
    rw [hleads] at hstore
    exact (hstore.places i).apart hm hi

/-- A message that waits leaves the store. -/
theorem MessageUnit.StoreLawful.waitingGone (h : u.StoreLawful) (hm : u.store.get i = some m)
    (hs : m.state = .assembling ∨ m.state = .queued) : (u.remove i).StoreLawful := by
  obtain ⟨hstore, hlead, hfollow⟩ := h.crawlLaw
  obtain ⟨hofflead, hofffollow⟩ := (hstore.places i).off hm hs
  exact MessageUnit.CrawlLaw.storeLawful ⟨hstore.removed i,
    fun j hj => remove_get_ne_none (hlead j hj) fun hji => hofflead (hji ▸ hj),
    fun j hj => remove_get_ne_none (hfollow j hj) fun hji => hofffollow (hji ▸ hj)⟩ h.led

/-! ## Messages that stay -/

theorem set_some_ne_none {j : Fin 64} (h : u.store.get j ≠ none) : (u.store.set i (some n)).get j ≠ none := by
  obtain rfl | hj := eq_or_ne i j
  · rw [Tab.get_set_self]
    exact nofun
  · rwa [Tab.get_set_ne _ _ hj]

/-- A message changes in what the crawl and the queues do not see. -/
theorem MessageUnit.StoreLawful.changed (h : u.StoreLawful) (hm : u.store.get i = some m) (hlawful : n.Lawful)
    (hid : n.id = m.id) (hcls : n.cls = m.cls) (hstate : n.state = m.state) (htravel : n.travel = m.travel) :
    MessageUnit.StoreLawful { u with store := u.store.set i (some n) } := by
  obtain ⟨hstore, hlead, hfollow⟩ := h.crawlLaw
  exact MessageUnit.CrawlLaw.storeLawful ⟨hstore.changed hm hlawful hid hcls hstate htravel,
    fun j hj => set_some_ne_none (hlead j hj), fun j hj => set_some_ne_none (hfollow j hj)⟩ h.led

theorem setQueue_lead (u : MessageUnit) (c : MsgClass) (q : List (Fin 64)) : (u.setQueue c q).lead = u.lead := by
  cases c <;> rfl

theorem setQueue_follows (u : MessageUnit) (c : MsgClass) (q : List (Fin 64)) : (u.setQueue c q).follow = u.follow := by
  cases c <;> rfl

theorem join_config (u : MessageUnit) (i : Fin 64) (m : Message) : (u.join i m).config = u.config := setQueue_config ..

theorem join_lead (u : MessageUnit) (i : Fin 64) (m : Message) : (u.join i m).lead = u.lead := setQueue_lead ..

theorem join_follow (u : MessageUnit) (i : Fin 64) (m : Message) : (u.join i m).follow = u.follow := setQueue_follows ..

theorem join_store (u : MessageUnit) (i : Fin 64) (m : Message) : (u.join i m).store =
    u.store.set i (some { m with state := .queued, order := u.orderCounter + 1 }) := by
  rw [MessageUnit.join, setQueue_store]

theorem join_queue (u : MessageUnit) (i : Fin 64) (m : Message) (c : MsgClass) : (u.join i m).queue c =
    if c = m.cls then u.queue m.cls ++ [i] else u.queue c := by
  rw [← setQueue_queue, MessageUnit.join]
  cases c <;> rfl

/-- A message not QUEUED joins the tail of its class queue and leaves the crawl, if it was on it. -/
theorem MessageUnit.StoreLaw.joined {lead follow lead' follow' : Option (Fin 64)} (h : u.StoreLaw lead follow gap far)
    (hm : u.store.get i = some m) (hwaits : m.state ≠ .queued) (hid : n.id = m.id) (hcls : n.cls = m.cls)
    (hlawful : Message.Lawful { n with state := .queued, order := u.orderCounter + 1 })
    (hlead : ∀ j, lead' = some j ↔ lead = some j ∧ j ≠ i) (hfollow : ∀ j, follow' = some j ↔ follow = some j ∧ j ≠ i) :
    (u.join i n).StoreLaw lead' follow' gap far := by
  refine h.enqueued hm hwaits (join_config ..) (join_store ..) ?_ (fun c hc => ?_) hlawful hid hcls rfl hlead hfollow
  · rw [join_queue, hcls, if_pos rfl]
    exact List.perm_append_singleton ..
  · rw [join_queue, hcls, if_neg hc]

end

/-! ## What every message of the store has -/

/-- Each message of the store at a place of `q` has `p`. -/
def MessageUnit.Each (u : MessageUnit) (q : Fin 64 → Prop) (p : Message → Prop) : Prop :=
  ∀ i m, u.store.get i = some m → q i → p m

section
variable {u v : MessageUnit} {q : Fin 64 → Prop} {p : Message → Prop} {i : Fin 64} {m n : Message}

/-- The place that a message has left needs no check. -/
theorem MessageUnit.Each.removed (h : u.Each (fun j => j ≠ i ∧ q j) p) (hv : v.store = (u.remove i).store) : v.Each q p :=
  fun j n hn hq => by
    rw [hv] at hn
    have hj := removed_ne hn
    exact h j n ((Tab.get_set_ne _ _ hj).symm.trans hn) ⟨hj.symm, hq⟩

theorem MessageUnit.Each.set (h : u.Each q p) (hn : p n) (hv : v.store = u.store.set i (some n)) : v.Each q p :=
  fun j x hx hq => by
    rw [hv] at hx
    obtain rfl | hj := eq_or_ne i j
    · cases (Tab.get_set_self ..).symm.trans hx
      exact hn
    · exact h j x ((Tab.get_set_ne _ _ hj).symm.trans hx) hq

theorem MessageUnit.Each.mono {q' : Fin 64 → Prop} (h : u.Each q p) (hq : ∀ i, q' i → q i) : u.Each q' p :=
  fun i m hm hi => h i m hm (hq i hi)

/-- Only the messages of the crawl can be withdrawing or expiring. -/
theorem MessageUnit.StoreLaw.calm {lead follow : Option (Fin 64)} {gap far : Nat} (h : u.StoreLaw lead follow gap far) :
    u.Each (fun j => lead ≠ some j ∧ follow ≠ some j) fun m => m.expiring = false ∧ m.withdrawing = false :=
  fun i m hm ⟨hlead, hfollow⟩ => by
    refine (((h.places i).message m hm).1.waiting ?_).2
    cases hs : m.state with
    | assembling => exact .inl rfl
    | queued => exact .inr rfl
    | lead => exact absurd (((h.places i).lead m hm).2 hs) hlead
    | follow => exact absurd (((h.places i).follow m hm).2 hs) hfollow

end

/-! ## Withdrawals and promotion -/

section
variable {s : State} {gap far : Nat} {place : Option (Fin 64)} {q : Fin 64 → Prop} {p : Message → Prop}

theorem withdrawLead_crawlLaw (h : s.message.CrawlLaw gap far) :
    (withdrawAt s.message.lead clearLead s).message.CrawlLaw gap far := by
  obtain ⟨i, m, hm⟩ | hnone := onCrawl_or s.message.lead s
  · rw [withdrawAt_on hm]
    split
    · obtain ⟨hold, hmessage⟩ := removeWith_message (clearLead s) 0 i (postWithdrawn_message · 0 1 m)
      rw [hmessage]
      exact h.leadGone hm.1 hold
    · exact h
  · rwa [withdrawAt_off hnone]

theorem withdrawFollow_crawlLaw (h : s.message.CrawlLaw gap far) :
    (withdrawAt s.message.follow clearFollow s).message.CrawlLaw gap far := by
  obtain ⟨i, m, hm⟩ | hnone := onCrawl_or s.message.follow s
  · rw [withdrawAt_on hm]
    split
    · obtain ⟨hold, hmessage⟩ := removeWith_message (clearFollow s) 0 i (postWithdrawn_message · 0 1 m)
      rw [hmessage]
      exact h.followGone hm.1 hold
    · exact h
  · rwa [withdrawAt_off hnone]

/-- After its withdrawal a place holds no message that is withdrawing. -/
theorem withdrawAt_each {vacate : State → State} (hv : (vacate s).message.store = s.message.store)
    (h : s.message.Each (fun j => place ≠ some j ∧ q j) fun m => m.withdrawing = false) :
    (withdrawAt place vacate s).message.Each q fun m => m.withdrawing = false := by
  obtain ⟨i, m, hm⟩ | hnone := onCrawl_or place s
  · rw [withdrawAt_on hm]
    obtain ⟨rfl, hm⟩ := hm
    split
    · obtain ⟨hold, hmessage⟩ := removeWith_message (vacate s) 0 i (postWithdrawn_message · 0 1 m)
      rw [hmessage]
      refine MessageUnit.Each.removed (u := s.message) (h.mono fun j hj => ⟨fun hji => hj.1 (Option.some.inj hji).symm, hj.2⟩) ?_
      exact congrArg (fun t : Tab (Option Message) 64 => t.set i none) hv
    next hw =>
      intro j n hn hq
      obtain rfl | hj := eq_or_ne i j
      · cases hm.symm.trans hn
        exact Bool.eq_false_of_not_eq_true hw
      · exact h j n hn ⟨fun hji => hj (Option.some.inj hji), hq⟩
  · rw [withdrawAt_off hnone]
    exact fun j n hn hq => h j n hn ⟨fun hj => hnone j n ⟨hj, hn⟩, hq⟩

theorem withdrawLead_follow (s : State) : (withdrawAt s.message.lead clearLead s).message.follow = s.message.follow := by
  obtain ⟨i, m, hm⟩ | hnone := onCrawl_or s.message.lead s
  · rw [withdrawAt_on hm]
    split
    · obtain ⟨hold, hmessage⟩ := removeWith_message (clearLead s) 0 i (postWithdrawn_message · 0 1 m)
      rw [hmessage]
      rfl
    · rfl
  · rw [withdrawAt_off hnone]

theorem promote_crawlLaw (h : s.message.CrawlLaw gap far) : (promote s).message.CrawlLaw gap far := by
  unfold promote
  split
  next i hlead hfollow =>
    obtain ⟨hstore, -, hfollows⟩ := h
    obtain ⟨m, hm⟩ := Option.ne_none_iff_exists'.1 (hfollows i hfollow)
    rw [hlead, hfollow] at hstore
    rw [State.withMessage_message, update_eq _ hm]
    refine ⟨(hstore.promoted hm).congr rfl rfl (fun _ => rfl) (fun _ _ _ => .rfl) fun _ _ _ => .rfl, fun j hj => ?_, nofun⟩
    obtain rfl := Option.some.inj hj
    exact set_some_ne_none (hfollows i hfollow)
  · exact h

theorem promote_led (s : State) : (promote s).message.Led := by
  unfold promote
  split
  · exact nofun
  next hno => exact fun hlead => Option.eq_none_iff_forall_ne_some.2 fun j hj => hno j hlead hj

/-- What a change of the state of a message leaves it is left by promotion. -/
theorem promote_each (hp : ∀ m, p m → p { m with state := .lead }) (h : s.message.Each (fun _ => True) p) :
    (promote s).message.Each (fun _ => True) p := by
  unfold promote
  split
  next i _ _ =>
    cases hm : s.message.store.get i with
    | none =>
      rw [update_none _ hm]
      exact h
    | some m =>
      rw [update_eq _ hm]
      exact h.set (hp m (h i m hm trivial)) rfl
  · exact h

theorem crawlWithdrawals_crawlLaw (h : s.message.CrawlLaw gap far) : (crawlWithdrawals s).message.CrawlLaw gap far :=
  promote_crawlLaw (withdrawFollow_crawlLaw (withdrawLead_crawlLaw h))

/-- R190: after the withdrawals no message is withdrawing. -/
theorem crawlWithdrawals_each (h : s.message.CrawlLaw gap far) :
    (crawlWithdrawals s).message.Each (fun _ => True) fun m => m.withdrawing = false := by
  have hlead : (withdrawAt s.message.lead clearLead s).message.Each (fun j => s.message.follow ≠ some j)
      fun m => m.withdrawing = false := withdrawAt_each rfl fun i m hm hi => (h.store.calm i m hm hi).2
  refine promote_each (fun m hm => hm) (withdrawAt_each (vacate := clearFollow) rfl (hlead.mono fun j hj => ?_))
  rw [← withdrawLead_follow]
  exact hj.1

/-! ## Suspension -/

section
variable {lead follow : Option (Fin 64)}

theorem suspendExpiring_storeLaw (place : Option (Fin 64)) (h : s.message.StoreLaw lead follow gap far) :
    (suspendExpiring place s).message.StoreLaw lead follow gap far := by
  obtain ⟨i, m, hm⟩ | hnone := onCrawl_or place s
  · rw [suspendExpiring_on hm]
    split
    · obtain ⟨hold, hmessage⟩ := removeWith_message s 0 i (postMessageExpired_message · m)
      rw [hmessage]
      exact (h.removed i).congr rfl rfl (fun _ => rfl) (fun _ _ _ => .rfl) fun _ _ _ => .rfl
    · exact h
  · rwa [suspendExpiring_off hnone]

/-- After its suspension a place holds no message that is expiring. -/
theorem suspendExpiring_each (h : s.message.Each (fun _ => True) fun m => m.withdrawing = false)
    (hcalm : s.message.Each (fun j => place ≠ some j ∧ q j) fun m => m.expiring = false ∧ m.withdrawing = false) :
    (suspendExpiring place s).message.Each q fun m => m.expiring = false ∧ m.withdrawing = false := by
  obtain ⟨i, m, hm⟩ | hnone := onCrawl_or place s
  · rw [suspendExpiring_on hm]
    obtain ⟨rfl, hm⟩ := hm
    split
    · obtain ⟨hold, hmessage⟩ := removeWith_message s 0 i (postMessageExpired_message · m)
      rw [hmessage]
      exact MessageUnit.Each.removed (u := s.message)
        (hcalm.mono fun j hj => ⟨fun hji => hj.1 (Option.some.inj hji).symm, hj.2⟩) rfl
    next he =>
      intro j n hn hq
      obtain rfl | hj := eq_or_ne i j
      · cases hm.symm.trans hn
        exact ⟨Bool.eq_false_of_not_eq_true he, h i m hm trivial⟩
      · exact hcalm j n hn ⟨fun hji => hj (Option.some.inj hji), hq⟩
  · rw [suspendExpiring_off hnone]
    exact fun j n hn hq => hcalm j n hn ⟨fun hj => hnone j n ⟨hj, hn⟩, hq⟩

theorem suspendExpiring_kept (h : s.message.Each (fun _ => True) p) :
    (suspendExpiring place s).message.Each (fun _ => True) p := by
  obtain ⟨i, m, hm⟩ | hnone := onCrawl_or place s
  · rw [suspendExpiring_on hm]
    split
    · obtain ⟨hold, hmessage⟩ := removeWith_message s 0 i (postMessageExpired_message · m)
      rw [hmessage]
      exact MessageUnit.Each.removed (h.mono fun _ _ => trivial) rfl
    · exact h
  · rwa [suspendExpiring_off hnone]

/-- A message taken off the crawl waits in its ranges. -/
theorem Message.Lawful.waits {m : Message} (h : m.Lawful) (hcalm : m.expiring = false ∧ m.withdrawing = false)
    (repeats : Nat) (hrepeats : 1 ≤ repeats ∧ repeats ≤ 15) (order : Count) :
    Message.Lawful { m with state := .queued, repeats := repeats, travel := 0, order := order } :=
  ⟨h.length, hrepeats, h.lifetime, fun _ => ⟨rfl, hcalm⟩⟩

/-- A message of the crawl stands at the head of its class queue again. -/
theorem returnToHead_onCrawl {lead' follow' : Option (Fin 64)} {i : Fin 64} {m : Message}
    (h : s.message.StoreLaw lead follow gap far) (hm : OnCrawl place s i m) (hwaits : m.state ≠ .queued)
    (hcalm : m.expiring = false ∧ m.withdrawing = false)
    (hlead : ∀ j, lead' = some j ↔ lead = some j ∧ j ≠ i) (hfollow : ∀ j, follow' = some j ↔ follow = some j ∧ j ≠ i) :
    (returnToHead place s).message.StoreLaw lead' follow' gap far := by
  have hlawful := ((h.places i).message m hm.2).1
  have hqueue : ∀ c, (returnToHead place s).message.queue c = (s.message.setQueue m.cls (i :: s.message.queue m.cls)).queue c :=
    fun c => by
      rw [returnToHead_on hm]
      cases c <;> rfl
  refine h.enqueued (n := { m with state := .queued, travel := 0 }) hm.2 hwaits ?_ ?_ ?_ (fun c hc => ?_)
    (hlawful.waits hcalm m.repeats hlawful.repeats m.order) rfl rfl rfl hlead hfollow
  · rw [returnToHead_on hm]
    exact setQueue_config ..
  · rw [returnToHead_on hm]
    rfl
  · rw [hqueue, setQueue_queue, if_pos rfl]
  · rw [hqueue, setQueue_queue, if_neg hc]

theorem returnFollow_storeLaw (h : s.message.StoreLaw lead follow gap far)
    (hcalm : s.message.Each (fun _ => True) fun m => m.expiring = false ∧ m.withdrawing = false) :
    (returnToHead follow s).message.StoreLaw lead none gap far := by
  obtain ⟨i, m, hm⟩ | hnone := onCrawl_or follow s
  · obtain ⟨rfl, hi⟩ := hm
    have hfollows : m.state = .follow := ((h.places i).follow m hi).1 rfl
    refine returnToHead_onCrawl h ⟨rfl, hi⟩ (by rw [hfollows]; exact nofun) (hcalm i m hi trivial) (fun j => ?_) fun j => ?_
    · refine ⟨fun hj => ⟨hj, fun hji => ?_⟩, fun hj => hj.1⟩
      have hleads : m.state = .lead := ((h.places i).lead m hi).1 (hji ▸ hj)
      exact nomatch hfollows.symm.trans hleads
    · exact ⟨nofun, fun hj => absurd (Option.some.inj hj.1).symm hj.2⟩
  · rw [returnToHead_off hnone]
    exact h.congr rfl rfl (fun _ => rfl) (fun _ _ _ => .rfl) fun j n hn => ⟨nofun, fun hj => absurd ⟨hj, hn⟩ (hnone j n)⟩

theorem returnLead_storeLaw (h : s.message.StoreLaw lead none gap far)
    (hcalm : s.message.Each (fun _ => True) fun m => m.expiring = false ∧ m.withdrawing = false) :
    (returnToHead lead s).message.StoreLaw none none gap far := by
  obtain ⟨i, m, hm⟩ | hnone := onCrawl_or lead s
  · obtain ⟨rfl, hi⟩ := hm
    have hleads : m.state = .lead := ((h.places i).lead m hi).1 rfl
    refine returnToHead_onCrawl h ⟨rfl, hi⟩ (by rw [hleads]; exact nofun) (hcalm i m hi trivial) (fun j => ?_)
      fun j => ⟨nofun, fun hj => nomatch hj.1⟩
    exact ⟨nofun, fun hj => absurd (Option.some.inj hj.1).symm hj.2⟩
  · rw [returnToHead_off hnone]
    exact h.congr rfl rfl (fun _ => rfl) (fun j n hn => ⟨nofun, fun hj => absurd ⟨hj, hn⟩ (hnone j n)⟩) fun _ _ _ => .rfl

theorem returnToHead_each (hp : ∀ m, p m → p { m with state := .queued, travel := 0 })
    (h : s.message.Each (fun _ => True) p) : (returnToHead place s).message.Each (fun _ => True) p := by
  obtain ⟨i, m, hm⟩ | hnone := onCrawl_or place s
  · rw [returnToHead_on hm]
    exact h.set (hp m (h i m hm.2 trivial)) rfl
  · rwa [returnToHead_off hnone]

/-- R193: the suspended crawl is empty, and its messages wait or are gone. -/
theorem suspendCrawl_crawlLaw (h : s.message.CrawlLaw gap far)
    (hkept : s.message.Each (fun _ => True) fun m => m.withdrawing = false) :
    (suspendCrawl s).message.CrawlLaw gap far ∧ (suspendCrawl s).message.Led := by
  obtain ⟨-, hlead, hfollow⟩ := suspendCrawl_message s
  suffices hstore : (suspendCrawl s).message.StoreLaw none none gap far by
    refine ⟨⟨?_, fun i hi => (nomatch hlead.symm.trans hi), fun i hi => (nomatch hfollow.symm.trans hi)⟩, fun _ => hfollow⟩
    rw [hlead, hfollow]
    exact hstore
  have hcleared : (clearLead (clearFollow s)).message.StoreLaw s.message.lead s.message.follow gap far :=
    h.store.congr rfl rfl (fun _ => rfl) (fun _ _ _ => .rfl) fun _ _ _ => .rfl
  have hfirst := suspendExpiring_storeLaw s.message.lead hcleared
  have hsecond := suspendExpiring_storeLaw s.message.follow hfirst
  have hfirstCalm := suspendExpiring_each (s := clearLead (clearFollow s)) (place := s.message.lead)
    (q := fun j => s.message.follow ≠ some j ∧ True) hkept
    (hcleared.calm.mono fun j hj => ⟨hj.1, hj.2.1⟩)
  have hcalm := suspendExpiring_each (q := fun _ => True)
    (suspendExpiring_kept (s := clearLead (clearFollow s)) (place := s.message.lead) hkept) hfirstCalm
  exact returnLead_storeLaw (returnFollow_storeLaw hsecond hcalm) (returnToHead_each (fun _ hm => hm) hcalm)

end

/-! ## Advance -/

/-- A message further on than `far` asked for. -/
theorem MessageUnit.StoreLaw.further {u : MessageUnit} {lead follow : Option (Fin 64)} {gap' far' : Nat}
    (h : u.StoreLaw lead follow gap far) (hfar : far ≤ far') (hbehind : u.Behind lead follow gap') :
    u.StoreLaw lead follow gap' far' :=
  ⟨h.config, fun i => ⟨fun m hm => ⟨((h.places i).message m hm).1, Nat.lt_of_lt_of_le ((h.places i).message m hm).2 hfar⟩,
    (h.places i).lead, (h.places i).follow, (h.places i).queued⟩, h.ids, hbehind, h.once⟩

/-- A message of the crawl travels on. -/
theorem MessageUnit.StoreLaw.moved {u : MessageUnit} {lead follow : Option (Fin 64)} {gap' : Nat} {i : Fin 64} {m : Message}
    (h : u.StoreLaw lead follow gap far) (hm : u.store.get i = some m) (hon : m.state = .lead ∨ m.state = .follow) (k : Nat)
    (hbehind : MessageUnit.Behind { u with store := u.store.set i (some { m with travel := m.travel + k }) } lead follow gap') :
    MessageUnit.StoreLaw { u with store := u.store.set i (some { m with travel := m.travel + k }) } lead follow gap'
      (far + k) := by
  obtain ⟨hmessage, hlead, hfollow, -⟩ := h.places i
  obtain ⟨⟨hlength, hrepeats, hlifetime, -⟩, htravel⟩ := hmessage m hm
  have hset : (u.store.set i (some { m with travel := m.travel + k })).get i = some { m with travel := m.travel + k } :=
    Tab.get_set_self ..
  have hqueue := (h.places i).mem_queue hm
  refine (h.further (Nat.le_add_right far k) h.behind).replaced (i := i) ⟨rfl, fun j hj => Tab.get_set_ne _ _ hj.symm,
    fun _ _ _ => .rfl, fun _ _ => .rfl, fun _ _ => .rfl⟩
    (.of_some hset ⟨hlength, hrepeats, hlifetime, fun hs => absurd hs (onCrawl_not_waiting hon)⟩
      (Nat.add_lt_add_right htravel k) (hlead m hm) (hfollow m hm)
      hqueue) (h.sameId (n := { m with travel := m.travel + k }) hm rfl hset) hbehind h.once

theorem advanceAt_fields (place : Option (Fin 64)) (s : State) : (advanceAt place s).message.lead = s.message.lead ∧
    (advanceAt place s).message.follow = s.message.follow := by
  unfold advanceAt
  split <;> exact ⟨rfl, rfl⟩

theorem advanceAt_occupied {i : Fin 64} (h : s.message.store.get i ≠ none) :
    (advanceAt place s).message.store.get i ≠ none := by
  obtain ⟨j, m, hm⟩ | hnone := onCrawl_or place s
  · rw [advanceAt_on hm]
    exact set_some_ne_none h
  · rwa [advanceAt_off hnone]

theorem advanceAt_each (hp : ∀ m k, p m → p { m with travel := m.travel + k }) (h : s.message.Each (fun _ => True) p) :
    (advanceAt place s).message.Each (fun _ => True) p := by
  obtain ⟨i, m, hm⟩ | hnone := onCrawl_or place s
  · rw [advanceAt_on hm]
    exact h.set (hp m _ (h i m hm.2 trivial)) rfl
  · rwa [advanceAt_off hnone]

/-- LEAD advances first and leaves FOLLOW behind by the speed. -/
theorem advanceLead_crawlLaw (h : s.message.CrawlLaw 0 far) : (advanceAt s.message.lead s).message.CrawlLaw
    s.message.config.speed (far + s.message.config.speed) := by
  obtain ⟨hstore, hlead, hfollow⟩ := h
  obtain ⟨hl, hf⟩ := advanceAt_fields s.message.lead s
  refine ⟨?_, fun i hi => advanceAt_occupied (hlead i (hl.symm.trans hi)),
    fun i hi => advanceAt_occupied (hfollow i (hf.symm.trans hi))⟩
  rw [hl, hf]
  obtain ⟨i, m, hm⟩ | hnone := onCrawl_or s.message.lead s
  · obtain ⟨hi, hm⟩ := hm
    rw [advanceAt_on ⟨hi, hm⟩]
    refine hstore.moved hm (.inl (((hstore.places i).lead m hm).1 hi)) _ fun j k x y hj hk hx hy => ?_
    obtain rfl := Option.some.inj (hi.symm.trans hj)
    cases (Tab.get_set_self ..).symm.trans hx
    have hik : i ≠ k := fun heq => by
      rw [hi] at hstore
      exact (hstore.places i).apart hm (heq ▸ hk)
    have hle : y.travel + 0 ≤ m.travel := hstore.behind i k m y hi hk hm ((Tab.get_set_ne _ _ hik).symm.trans hy)
    exact Nat.add_le_add_right hle _
  · rw [advanceAt_off hnone]
    exact hstore.further (Nat.le_add_right ..) fun i j m n hi _ hm => absurd ⟨hi, hm⟩ (hnone i m)

/-- FOLLOW advances after it by the same speed. -/
theorem advanceFollow_crawlLaw (h : s.message.CrawlLaw s.message.config.speed far) :
    (advanceAt s.message.follow s).message.CrawlLaw 0 (far + s.message.config.speed) := by
  obtain ⟨hstore, hlead, hfollow⟩ := h
  obtain ⟨hl, hf⟩ := advanceAt_fields s.message.follow s
  refine ⟨?_, fun i hi => advanceAt_occupied (hlead i (hl.symm.trans hi)),
    fun i hi => advanceAt_occupied (hfollow i (hf.symm.trans hi))⟩
  rw [hl, hf]
  obtain ⟨j, n, hn⟩ | hnone := onCrawl_or s.message.follow s
  · obtain ⟨hj, hn⟩ := hn
    rw [advanceAt_on ⟨hj, hn⟩]
    refine hstore.moved hn (.inr (((hstore.places j).follow n hn).1 hj)) _ fun i k x y hi hk hx hy => ?_
    obtain rfl := Option.some.inj (hj.symm.trans hk)
    cases (Tab.get_set_self ..).symm.trans hy
    have hji : j ≠ i := fun heq => by
      rw [hi] at hstore
      rw [heq] at hn hj
      exact (hstore.places i).apart hn hj
    exact hstore.behind i j x n hi hj ((Tab.get_set_ne _ _ hji).symm.trans hx) hn
  · rw [advanceAt_off hnone]
    exact hstore.further (Nat.le_add_right ..) fun i j m n _ hj _ hn => absurd ⟨hj, hn⟩ (hnone j n)

/-! ## The finish of a LEAD -/

/-- LEAD has travelled no further than a strip and a message can be wide. -/
def MessageUnit.Near (u : MessageUnit) : Prop :=
  ∀ i m, u.lead = some i → u.store.get i = some m → m.travel < farthest

theorem finished_fields (i : Fin 64) (m : Message) (s : State) : (finished i m s).message.lead = none ∧
    (finished i m s).message.follow = s.message.follow := by
  have hremoved : ∀ {post : State → State}, (∀ t, (post t).message = t.message) →
      (removeWith 0 i post (clearLead s)).message.lead = none ∧
      (removeWith 0 i post (clearLead s)).message.follow = s.message.follow := fun hpost => by
    obtain ⟨hold, hmessage⟩ := removeWith_message (clearLead s) 0 i hpost
    rw [hmessage]
    exact ⟨rfl, rfl⟩
  unfold finished
  split
  · exact hremoved (postMessageExpired_message · m)
  · split
    · exact hremoved (postRetired_message · m)
    · exact ⟨join_lead .., join_follow ..⟩

theorem finished_crawlLaw {i : Fin 64} {m : Message} (h : s.message.CrawlLaw gap far) (hm : OnCrawl s.message.lead s i m)
    (hkept : m.withdrawing = false) : (finished i m s).message.CrawlLaw gap far := by
  obtain ⟨hi, hm⟩ := hm
  have hremoved : ∀ {post : State → State}, (∀ t, (post t).message = t.message) →
      (removeWith 0 i post (clearLead s)).message.CrawlLaw gap far := fun hpost => by
    obtain ⟨hold, hmessage⟩ := removeWith_message (clearLead s) 0 i hpost
    rw [hmessage]
    exact h.leadGone hi hold
  unfold finished
  split
  · exact hremoved (postMessageExpired_message · m)
  next he =>
    split
    · exact hremoved (postRetired_message · m)
    next hr =>
      obtain ⟨hstore, -, hfollow⟩ := h
      have hlawful := ((hstore.places i).message m hm).1
      have hleads : m.state = .lead := ((hstore.places i).lead m hm).1 hi
      have happart : s.message.follow ≠ some i := by
        rw [hi] at hstore
        exact (hstore.places i).apart hm
      have hcleared : (clearLead s).message.StoreLaw s.message.lead s.message.follow gap far :=
        hstore.congr rfl rfl (fun _ => rfl) (fun _ _ _ => .rfl) fun _ _ _ => .rfl
      rw [State.withMessage_message]
      refine ⟨?_, fun j hj => ?_, fun j hj => ?_⟩
      · rw [join_lead, join_follow]
        refine hcleared.joined hm (by rw [hleads]; exact nofun) rfl rfl
          (hlawful.waits ⟨Bool.eq_false_of_not_eq_true he, hkept⟩ (m.repeats - 1)
            ⟨by omega, Nat.le_trans (Nat.sub_le ..) hlawful.repeats.2⟩ _) (fun j => ?_) fun j => ?_
        · rw [hi]
          exact ⟨nofun, fun hj => absurd (Option.some.inj hj.1).symm hj.2⟩
        · exact ⟨fun hj => ⟨hj, fun hji => happart (hji ▸ hj)⟩, fun hj => hj.1⟩
      · rw [join_lead] at hj
        cases hj
      · rw [join_follow] at hj
        rw [join_store]
        exact set_some_ne_none (u := (clearLead s).message) (hfollow j hj)

theorem finished_each {i : Fin 64} {m : Message} (hm : OnCrawl s.message.lead s i m)
    (h : s.message.Each (fun _ => True) fun m => m.withdrawing = false) :
    (finished i m s).message.Each (fun _ => True) fun m => m.withdrawing = false := by
  have hremoved : ∀ {post : State → State}, (∀ t, (post t).message = t.message) →
      (removeWith 0 i post (clearLead s)).message.Each (fun _ => True) fun m => m.withdrawing = false := fun hpost => by
    obtain ⟨hold, hmessage⟩ := removeWith_message (clearLead s) 0 i hpost
    rw [hmessage]
    exact MessageUnit.Each.removed (u := s.message) (h.mono fun _ _ => trivial) rfl
  unfold finished
  split
  · exact hremoved (postMessageExpired_message · m)
  · split
    · exact hremoved (postRetired_message · m)
    · refine MessageUnit.Each.set (u := s.message) h ?_
        (join_store (clearLead s).message i { m with repeats := m.repeats - 1, travel := 0 })
      exact h i m hm.2 trivial

theorem finishLead_crawlLaw (h : s.message.CrawlLaw gap far) (hled : s.message.Led)
    (hkept : s.message.Each (fun _ => True) fun m => m.withdrawing = false) :
    (finishLead s).message.CrawlLaw gap far ∧ (finishLead s).message.Led ∧
    (finishLead s).message.Each (fun _ => True) fun m => m.withdrawing = false := by
  obtain ⟨i, m, hm⟩ | hnone := onCrawl_or s.message.lead s
  · rw [finishLead_on hm]
    split
    · exact ⟨promote_crawlLaw (finished_crawlLaw h hm (hkept i m hm.2 trivial)), promote_led _,
        promote_each (fun _ hm => hm) (finished_each hm hkept)⟩
    · exact ⟨h, hled, hkept⟩
  · rw [finishLead_off hnone]
    exact ⟨h, hled, hkept⟩

/-- A LEAD that does not finish is near; one that does leaves at most FOLLOW, as LEAD. -/
theorem finishLead_or (h : s.message.CrawlLaw gap far) : (finishLead s = s ∧ s.message.Near) ∨
    ((finishLead s).message.follow = none ∧ (s.message.follow = none → (finishLead s).message.lead = none)) := by
  obtain ⟨i, m, hm⟩ | hnone := onCrawl_or s.message.lead s
  · rw [finishLead_on hm]
    split
    · obtain ⟨hlead, hfollow⟩ := finished_fields i m s
      refine .inr ⟨?_, fun hnone => ?_⟩
      · unfold promote
        split
        · rfl
        next hno => exact Option.eq_none_iff_forall_ne_some.2 fun j hj => hno j hlead hj
      · rw [(promote_spec _).2 (.inr (hfollow.trans hnone)), hlead]
    next hshort =>
      refine .inl ⟨rfl, fun j n hj hn => ?_⟩
      obtain ⟨rfl, rfl⟩ := onCrawl_unique hm ⟨hj, hn⟩
      have hwide : wide s m ≤ 160 * 16 * 8 :=
        Nat.mul_le_mul (Nat.mul_le_mul_right 16 ((h.store.places i).message m hm.2).1.length.2) h.store.config.scale.2
      have hstrip := h.store.config.width.2
      show m.travel < 16384 + 160 * 16 * 8
      omega
  · exact .inl ⟨finishLead_off hnone, fun i m hi hm => absurd ⟨hi, hm⟩ (hnone i m)⟩

/-- After two finishes LEAD is near. -/
theorem finishLead_near (h : s.message.CrawlLaw gap far) (hfinished : (finishLead s).message.CrawlLaw gap far) :
    (finishLead (finishLead s)).message.Near := by
  obtain ⟨hsame, hnear⟩ | ⟨hfollow, -⟩ := finishLead_or h
  · rw [hsame, hsame]
    exact hnear
  · obtain ⟨hsame, hnear⟩ | ⟨-, hlead⟩ := finishLead_or hfinished
    · rw [hsame]
      exact hnear
    · exact fun i m hi => nomatch (hlead hfollow).symm.trans hi

/-- With a near LEAD no message is far: FOLLOW is behind it, and every other one has travelled nothing. -/
theorem MessageUnit.CrawlLaw.settled {u : MessageUnit} (h : u.CrawlLaw 0 far) (hled : u.Led) (hnear : u.Near) :
    u.CrawlLaw 0 farthest := by
  obtain ⟨hstore, hlead, hfollow⟩ := h
  refine ⟨⟨hstore.config, fun i => ⟨fun m hm => ?_, (hstore.places i).lead, (hstore.places i).follow,
    (hstore.places i).queued⟩, hstore.ids, hstore.behind, hstore.once⟩, hlead, hfollow⟩
  have hlawful := ((hstore.places i).message m hm).1
  refine ⟨hlawful, ?_⟩
  have hwaits : m.state = .assembling ∨ m.state = .queued → m.travel < farthest := fun hs => by
    rw [(hlawful.waiting hs).1]
    decide
  cases hs : m.state with
  | assembling => exact hwaits (.inl hs)
  | queued => exact hwaits (.inr hs)
  | lead => exact hnear i m (((hstore.places i).lead m hm).2 hs) hm
  | follow =>
    have hi := ((hstore.places i).follow m hm).2 hs
    obtain ⟨j, hj⟩ := Option.ne_none_iff_exists'.1 (mt hled (by rw [hi]; exact nofun))
    obtain ⟨n, hn⟩ := Option.ne_none_iff_exists'.1 (hlead j hj)
    exact Nat.lt_of_le_of_lt (hstore.behind j i n m hj hi hn hm) (hnear j n hj hn)

/-- R191: both advance, and LEAD may finish twice. -/
theorem crawlAdvance_crawlLaw (h : s.message.CrawlLaw 0 far) (hled : s.message.Led)
    (hkept : s.message.Each (fun _ => True) fun m => m.withdrawing = false) :
    (crawlAdvance s).message.CrawlLaw 0 farthest ∧ (crawlAdvance s).message.Led := by
  obtain ⟨hlead, hfollow⟩ := advanceAt_fields s.message.lead s
  obtain ⟨hlead', hfollow'⟩ := advanceAt_fields s.message.follow (advanceAt s.message.lead s)
  have hspeed := advanceLead_crawlLaw h
  rw [← advanceAt_config s s.message.lead] at hspeed
  have hadvanced := advanceFollow_crawlLaw hspeed
  rw [hfollow] at hadvanced
  have hadvancedLed : (advanceAt s.message.follow (advanceAt s.message.lead s)).message.Led := fun hnone => by
    rw [hfollow', hfollow]
    exact hled (hlead.symm.trans (hlead'.symm.trans hnone))
  have heach := advanceAt_each (place := s.message.follow) (fun _ _ hm => hm)
    (advanceAt_each (place := s.message.lead) (fun _ _ hm => hm) hkept)
  obtain ⟨hfirst, hfirstLed, hfirstEach⟩ := finishLead_crawlLaw hadvanced hadvancedLed heach
  obtain ⟨hsecond, hsecondLed, -⟩ := finishLead_crawlLaw hfirst hfirstLed hfirstEach
  exact ⟨hsecond.settled hsecondLed (finishLead_near hadvanced hfirst), hsecondLed⟩

/-! ## Admission -/

/-- R192: the head of the highest non-empty class queue enters. -/
theorem crawlAdmit_crawlLaw (h : s.message.CrawlLaw 0 far) (hled : s.message.Led) :
    (crawlAdmit s).message.CrawlLaw 0 far ∧ (crawlAdmit s).message.Led := by
  unfold crawlAdmit
  split
  next hcan =>
    split
    · exact ⟨h, hled⟩
    next c _ =>
      split
      · exact ⟨h, hled⟩
      next i rest hhead =>
        obtain ⟨hstore, hlead, hfollow⟩ := h
        have hnone := ((canAdmit_iff s).1 hcan).1
        obtain ⟨m, hm, -⟩ := ((hstore.places i).queued c).1 (by rw [hhead]; exact List.mem_cons_self)
        have hplace : (s.message.setQueue c rest).store.get i = some m := by rwa [setQueue_store]
        dsimp only [State.withMessage_message]
        rw [update_eq _ hplace, setQueue_store]
        have hoccupied : ∀ {state : MsgState} {j : Fin 64}, s.message.store.get j ≠ none →
            (s.message.store.set i (some { m with state := state, travel := 0 })).get j ≠ none := set_some_ne_none
        have hself : ∀ {state : MsgState} {j : Fin 64}, some i = some j →
            (s.message.store.set i (some { m with state := state, travel := 0 })).get j ≠ none := fun hij => by
          rw [← Option.some.inj hij, Tab.get_set_self]
          exact nofun
        cases hl : s.message.lead with
        | none =>
          have hentered := hstore.entered (lead' := some i) (follow' := none) hhead hm (.inl ⟨rfl, rfl, hl, rfl, hnone⟩)
          have hempty : (s.message.setQueue c rest).follow = none := (setQueue_follows ..).trans hnone
          refine ⟨⟨?_, fun j hj => hself hj, fun j hj => (nomatch hempty.symm.trans hj)⟩, nofun⟩
          exact hentered.congr rfl rfl (fun d => by cases d <;> rfl) (fun _ _ _ => .rfl) fun j n _ =>
            iff_of_eq (congrArg (· = some j) hempty)
        | some k =>
          have hentered := hstore.entered (lead' := s.message.lead) (follow' := some i) hhead hm (.inr ⟨rfl, rfl, rfl, hnone⟩)
          have hleads : (s.message.setQueue c rest).lead = some k := (setQueue_lead ..).trans hl
          refine ⟨⟨?_, fun j hj => hoccupied (hlead j ((setQueue_lead ..).symm.trans hj)), fun j hj => hself hj⟩,
            fun hno => nomatch hleads.symm.trans hno⟩
          exact hentered.congr rfl rfl (fun d => by cases d <;> rfl)
            (fun j n _ => iff_of_eq (congrArg (· = some j) (setQueue_lead ..))) fun _ _ _ => .rfl
  · exact ⟨h, hled⟩

end

end Sys2Proof.Machine
end

section
/-! SUPPORT. The law of the message store through every operation of chapter 10, and through every step. -/

namespace Sys2Proof.Machine

section
variable {s : State} {u v : MessageUnit} {i : Fin 64} {m : Message}

theorem crawlMoved_storeLawful (z : Fin 4) (h : s.message.CrawlLaw 0 farthest) (hled : s.message.Led)
    (hkept : s.message.Each (fun _ => True) fun m => m.withdrawing = false) :
    (crawlMoved z s).message.StoreLawful := by
  unfold crawlMoved
  split
  · obtain ⟨hlaw, hled'⟩ := suspendCrawl_crawlLaw h hkept
    exact hlaw.storeLawful hled'
  · obtain ⟨hadvanced, hadvancedLed⟩ := crawlAdvance_crawlLaw h hled hkept
    obtain ⟨hlaw, hled'⟩ := crawlAdmit_crawlLaw hadvanced hadvancedLed
    exact hlaw.storeLawful hled'

/-- R190: the message unit at a frame start. -/
theorem crawlFrameStart_storeLawful (z : Fin 4) (h : s.message.StoreLawful) :
    (crawlFrameStart z s).message.StoreLawful := by
  by_cases hpace : s.message.config.paceZone = z
  · rw [crawlFrameStart_pace z hpace]
    exact (crawlMoved_storeLawful z (crawlWithdrawals_crawlLaw h.crawlLaw) (promote_led _)
      (crawlWithdrawals_each h.crawlLaw)).congr rfl rfl (fun _ => rfl) rfl rfl
  · rwa [crawlFrameStart, if_neg hpace]

theorem testHold_storeLawful (tag : BitVec 16) (h : s.message.StoreLawful) : (testHold tag s).message.StoreLawful := by
  rw [testHold_message]
  exact h.congr rfl rfl (fun _ => rfl) rfl rfl

theorem expireAt_storeLawful (h : s.message.StoreLawful) : (expireAt i s).message.StoreLawful := by
  cases hm : s.message.store.get i with
  | none => rwa [expireAt_empty hm]
  | some m =>
    by_cases hr : Reached m s.timing.uptime
    · have hcases : (m.state = .assembling ∨ m.state = .queued) ∨ m.state = .lead ∨ m.state = .follow := by
        cases m.state <;> simp
      obtain hwaits | hon := hcases
      · rw [expireAt_removes hm hr hwaits, offer_message]
        exact h.waitingGone hm hwaits
      · rw [expireAt_marks hm hr hon]
        obtain ⟨hlength, hrepeats, hlifetime, -⟩ := h.messages i m hm
        exact h.changed hm ⟨hlength, hrepeats, hlifetime, fun hs => absurd hs (onCrawl_not_waiting hon)⟩ rfl rfl rfl rfl
    · rwa [expireAt_early hm hr]

theorem foldl_expired_storeLawful (l : List (Fin 64)) (h : s.message.StoreLawful) :
    (l.foldl (fun t i => expireAt i t) s).message.StoreLawful := by
  induction l generalizing s with
  | nil => exact h
  | cons i l ih => exact ih (expireAt_storeLawful h)

theorem pulseMessages_storeLawful (h : s.message.StoreLawful) : (pulseMessages s).message.StoreLawful := by
  obtain ⟨hold, hmessage⟩ := pulseMessages_message s
  have hexpired := foldl_expired_storeLawful (List.finRange 64) h
  rw [hmessage]
  generalize (List.finRange 64).foldl (fun t i => expireAt i t) s = expired at hexpired ⊢
  exact hexpired.congr rfl rfl (fun _ => rfl) rfl rfl

/-- R189: a message that waits is posted to its class queue. -/
theorem join_storeLawful (h : u.StoreLawful) (hm : u.store.get i = some m) (hs : m.state = .assembling) :
    (u.join i m).StoreLawful := by
  obtain ⟨hstore, hlead, hfollow⟩ := h.crawlLaw
  obtain ⟨hofflead, hofffollow⟩ := (hstore.places i).off hm (.inl hs)
  obtain ⟨hlength, hrepeats, hlifetime, hwaiting⟩ := h.messages i m hm
  refine MessageUnit.CrawlLaw.storeLawful ⟨?_, fun j hj => ?_, fun j hj => ?_⟩ fun hl => ?_
  · rw [join_lead, join_follow]
    exact hstore.joined hm (by rw [hs]; exact nofun) rfl rfl ⟨hlength, hrepeats, hlifetime, fun _ => hwaiting (.inl hs)⟩
      (fun j => ⟨fun hj => ⟨hj, fun hji => hofflead (hji ▸ hj)⟩, fun hj => hj.1⟩)
      fun j => ⟨fun hj => ⟨hj, fun hji => hofffollow (hji ▸ hj)⟩, fun hj => hj.1⟩
  · rw [join_lead] at hj
    rw [join_store]
    exact set_some_ne_none (hlead j hj)
  · rw [join_follow] at hj
    rw [join_store]
    exact set_some_ne_none (hfollow j hj)
  · rw [join_lead] at hl
    rw [join_follow]
    exact h.led hl

/-- R186: a new message in an empty place. -/
theorem opened_storeLawful (h : u.StoreLawful) (hempty : u.store.get i = none) (hlawful : m.Lawful)
    (hs : m.state = .assembling) (hid : ∀ j n, u.store.get j = some n → n.id ≠ m.id) :
    MessageUnit.StoreLawful { u with store := u.store.set i (some m) } := by
  obtain ⟨hstore, hlead, hfollow⟩ := h.crawlLaw
  exact MessageUnit.CrawlLaw.storeLawful ⟨hstore.opened hempty hlawful hs hid (by decide)
    (fun hl => hlead i hl hempty) fun hf => hfollow i hf hempty, fun j hj => set_some_ne_none (hlead j hj),
    fun j hj => set_some_ne_none (hfollow j hj)⟩ h.led

theorem configured_storeLawful {c : QueueConfig} (hc : c.InRange) (h : u.StoreLawful) :
    MessageUnit.StoreLawful { u with config := c } := by
  obtain ⟨-, hmessages, hids, hlead, hfollow, hbehind, htravel, hqueued, honce⟩ := h
  exact ⟨hc, hmessages, hids, hlead, hfollow, hbehind, htravel, hqueued, honce⟩

/-- An empty store is lawful. -/
theorem emptied_storeLawful (hconfig : u.config.InRange) (hstore : ∀ i, u.store.get i = none) (hqueue : ∀ c, u.queue c = [])
    (hlead : u.lead = none) (hfollow : u.follow = none) : u.StoreLawful := by
  have hno : ∀ i m, u.store.get i ≠ some m := fun i m hm => nomatch (hstore i).symm.trans hm
  refine ⟨hconfig, fun i m hm => absurd hm (hno i m), fun i j m n hm => absurd hm (hno i m), fun i => ?_, fun i => ?_,
    fun j hj => (nomatch hfollow.symm.trans hj), fun i m hm => absurd hm (hno i m), fun c i => ?_, fun c => ?_⟩
  · rw [hlead]
    exact ⟨nofun, fun ⟨m, hm, _⟩ => absurd hm (hno i m)⟩
  · rw [hfollow]
    exact ⟨nofun, fun ⟨m, hm, _⟩ => absurd hm (hno i m)⟩
  · rw [hqueue]
    exact ⟨nofun, fun ⟨m, hm, _⟩ => absurd hm (hno i m)⟩
  · rw [hqueue]
    exact List.nodup_nil

end

/-! ## Every operation -/

theorem storeLawful_kept : MessageUnit.Kept MessageUnit.StoreLawful where
  initial := emptied_storeLawful ⟨by decide, by decide, by decide, by decide, by decide, by decide⟩
    (fun i => Tab.get_fill none i) (fun c => by cases c <;> rfl) rfl rfl
  recorded _ h := h.congr rfl rfl (fun _ => rfl) rfl rfl
  started z _ h := crawlFrameStart_storeLawful z h
  pulsed h := pulseMessages_storeLawful h
  configured tag _ _ hc _ _ h := testHold_storeLawful tag (configured_storeLawful hc h)
  opened tag _ _ _ hempty hlawful hs hid h := testHold_storeLawful tag (opened_storeLawful h hempty hlawful hs hid)
  written text hm _ h := by
    rw [update_eq _ hm]
    obtain ⟨hlength, hrepeats, hlifetime, hwaiting⟩ := h.messages _ _ hm
    exact h.changed hm ⟨hlength, hrepeats, hlifetime, hwaiting⟩ rfl rfl rfl rfl
  posted hm hs h := join_storeLawful h hm hs
  removed tag s i m hm hs h := by
    obtain ⟨hold, hmessage⟩ := removeWith_message s tag i (postWithdrawn_message · tag 0 m)
    rw [hmessage]
    exact (h.waitingGone hm hs).congr rfl rfl (fun _ => rfl) rfl rfl
  marked {u i m} hm hs h := by
    rw [update_eq _ hm]
    obtain ⟨hlength, hrepeats, hlifetime, -⟩ := h.messages _ _ hm
    exact h.changed hm ⟨hlength, hrepeats, hlifetime, fun hw => absurd hw (onCrawl_not_waiting hs)⟩ rfl rfl rfl rfl
  reset tag s h := testHold_storeLawful tag (emptied_storeLawful h.config (fun i => Tab.get_fill none i)
    (fun c => by cases c <;> rfl) rfl rfl)

/-- Settles O59: each operation of chapter 10 keeps the hold state on its side of the marks, by the test that follows every
change of the occupancy, and the law of the store, by the change it makes at one place. -/
theorem queueHoldStaysLawful : Obligations.QueueHoldStaysLawful := by
  unfold Obligations.QueueHoldStaysLawful
  refine ⟨fun s t h hst => ?_, fun s t h hst => storeLawful_kept.step hst h⟩
  have hlawful := holdLawful_kept.step hst h
  exact ⟨hlawful, hlawful.qhold⟩

end Sys2Proof.Machine
end
